-- ==== Sys2Proof/Word.lean ====
section
/-! DEFINITION. The word types of the part: bytes, register words, and the masks whose bits
software sees. Everything the manual treats as a whole number (frames, samples, seconds, counts,
gains) is a `Nat` or an `Int`. -/

namespace Sys2Proof

/-- One byte of host memory (R179). -/
abbrev Byte := BitVec 8

/-- One 32-bit register or parameter word (R169, R179). -/
abbrev Word32 := BitVec 32

/-- One 64-bit address or head identity (R179). -/
abbrev Word64 := BitVec 64

end Sys2Proof
end

