-- ==== Sys2Proof/Config.lean ====
section
/-! DEFINITION. What the part's manufacture fixes and the manual does not lay down (R62, R73, R78,
R92), and the values the manual leaves unstated. An `opaque` constant has no body: nothing can be
proved of its value, so a claim holds whatever it is. -/

namespace Sys2Proof

/-- The 64-bit device key identity that the retained domain holds, fixed at manufacture (R73, R92).
UNVERIFIED: the manual gives no value, log entry 6. Safe: nothing can be proved of it. -/
opaque Config.deviceKeyIdentity : Word64

/-- The device key itself, fixed at manufacture (R73). UNVERIFIED, log entry 6. Safe. -/
opaque Config.deviceKey : BitVec 128

/-- The unwrapping of a content key under the device key, not laid down in the manual (R78).
UNVERIFIED, log entry 6. Safe. -/
opaque Config.unwrapKey : BitVec 128 → BitVec 128 → BitVec 128

/-- The word that a LICENCE_STATE entry carries for "no state left" (R77 names none).
DESIGN CHOICE, log entry 17: a free value. Safe. -/
opaque Config.noStateLeftWord : Nat

/-- Part revision of the part described in the manual (R92). -/
def Config.partRevision : Nat := 1

/-- Licence records of the Licence Table (R73). -/
def Config.licenceRecords : Nat := 64

/-- Key slots of the Licence Table (R73). -/
def Config.keySlots : Nat := 256

/-- The booth clock's largest count, 2^40 − 1 (R88). -/
def Config.clockMax : Nat := 2 ^ 40 - 1

/-- Bitmap memory of one lane, in bytes (Subtitle Overlay, R130). -/
def Config.bitmapBytes : Nat := 4194304

/-- Entries that one essence queue holds at most (R49). -/
def Config.queueDepth : Nat := 48

/-- Entries of the awaiting-confirmation list (R117). -/
def Config.awaitingDepth : Nat := 8

/-- Frame boundaries of the closing window, and of the link test's settle (R101, R123). -/
def Config.windowLength : Nat := 8

/-- The largest chunk, 4 MiB (R60). -/
def Config.chunkMax : Nat := 4194304

/-- The largest parameter block (R175). -/
def Config.blockMax : Nat := 8192

/-- The day allowance of Adjust Clock, in seconds (R90). -/
def Config.dayAllowance : Nat := 600

/-- Seconds in a day of the booth clock (R90). -/
def Config.daySeconds : Nat := 86400

/-- The longest show, in frames (R4, R36). -/
def Config.showMax : Nat := 16777215

end Sys2Proof
end

