-- ==== Sys2Proof/Syntax.lean ====
section
/-! DEFINITION. The commands of the part: one constructor of `Instr` per row of
spec/opcode_table.json, with the operands the row's rule needs. A command is an event that reaches
the part from outside (a register access, a posted request, a clock event, a report, a completion). -/

namespace Sys2Proof

/-- A lane: A to D, fields 0 to 3 in records and registers (00_scope.md). -/
inductive LaneId where
  | a | b | c | d
deriving DecidableEq, Repr

/-- A request slot: slots 0 to 3 belong to the lanes, slot 4 to the device (R174). -/
inductive SlotId where
  | lane (l : LaneId)
  | device
deriving DecidableEq, Repr

/-- The index of one of the eight building contact inputs (R164). -/
abbrev InputId := Fin 8

/-- A request as it stands in a slot when it is taken (Record Layouts, Request slot): the tag, the
eight parameter words and the parameter block's address and length. -/
structure Req where
  tag : Byte
  w0 : Word32
  w1 : Word32
  w2 : Word32
  w3 : Word32
  w4 : Word32
  w5 : Word32
  w6 : Word32
  w7 : Word32
  blockAddr : Word64
  blockLen : BitVec 16
deriving DecidableEq, Repr

/-- What the host has done to its own memory since the last command, carried by a register write
(DESIGN CHOICE, log entry 2): bytes stored, in order, and, when given, the address ranges in which
a PCI Express read or write of the part fails from now on (log entry 3). -/
structure HostActs where
  stores : List (Nat × List Byte)
  readFails : Option (List (Nat × Nat))
  writeFails : Option (List (Nat × Nat))
deriving DecidableEq, Repr

/-- The host has done nothing. -/
def HostActs.none : HostActs := ⟨[], Option.none, Option.none⟩

/-- The direction of a failed access of the Booth Table (R172). -/
inductive AccessDir where
  | read | write
deriving DecidableEq, Repr

/-- The area of the Booth Table whose access failed (R172, HALTED area). -/
inductive HaltArea where
  | header
  | slot (n : SlotId)
  | laneStatus (l : LaneId)
  | deviceStatus
  | journal
deriving DecidableEq, Repr

/-- A line fault (R108). -/
inductive LineFault where
  | opened | short | crossed | noSignal
deriving DecidableEq, Repr

/-- The commands: one constructor per row of spec/opcode_table.json. -/
inductive Instr where
  /-- POWER_ON (R170, R73): whether the retained domain kept its contents, and the seconds that its
  clock advanced while main power was off. -/
  | powerOn (kept : Bool) (elapsed : Nat)
  /-- DEVICE_RESET (R169, R170): a write of DEVICE_CONTROL with RESET set; `external` is the clock
  source bit written with it. -/
  | deviceReset (external : Bool)
  /-- RESET_WORK_COMPLETE (R170). -/
  | resetWorkComplete
  /-- CLOCK_SOURCE_SELECT (R154): a write of DEVICE_CONTROL with RESET clear. -/
  | clockSourceSelect (external : Bool)
  /-- TABLE_BASE_HI_WRITE (R171): the word written, and what the host has stored before it. -/
  | tableBaseHiWrite (value : Word32) (acts : HostActs)
  /-- REGISTER_WRITE (R169): the offset in the register window, the word written, what the host has
  stored before it, and whether the check value of a licence package taken by this write agrees. -/
  | registerWrite (offset : BitVec 5) (value : Word32) (acts : HostActs) (agrees : Bool)
  /-- SUMMON (R174): the mask written, what the host has stored before it, and whether the check
  value of a licence package taken by this summon agrees (R78). -/
  | summon (mask : Word32) (acts : HostActs) (agrees : Bool)
  /-- ATTENTION_READ (R173). -/
  | attentionRead
  /-- ATTENTION_MASK_WRITE (R173). -/
  | attentionMaskWrite (value : Word32)
  /-- MAINTENANCE_INPUT_CHANGE (R170): the level of the contact. -/
  | maintenanceInputChange (asserted : Bool)
  /-- UNKNOWN_REQUEST_KIND (R175): the slot and the kind byte found in it. -/
  | unknownRequestKind (slot : SlotId) (kind : Byte) (rq : Req)
  /-- LOAD_SHOW (R4, R5). -/
  | loadShow (l : LaneId) (rq : Req)
  /-- UNLOAD (R7). -/
  | unload (l : LaneId) (rq : Req)
  /-- REWIND (R8). -/
  | rewind (l : LaneId) (rq : Req)
  /-- LANE_RESET (R9). -/
  | laneReset (l : LaneId) (rq : Req)
  /-- SET_LANE_OPTIONS (R3). -/
  | setLaneOptions (l : LaneId) (rq : Req)
  /-- WRITE_SOUND_MAP (R143). -/
  | writeSoundMap (l : LaneId) (rq : Req)
  /-- START (R10, R11). -/
  | start (l : LaneId) (rq : Req)
  /-- START_AT (R12). -/
  | startAt (l : LaneId) (rq : Req)
  /-- START_AT_FIRING (R13): the second event at which the lane fires. -/
  | startAtFiring (l : LaneId)
  /-- CANCEL_START (R14). -/
  | cancelStart (l : LaneId) (rq : Req)
  /-- HOLD (R18). -/
  | hold (l : LaneId) (rq : Req)
  /-- CANCEL_HOLD (R19). -/
  | cancelHold (l : LaneId) (rq : Req)
  /-- RESUME (R21). -/
  | resume (l : LaneId) (rq : Req)
  /-- STOP (R23). -/
  | stop (l : LaneId) (rq : Req)
  /-- SEEK (R22). -/
  | seek (l : LaneId) (rq : Req)
  /-- SET_LEVEL (R33). -/
  | setLevel (l : LaneId) (rq : Req)
  /-- TEST_INDICATORS (R32). -/
  | testIndicators (l : LaneId) (rq : Req)
  /-- LINK_TEST (R122). -/
  | linkTest (l : LaneId) (rq : Req)
  /-- INSTALL_LICENCE (R78): whether the package's check value agrees. -/
  | installLicence (rq : Req) (agrees : Bool)
  /-- REMOVE_LICENCE (R81). -/
  | removeLicence (rq : Req)
  /-- READ_LICENCE (R82). -/
  | readLicence (rq : Req)
  /-- LIST_LICENCES (R83). -/
  | listLicences (rq : Req)
  /-- SET_CLOCK (R89). -/
  | setClock (rq : Req)
  /-- ADJUST_CLOCK (R90). -/
  | adjustClock (rq : Req)
  /-- READ_IDENTITY (R92). -/
  | readIdentity (rq : Req)
  /-- FACTORY_CLEAR (R93). -/
  | factoryClear (rq : Req)
  /-- SET_INPUTS (R168). -/
  | setInputs (rq : Req)
  /-- FRAME_BOUNDARY (R15). -/
  | frameBoundary (l : LaneId)
  /-- PRIMED (R6): the frame boundary at which the lane is found primed. -/
  | primed (l : LaneId)
  /-- SEEK_PRIMED (R22): the frame boundary at which a SEEKING lane is found primed. -/
  | seekPrimed (l : LaneId)
  /-- HOLD_TAKEN (R20): the frame boundary that takes the pending hold. -/
  | holdTaken (l : LaneId)
  /-- STARVE_LIMIT_EXPIRY (R24): the frame boundary that brings the starve run above its limit. -/
  | starveLimitExpiry (l : LaneId)
  /-- LINK_GRACE_EXPIRY (R25): the frame boundary that brings link grace above its limit. -/
  | linkGraceExpiry (l : LaneId)
  /-- HOLD_LIMIT_EXPIRY (R26): the frame boundary that brings the hold timer to its limit. -/
  | holdLimitExpiry (l : LaneId)
  /-- CLOSING_WINDOW_EXPIRED (R101): the frame boundary that brings the window count to 8. -/
  | closingWindowExpired (l : LaneId)
  /-- LINK_TEST_COMPLETE (R124): the eighth settle boundary of a link test. -/
  | linkTestComplete (l : LaneId)
  /-- MILLISECOND_TICK (R149). -/
  | millisecondTick (l : LaneId)
  /-- FADE_COMPLETE (R23): the millisecond tick that takes the last output of a STOPPING lane to
  mute. -/
  | fadeComplete (l : LaneId)
  /-- SECOND_EVENT (R88). -/
  | secondEvent
  /-- INPUT_TICK (R165): bit n is set when the contact of input n is closed. -/
  | inputTick (contacts : BitVec 8)
  /-- INPUT_DEBOUNCE_ACCEPT (R165): the input tick at which input `i` reaches its debounce. -/
  | inputDebounceAccept (i : InputId) (contacts : BitVec 8)
  /-- CHATTER_LEFT (R166): the input tick at which input `i` leaves CHATTERING. -/
  | chatterLeft (i : InputId) (contacts : BitVec 8)
  /-- FETCH_GRANT (R53). -/
  | fetchGrant
  /-- FETCH_COMPLETION (R63): whether the chunk's check value agrees, and the bytes that
  deciphering a keyed chunk yields. -/
  | fetchCompletion (agrees : Bool) (plain : List Byte)
  /-- SUBTITLE_CHUNK_COMPLETION (R70): as FETCH_COMPLETION. -/
  | subtitleChunkCompletion (agrees : Bool) (plain : List Byte)
  /-- LINE_FAULT_DETECTED (R108). -/
  | lineFaultDetected (l : LaneId) (kind : LineFault)
  /-- LINE_GOOD (R108). -/
  | lineGood (l : LaneId)
  /-- LOCK_ACHIEVED (R109). -/
  | lockAchieved (l : LaneId)
  /-- LOCK_LOST (R109). -/
  | lockLost (l : LaneId)
  /-- BAD_REPORT (R110): a report whose check fails. -/
  | badReport (l : LaneId)
  /-- HEAD_IDENTITY_REPORT (R111). -/
  | headIdentityReport (l : LaneId) (identity : Word64)
  /-- HEAD_STATUS_REPORT (R112). -/
  | headStatusReport (l : LaneId) (ready : Bool)
  /-- SHOWN_REPORT (R118). -/
  | shownReport (l : LaneId) (seq : BitVec 16)
  /-- TEST_TALLY_REPORT (R123). -/
  | testTallyReport (l : LaneId) (seq : BitVec 16) (intact : Bool)
  /-- REFERENCE_LOCK (R154). -/
  | referenceLock
  /-- REFERENCE_LOSS (R155). -/
  | referenceLoss
  /-- CLOCK_SWITCH_BACK (R156). -/
  | clockSwitchBack
  /-- JOURNAL_GAP (R178): a re-read of the journal read index. -/
  | journalGap
  /-- TABLE_ACCESS_FAILURE (R172): the direction and the area of the access that failed. -/
  | tableAccessFailure (dir : AccessDir) (area : HaltArea)
deriving DecidableEq, Repr

end Sys2Proof
end

