-- ==== Sys2Proof/Machine/Types.lean ====
section
/-! DEFINITION. The named values and the records that the state is made of. The constructors of each
enumeration stand in the order of the code table of Record Layouts, so that a value's code is its
position (R179). -/

namespace Sys2Proof.Machine

/-! ## Enumerations of the code table (R179) -/

/-- Device states (R170). -/
inductive DeviceState where
  | reset | waitClock | waitTable | running | halted
deriving DecidableEq, Repr

/-- Device reasons (R171, R172). -/
inductive DeviceReason where
  | none | align | read | write | layout | haltRead | haltWrite
deriving DecidableEq, Repr

/-- Lane states (R1, R2). -/
inductive LaneState where
  | empty | loading | ready | armed | playing | held | seeking | stopping | ended | fault
deriving DecidableEq, Repr

/-- Causes of a change of lane state (R2). -/
inductive Cause where
  | none | request | primed | clockStart | operatorNow | operatorReelEnd | inputHold | operator
  | complete | starved | linkLost | holdExpired | emergency | headChanged | fault | unload
  | laneReset
deriving DecidableEq, Repr

/-- Result codes of an answer (R175). -/
inductive ResultCode where
  | ok | state | param | noRoom | licence | inUse | notPermitted | badPackage | sequence
  | unknownRequest | inputActive | soundMap | link | head | clock
deriving DecidableEq, Repr

/-- Reasons of an answer (R179, code table). -/
inductive Reason where
  | none | reelCount | editRate | noPicture | range | sampleRate | channels | length
  | licenceCount | readError | mode | reelIndex | section_ | source | terms | issue
  | allowanceBelowCount | duplicateKey | unknownLicence | buffer | writeError | blockLength
  | function | polarity | keyUnknown | lane | notOpen | headNotPermitted | allowance | clock
  | trackKind | eyes
deriving DecidableEq, Repr

/-- Journal entry kinds (R177). -/
inductive JournalKind where
  | laneState | fetchWanted | reelStart | showCounted | tallyClosed | startFailed | holdDiscarded
  | cueFired | cueMissed | linkState | headChanged | licenceState | input | clock | fault | gap
deriving DecidableEq, Repr

/-- Track kinds (R48). -/
inductive TrackKind where
  | picture | soundMain | soundAux | subtitle1 | subtitle2
deriving DecidableEq, Repr

/-- Poison kinds, which are also the fault causes (R29, R49). -/
inductive PoisonKind where
  | integrity | malformed | readError
deriving DecidableEq, Repr

/-- Integrity modes (R3, R68). -/
inductive IntegrityMode where
  | tolerant | strict
deriving DecidableEq, Repr

/-- Fetch wait reasons (R52). -/
inductive WaitReason where
  | idle | through | full | ahead | permission | residency | none
deriving DecidableEq, Repr

/-- Link states (R107 to R124). -/
inductive LinkState where
  | down | training | locked | testing
deriving DecidableEq, Repr

/-- Head status (R112). -/
inductive HeadStatus where
  | unknown | ready | notReady
deriving DecidableEq, Repr

/-- Held link test results (R124). -/
inductive TestResult where
  | none | pass | fail
deriving DecidableEq, Repr

/-- Phases of the Run Tally (R94). -/
inductive TallyPhase where
  | absent | built | running | closing | closed
deriving DecidableEq, Repr

/-- Status of a tally entry (R94). -/
inductive EntryStatus where
  | pending | reserved | counted | released
deriving DecidableEq, Repr

/-- Derived states of a licence (R76); REMOVED stands in journal entries only (R77). -/
inductive LicenceState where
  | clockUnknown | waiting | closed | spent | opened | removed
deriving DecidableEq, Repr

/-- States of a cue store place (R126). -/
inductive StoreState where
  | none | fetching | decoded | lost
deriving DecidableEq, Repr

/-- Loss reasons of a LOST store (R127, R128). -/
inductive StoreLoss where
  | none | container | chunk | noChunks
deriving DecidableEq, Repr

/-- Clock source states (R154). -/
inductive ClockSource where
  | internal | acquiring | external | holdover
deriving DecidableEq, Repr

/-- Accepted levels of a building input (R164). -/
inductive InputLevel where
  | inactive | active | unknown
deriving DecidableEq, Repr

/-- Functions of a building input (R164, R167). -/
inductive InputFunction where
  | none | report | hold | emergency
deriving DecidableEq, Repr

/-- Polarities of a building input (R164). -/
inductive Polarity where
  | activeClosed | activeOpen
deriving DecidableEq, Repr

/-- Ways a run tally closes (R101 to R104). -/
inductive WayClosed where
  | drained | expired | unload | laneReset | rewind
deriving DecidableEq, Repr

/-- Kinds of CLOCK journal entry (R89, R90, R93, R155, R156). -/
inductive ClockEntry where
  | set | adjusted | cleared | referenceLost | referenceLocked | switchedBack
deriving DecidableEq, Repr

/-- Kinds of change that an INPUT journal entry reports (R167). -/
inductive InputChange where
  | accepted | chatterEntered | chatterLeft
deriving DecidableEq, Repr

/-- The ten indicators of a lane, in the order of the indicator table of Lane Operation (R31). -/
inductive Indicator where
  | concealed | poisoned | soundGap | clip | overlaySaturated | subtitleLost | unseen | lateTally
  | cueMissed | linkError
deriving DecidableEq, Repr

/-- The three essence tracks of a lane (R49). -/
inductive Essence where
  | picture | main | aux
deriving DecidableEq, Repr

/-- The two subtitle tracks of a lane (Subtitle Overlay). -/
inductive Subtitle where
  | one | two
deriving DecidableEq, Repr

/-- The four cue store places of a lane (R126). -/
inductive Place where
  | current1 | current2 | next1 | next2
deriving DecidableEq, Repr

/-! ## Groups of like things -/

/-- One of each for the four lanes. -/
structure Quad (α : Type) where
  a : α
  b : α
  c : α
  d : α
deriving DecidableEq, Repr

/-- One member for each lane. -/
def Quad.of {α : Type} (f : LaneId → α) : Quad α := ⟨f .a, f .b, f .c, f .d⟩

/-- The lane's member. -/
def Quad.get {α : Type} (q : Quad α) : LaneId → α
  | .a => q.a
  | .b => q.b
  | .c => q.c
  | .d => q.d

/-- The group with the lane's member replaced. -/
def Quad.set {α : Type} (q : Quad α) (l : LaneId) (x : α) : Quad α :=
  match l with
  | .a => { q with a := x }
  | .b => { q with b := x }
  | .c => { q with c := x }
  | .d => { q with d := x }

/-- One of each for the three essence tracks. -/
structure PerEssence (α : Type) where
  picture : α
  main : α
  aux : α
deriving DecidableEq, Repr

/-- The track's member. -/
def PerEssence.get {α : Type} (q : PerEssence α) : Essence → α
  | .picture => q.picture
  | .main => q.main
  | .aux => q.aux

/-- The group with the track's member replaced. -/
def PerEssence.set {α : Type} (q : PerEssence α) (e : Essence) (x : α) : PerEssence α :=
  match e with
  | .picture => { q with picture := x }
  | .main => { q with main := x }
  | .aux => { q with aux := x }

/-- One of each for the two subtitle tracks. -/
structure PerSubtitle (α : Type) where
  one : α
  two : α
deriving DecidableEq, Repr

/-- The track's member. -/
def PerSubtitle.get {α : Type} (q : PerSubtitle α) : Subtitle → α
  | .one => q.one
  | .two => q.two

/-- The group with the track's member replaced. -/
def PerSubtitle.set {α : Type} (q : PerSubtitle α) (t : Subtitle) (x : α) : PerSubtitle α :=
  match t with
  | .one => { q with one := x }
  | .two => { q with two := x }

/-! ## The show, as copied at Load Show (R4, R36, R48) -/

/-- The key of a keyed track: its id, the slot that holds it and the licence that owns it (R48). -/
structure KeyUse where
  keyId : Nat
  slot : Nat
  licence : Nat
deriving DecidableEq, Repr

/-- The track plan of one present track of one reel (R48). -/
structure TrackPlan where
  chunkMap : Nat
  frames : Nat
  chunks : Nat
  key : Option KeyUse
  channels : Nat
  eyes : Nat
deriving DecidableEq, Repr

/-- One reel of the show copy: D, E and start (R36), its present tracks (R48) and the clamped
placement offsets of its subtitle tracks (R135). -/
structure Reel where
  duration : Nat
  entry : Nat
  start : Nat
  offsets : PerSubtitle Int
  essence : PerEssence (Option TrackPlan)
  subtitles : PerSubtitle (Option TrackPlan)
deriving DecidableEq, Repr

/-- The show copy with its track plan (R4, R36, R48). -/
structure Show where
  editRate : Nat
  sampleRate : Nat
  titleCode : Nat
  cueTable : Nat
  total : Nat
  reels : List Reel
deriving DecidableEq, Repr

/-! ## Lane Controller -/

/-- Lane options with their defaults in `LaneOptions.default` (R3). -/
structure LaneOptions where
  primeDepth : Nat
  integrity : IntegrityMode
  starveLimit : Nat
  linkGrace : Nat
  holdLimit : Nat
  fadeRate : Nat
  liveUpdate : Bool
  emergencyMask : BitVec 8
  emergencyValue : BitVec 8
deriving DecidableEq, Repr

/-- When a pending hold is to be taken (R18). -/
inductive HoldWhen where
  | now
  | reelEnd (reel : Nat)
deriving DecidableEq, Repr

/-- The pending hold record (R18). -/
structure HoldRecord where
  cause : Cause
  when_ : HoldWhen
  merged : Nat
deriving DecidableEq, Repr

/-- The fault record (R29). -/
structure FaultRecord where
  cause : PoisonKind
  p : Nat
  track : TrackKind
  frame : Nat
  snapshot : BitVec 10
  licences : List Nat
deriving DecidableEq, Repr

/-- The indicators: current values, hold values and the period record (R31). -/
structure Indicators where
  current : BitVec 10
  held : BitVec 10
  period : BitVec 10
deriving DecidableEq, Repr

/-! ## Run Tally -/

/-- A tally entry (R94). -/
structure TallyEntry where
  licence : Nat
  total : Nat
  threshold : Nat
  confirmed : Nat
  status : EntryStatus
deriving DecidableEq, Repr

/-- The Run Tally of a lane (R94): `credit` holds, for each reel in order, the indexes of the
entries of its credit set. -/
structure Tally where
  phase : TallyPhase
  entries : List TallyEntry
  credit : List (List Nat)
  window : Nat
  endCause : Cause
deriving DecidableEq, Repr

/-! ## Unpacker -/

/-- A position: a reel (from 1) and a track frame (R38). -/
structure Position where
  reel : Nat
  frame : Nat
deriving DecidableEq, Repr

/-- The deciphered content of a READY entry (R49). -/
inductive Content where
  | picture (units : List (List Byte))
  | sound (samples : List Int)
deriving DecidableEq, Repr

/-- The state of a queue entry (R49). -/
inductive EntryBody where
  | ready (content : Content)
  | poisoned (kind : PoisonKind)
deriving DecidableEq, Repr

/-- A queue entry (R49). -/
structure QueueEntry where
  pos : Position
  showFrame : Nat
  body : EntryBody
deriving DecidableEq, Repr

/-- A wanted record (R56, R57): the position found not resident and the announced flag. -/
structure Wanted where
  reel : Nat
  frame : Nat
  announced : Bool
deriving DecidableEq, Repr

/-- One essence track of a lane (R49, R51, R56): its queue, its fetch position (none once fetched
through, or when the track is absent), whether it waits for residency, and its wanted record. -/
structure EssenceTrack where
  queue : List QueueEntry
  fetch : Option Position
  waiting : Bool
  wanted : Option Wanted
deriving DecidableEq, Repr

/-- The work of a transaction (R54): an essence position, or a chunk of a subtitle store. -/
inductive Work where
  | essence (e : Essence) (pos : Position)
  | subtitle (t : Subtitle) (reel chunk : Nat)
deriving DecidableEq, Repr

/-- The transaction in flight (R55): bound to a lane and its fetch generation, past its length
stage, reading `length` bytes at `address`. -/
structure Flight where
  lane : LaneId
  generation : Nat
  work : Work
  address : Nat
  length : Nat
deriving DecidableEq, Repr

/-- The fetch engine (R53): the lane that the next search begins at, and the transaction in
flight. -/
structure Engine where
  searchFrom : LaneId
  flight : Option Flight
deriving DecidableEq, Repr

/-! ## Overlay Composer -/

/-- A kept cue (Subtitle Overlay): times in track frames, fitted fades, placement and bitmap. -/
structure Cue where
  number : Nat
  inFrame : Nat
  outFrame : Nat
  fadeIn : Nat
  fadeOut : Nat
  x : Nat
  y : Nat
  w : Nat
  h : Nat
  palette : Nat
  bitmapOffset : Nat
  bitmap : List Byte
deriving DecidableEq, Repr

/-- A cue store place (R126): the store it holds, its decode progress (the container bytes received
and whether its header and its cue records have been judged), its counts, the bitmap memory it
holds, and the Unpacker's subtitle fetch position and residency wait for it (R70). -/
structure Store where
  reel : Nat
  state : StoreState
  loss : StoreLoss
  palette : List (Nat × Nat × Nat)
  cues : List Cue
  received : List Byte
  headerJudged : Bool
  recordsJudged : Bool
  malformed : Nat
  overCap : Nat
  outsideReel : Nat
  forMemory : Nat
  heldBytes : Nat
  fetchChunk : Nat
  waiting : Bool
deriving DecidableEq, Repr

/-- The Overlay Composer of a lane. `tileMap` lists the lit tiles in increasing order. -/
structure Overlay where
  current1 : Store
  current2 : Store
  next1 : Store
  next2 : Store
  palettePending : PerSubtitle Bool
  tileMap : List Nat
  active : PerSubtitle Nat
deriving DecidableEq, Repr

/-! ## Projector Link -/

/-- Kinds of frame record (R115). -/
inductive RecordKind where
  | real | repeated | black
deriving DecidableEq, Repr

/-- A tile update (R139): TILE with each pixel's colour index and transmitted alpha, or CLEAR. -/
inductive TileUpdate where
  | tile (index : Nat) (pixels : List (Nat × Nat))
  | clear (index : Nat)
deriving DecidableEq, Repr

/-- A frame record (R115). -/
structure FrameRecord where
  seq : Nat
  kind : RecordKind
  units : List (List Byte)
  shutterOpen : Bool
  palettes : List (Subtitle × List (Nat × Nat × Nat))
  tiles : List TileUpdate
deriving DecidableEq, Repr

/-- What the forward direction carries: in TRAINING training patterns, each with an identity request
once the lock flag is set (R109); else the frame record or test record of the last boundary (R115,
R116, R123), and nothing before the first (log entry 51). -/
inductive Forward where
  | nothing
  | training (identityRequest : Bool)
  | frame (r : FrameRecord)
  | test (seq : Nat)
deriving DecidableEq, Repr

/-- An entry of the awaiting-confirmation list (R117). -/
structure Awaiting where
  seq : Nat
  showFrame : Nat
  eligible : Bool
  runMark : Bool
deriving DecidableEq, Repr

/-- A link test in progress (R122, R123): test records and settle boundaries left, the error count,
and the sequence numbers of the test records sent, each with its tallied mark. -/
structure LinkTest where
  left : Nat
  settle : Nat
  errors : Nat
  sent : List (Nat × Bool)
deriving DecidableEq, Repr

/-- The held test result (R124). -/
structure HeldTest where
  result : TestResult
  errors : Nat
  sent : Nat
deriving DecidableEq, Repr

/-- The Projector Link of a lane. `line` is the line's condition as it was last detected, good when
`none` (log entry 25); `faultKind` is the recorded line fault kind (R108). -/
structure Link where
  state : LinkState
  line : Option LineFault
  faultKind : Option LineFault
  lockFlag : Bool
  headId : Option Word64
  headStatus : HeadStatus
  frameHeld : Bool
  seq : Nat
  awaiting : List Awaiting
  errorCount : Nat
  unseen : Nat
  late : Nat
  test : LinkTest
  heldTest : HeldTest
  forward : Forward
deriving DecidableEq, Repr

/-! ## Sound Renderer -/

/-- Map state (R142). -/
inductive MapStage where
  | noSection | routing | complete
deriving DecidableEq, Repr

/-- A source of an output (ROUTING section). -/
inductive Source where
  | none
  | main (channel : Nat)
  | aux (channel : Nat)
deriving DecidableEq, Repr

/-- A trim in tenths of a decibel and a mute flag (TRIMS section). -/
structure Trim where
  trim : Int
  mute : Bool
deriving DecidableEq, Repr

/-- A gain in tenths of a decibel, or mute (R148). -/
inductive Gain where
  | mute
  | level (v : Int)
deriving DecidableEq, Repr

/-- The Sound Renderer of a lane (R142). `period` holds the source samples of each output for the
frame period in progress, an empty list standing for zeros; `periodPos` of its `periodLen` sample
instants, and `tickPos` of the `tickLen` sample instants of the millisecond tick, have been played
(R34, log entry 20). `out` holds each output's samples at the `outLen` sample instants that were played
last, an instant past the end of a list standing for zero (R147, R153); `silenced` says that the lines have
carried zero since those (log entry 20). -/
structure Sound where
  stage : MapStage
  routing : List Source
  trims : List Trim
  stagedRouting : Option (List Source)
  stagedTrims : Option (List Trim)
  target : List Gain
  applied : List Gain
  clipCount : Nat
  period : List (List Int)
  periodPos : Nat
  periodLen : Nat
  tickPos : Nat
  tickLen : Nat
  out : List (List Int)
  outLen : Nat
  silenced : Bool
deriving DecidableEq, Repr

/-! ## Automation Unit -/

/-- A mark of the mark set: clear, or FIRED or MISSED with its mark frame and position (R157). -/
inductive Mark where
  | clear
  | fired (frame position : Nat)
  | missed (frame position : Nat)
deriving DecidableEq, Repr

/-- The cue scanner of a lane (R157, R161): marks, write pending flags, read error flag. -/
structure CueScanner where
  marks : List Mark
  writePending : List Bool
  readError : Bool
deriving DecidableEq, Repr

/-- Settings of a building input (R164): bit n of the mask is lane n. -/
structure InputSettings where
  function : InputFunction
  mask : BitVec 4
  polarity : Polarity
  debounce : Nat
deriving DecidableEq, Repr

/-- Filter state of a building input (R164). `fresh` says that no sample has been taken since the
last restart (R168, log entry 22); `history` holds input tick times, oldest first. -/
structure InputFilter where
  raw : Bool
  fresh : Bool
  stable : Nat
  level : InputLevel
  chattering : Bool
  history : List Nat
deriving DecidableEq, Repr

/-- A building input. -/
structure Input where
  settings : InputSettings
  filter : InputFilter
deriving DecidableEq, Repr

/-! ## Licence Table and Clock Unit -/

/-- A licence record (R74): `keys` gives each key id with its slot index. -/
structure Licence where
  id : Nat
  issue : Nat
  title : Nat
  notBefore : Nat
  notAfter : Nat
  allowance : Nat
  counted : Nat
  inFlight : Nat
  percent : Nat
  laneMask : BitVec 4
  heads : List Word64
  keys : List (Nat × Nat)
  state : LicenceState
deriving DecidableEq, Repr

/-- A key slot in use (R75). -/
structure KeySlot where
  keyId : Nat
  licence : Nat
  key : BitVec 128
deriving DecidableEq, Repr

/-- The Licence Table with the booth clock (R73): all of it in the retained domain but
`retainedLost`. -/
structure LicenceTable where
  records : List (Option Licence)
  keys : List (Option KeySlot)
  clock : Nat
  clockValid : Bool
  adjustDay : Option Nat
  adjustLeft : Nat
  deviceKeyId : Word64
  deviceKey : BitVec 128
  retainedLost : Bool
deriving DecidableEq, Repr

/-- The Clock Unit (R154) with the selection that DEVICE_CONTROL holds (R169). -/
structure ClockUnit where
  external : Bool
  source : ClockSource
  refLocked : Bool
deriving DecidableEq, Repr

/-! ## Table Interface -/

/-- The journal state of the Table Interface (R177, R178). -/
structure Journal where
  writeIndex : Nat
  seq : Nat
  withheld : Nat
  readIndex : Nat
deriving DecidableEq, Repr

/-- A journal entry before it is written (R177): its detail words are the first three of
`words`. -/
structure JournalEntry where
  kind : JournalKind
  lane : Option LaneId
  p : Nat
  words : List Nat
deriving DecidableEq, Repr

/-- An owner's answer to a request (R175). -/
structure Answer where
  code : ResultCode
  reason : Reason
  index : Nat
  words : List Nat
deriving DecidableEq, Repr

/-- Host memory as the part sees it over PCI Express (log entries 1 and 3): its bytes, and the
address ranges (start, length) in which reads and writes fail. -/
structure HostSide where
  mem : List Host.Cell
  readFails : List (Nat × Nat)
  writeFails : List (Nat × Nat)
deriving DecidableEq, Repr

/-! ## The lane -/

/-- Everything the part holds for one lane (R1, R3, R18, R24 to R26, R29, R31, R33, R94, R49, R57,
R66, R107, R126, R142, R157, R163). `holdLimit` is the hold limit converted at the entry to HELD
(R47); `statusCount` is the update count of the Lane Status Record (R176). -/
structure Lane where
  state : LaneState
  loaded : Option Show
  p : Nat
  hold : Option HoldRecord
  starveRun : Nat
  linkGrace : Nat
  holdTimer : Nat
  holdLimit : Nat
  lastCause : Cause
  startSecond : Option Nat
  waitingLicence : Bool
  options : LaneOptions
  level : Nat
  indicators : Indicators
  faultRecord : Option FaultRecord
  tally : Tally
  tracks : PerEssence EssenceTrack
  subWanted : PerSubtitle (Option Wanted)
  lastReal : Option Nat
  generation : Nat
  overlay : Overlay
  link : Link
  sound : Sound
  contacts : BitVec 8
  scanner : CueScanner
  statusCount : Nat
deriving DecidableEq, Repr

end Sys2Proof.Machine
end

