-- ==== Sys2Proof/Machine/Defaults.lean ====
section
/-! DEFINITION. The values that each piece of state takes after power-on and Device Reset, as the
chapter that owns it gives them. -/

namespace Sys2Proof.Machine

/-- The defaults of the lane options (R3). -/
def defaultOptions : LaneOptions where
  primeDepth := 24
  integrity := .tolerant
  starveLimit := 120
  linkGrace := 48
  holdLimit := 30
  fadeRate := 1
  liveUpdate := false
  emergencyMask := 0
  emergencyValue := 0

/-- The default fader level (R33). -/
def defaultLevel : Nat := 70

/-- No indicator set (R1, R31). -/
def noIndicators : Indicators := ⟨0, 0, 0⟩

/-- A tally that is ABSENT with no entries (R94); the run-end cause NONE and the window count 0: DESIGN
CHOICE, log entry 53. -/
def absentTally : Tally := ⟨.absent, [], [], 0, .none⟩

/-- An essence track with an empty queue, no fetch position and no wanted record (R48, R64). -/
def emptyTrack : EssenceTrack := ⟨[], none, false, none⟩

/-- All three essence tracks empty (R64). -/
def emptyTracks : PerEssence EssenceTrack := ⟨emptyTrack, emptyTrack, emptyTrack⟩

/-- A store place in NONE (R126). -/
def noStore : Store where
  reel := 0
  state := .none
  loss := .none
  palette := []
  cues := []
  received := []
  headerJudged := false
  recordsJudged := false
  malformed := 0
  overCap := 0
  outsideReel := 0
  forMemory := 0
  heldBytes := 0
  fetchChunk := 0
  waiting := false

/-- The Overlay Composer after power-on (R126). -/
def initialOverlay : Overlay where
  current1 := noStore
  current2 := noStore
  next1 := noStore
  next2 := noStore
  palettePending := ⟨false, false⟩
  tileMap := []
  active := ⟨0, 0⟩

/-- No test in progress (R107). -/
def noTest : LinkTest := ⟨0, 0, 0, []⟩

/-- The held test result NONE (R107). -/
def noHeldTest : HeldTest := ⟨.none, 0, 0⟩

/-- The link after power-on, before it judges its line (R107); the line carries no signal
(log entry 25). -/
def initialLink : Link where
  state := .down
  line := some .noSignal
  faultKind := some .noSignal
  lockFlag := false
  headId := none
  headStatus := .unknown
  frameHeld := false
  seq := 0
  awaiting := []
  errorCount := 0
  unseen := 0
  late := 0
  test := noTest
  heldTest := noHeldTest
  forward := .nothing

/-- Twenty-four outputs routed from no source (R142). -/
def noRouting : List Source := List.replicate 24 .none

/-- Twenty-four trims of 0 with clear mute flags (R142). -/
def noTrims : List Trim := List.replicate 24 ⟨0, false⟩

/-- Twenty-four muted gains (R142). -/
def allMute : List Gain := List.replicate 24 .mute

/-- Zero source samples on every output (R142, R147). -/
def silence : List (List Int) := List.replicate 24 []

/-- The Sound Renderer after power-on (R142), with a frame period of 2,000 samples and a millisecond
tick of 48 beginning (R34, R35). -/
def initialSound : Sound where
  stage := .noSection
  routing := noRouting
  trims := noTrims
  stagedRouting := none
  stagedTrims := none
  target := allMute
  applied := allMute
  clipCount := 0
  period := silence
  periodPos := 0
  periodLen := 2000
  tickPos := 0
  tickLen := 48
  out := silence
  outLen := 0
  silenced := true

/-- A mark set with all 32 marks clear and no write pending (R157). -/
def clearScanner : CueScanner := ⟨List.replicate 32 .clear, List.replicate 32 false, false⟩

/-- A lane after power-on (R1). -/
def initialLane : Lane where
  state := .empty
  loaded := none
  p := 0
  hold := none
  starveRun := 0
  linkGrace := 0
  holdTimer := 0
  holdLimit := 0
  lastCause := .none
  startSecond := none
  waitingLicence := false
  options := defaultOptions
  level := defaultLevel
  indicators := noIndicators
  faultRecord := none
  tally := absentTally
  tracks := emptyTracks
  subWanted := ⟨none, none⟩
  lastReal := none
  generation := 0
  overlay := initialOverlay
  link := initialLink
  sound := initialSound
  contacts := 0
  scanner := clearScanner
  statusCount := 0

/-- An input after power-on (R164): function REPORT, lane mask 0, ACTIVE_CLOSED, 20 ms, UNKNOWN. The
raw sample before the first tick is DESIGN CHOICE, log entry 22. -/
def initialInput : Input where
  settings := ⟨.report, 0, .activeClosed, 20⟩
  filter := ⟨false, true, 0, .unknown, false, []⟩

/-- A fetch engine with nothing in flight that searches lane A first (R53). -/
def initialEngine : Engine := ⟨.a, none⟩

/-- A Licence Table whose retained domain lost its contents (R73). -/
def lostTable (identity : Word64) (key : BitVec 128) : LicenceTable where
  records := List.replicate Config.licenceRecords none
  keys := List.replicate Config.keySlots none
  clock := 0
  clockValid := false
  adjustDay := none
  adjustLeft := Config.dayAllowance
  deviceKeyId := identity
  deviceKey := key
  retainedLost := true

/-- The journal state after a reset (R170, R178). -/
def initialJournal : Journal := ⟨0, 0, 0, 0⟩

end Sys2Proof.Machine
end

