-- ==== Sys2Proof/Machine/State.lean ====
section
/-! DEFINITION. The state of the part as plain data, the reasons a step can stop, and the state
right after reset. -/

namespace Sys2Proof.Machine

/-- The whole state: the Table Interface (R169 to R178), the Clock Unit (R154), the Licence Table
(R73), the fetch engine (R53), the building inputs (R164), the four lanes, host memory, and the
queue of commands that wait. `readData` is the word that the last register read returned, and
`recordChanged` says of each lane whether a field of its Lane Status Record has changed since the lane's
last frame boundary (R176, log entry 76). -/
structure State where
  device : DeviceState
  reason : DeviceReason
  haltArea : Option HaltArea
  tableLo : Word32
  tableHi : Word32
  hiStored : Bool
  attention : BitVec 7
  attentionMask : BitVec 7
  summonFlags : BitVec 5
  readData : Word32
  maintenance : Bool
  journal : Journal
  statusCount : Nat
  clockUnit : ClockUnit
  licences : LicenceTable
  engine : Engine
  inputs : List Input
  inputTicks : Nat
  lanes : Quad Lane
  recordChanged : Quad Bool
  host : HostSide
  pending : List Instr
deriving DecidableEq, Repr

/-- Why a step could stop with a fault. No rule of the manual stops the part: HALTED (R172) and the
lane state FAULT (R29) are states, so no meaning raises one. -/
inductive Fault where
  /-- Raised by nobody; the type is kept closed and inhabited. Safe: no claim can reach it. -/
  | none
deriving DecidableEq, Repr

/-- Why a step could refuse a command. -/
inductive Refusal where
  /-- Raised only by an arm of `exec` that has no meaning yet; there is none. Safe: it stops. -/
  | notModelled (mnemonic : String)
deriving DecidableEq, Repr

/-- The part right after a power-on whose retained domain held nothing (R73, R107, R142, R157, R164,
R169, R170): the device is in RESET. DESIGN CHOICE where a log entry says so: entries 6, 7, 22, 25,
27, 76. -/
def State.reset : State where
  device := .reset
  reason := .none
  haltArea := none
  tableLo := 0
  tableHi := 0
  hiStored := false
  attention := 0
  attentionMask := 0
  summonFlags := 0
  readData := 0
  maintenance := false
  journal := initialJournal
  statusCount := 0
  clockUnit := ⟨false, .internal, false⟩
  licences := lostTable Config.deviceKeyIdentity Config.deviceKey
  engine := initialEngine
  inputs := List.replicate 8 initialInput
  inputTicks := 0
  lanes := ⟨initialLane, initialLane, initialLane, initialLane⟩
  recordChanged := ⟨false, false, false, false⟩
  host := ⟨[], [], []⟩
  pending := []

end Sys2Proof.Machine
end

