-- ==== Sys2Proof/Machine/Codes.lean ====
section
/-! DEFINITION. The code table of Record Layouts: the code of a named value is its position in its
list, counting from 0 (R179); and the lane fields 0 to 3. -/

namespace Sys2Proof.Machine

/-- The lane field of a lane (00_scope.md). -/
def laneIndex : LaneId → Nat
  | .a => 0
  | .b => 1
  | .c => 2
  | .d => 3

/-- The four lanes in order. -/
def allLanes : List LaneId := [.a, .b, .c, .d]

/-- The lane after a lane, in the order A, B, C, D, A (R53). -/
def nextLane : LaneId → LaneId
  | .a => .b
  | .b => .c
  | .c => .d
  | .d => .a

/-- The number of a slot (R174). -/
def slotIndex : SlotId → Nat
  | .lane l => laneIndex l
  | .device => 4

/-- The five slots in order. -/
def allSlots : List SlotId := [.lane .a, .lane .b, .lane .c, .lane .d, .device]

/-- Code of a line fault kind: NONE, OPEN, SHORT, CROSSED, NO_SIGNAL. -/
def lineFaultCode : Option LineFault → Nat
  | none => 0
  | some k => k.ctorIdx + 1

/-- Code of a HALTED area. -/
def haltAreaCode : HaltArea → Nat
  | .header => 0
  | .slot _ => 1
  | .laneStatus _ => 2
  | .deviceStatus => 3
  | .journal => 4

/-- The slot index or lane of a HALTED area (Record Layouts, Registers); 0 for an area without one: DESIGN
CHOICE, log entry 73. -/
def haltAreaIndex : HaltArea → Nat
  | .slot n => slotIndex n
  | .laneStatus l => laneIndex l
  | _ => 0

/-- The reason detail byte: the failed area in bits 4 to 7, its index in bits 0 to 3; 0 outside HALTED: DESIGN
CHOICE, log entry 73. -/
def reasonDetail : Option HaltArea → Nat
  | none => 0
  | some a => 16 * haltAreaCode a + haltAreaIndex a

/-- The map state as it is reported: INCOMPLETE as one value (R142). -/
def mapStateCode : MapStage → Nat
  | .complete => 1
  | _ => 0

/-- Whether the ROUTING section has been written (R142). -/
def routingWritten : MapStage → Bool
  | .noSection => false
  | _ => true

/-- Code of a hold's "when". -/
def holdWhenCode : HoldWhen → Nat
  | .now => 0
  | .reelEnd _ => 1

/-- The target reel of a hold, 0 for NOW. -/
def holdReel : HoldWhen → Nat
  | .now => 0
  | .reelEnd r => r

/-- The integrity mode of a code (R3). -/
def integrityOf : Nat → Option IntegrityMode
  | 0 => some .tolerant
  | 1 => some .strict
  | _ => none

/-- The input function of a code (R168). -/
def functionOf : Nat → Option InputFunction
  | 0 => some .none
  | 1 => some .report
  | 2 => some .hold
  | 3 => some .emergency
  | _ => none

/-- The polarity of a code (R168). -/
def polarityOf : Nat → Option Polarity
  | 0 => some .activeClosed
  | 1 => some .activeOpen
  | _ => none

/-- The source of a ROUTING code (Record Layouts, Sound map sections). -/
def sourceOf (n : Nat) : Option Source :=
  if n = 0 then some .none
  else if n ≤ 24 then some (.main n)
  else if 65 ≤ n ∧ n ≤ 72 then some (.aux (n - 64))
  else none

/-- The track kind of an essence track. -/
def essenceKind : Essence → TrackKind
  | .picture => .picture
  | .main => .soundMain
  | .aux => .soundAux

/-- The track kind of a subtitle track. -/
def subtitleKind : Subtitle → TrackKind
  | .one => .subtitle1
  | .two => .subtitle2

/-- The subtitle track of a store place. -/
def placeTrack : Place → Subtitle
  | .current1 => .one
  | .current2 => .two
  | .next1 => .one
  | .next2 => .two

/-- Whether a store place serves the reel that contains P. -/
def placeIsCurrent : Place → Bool
  | .current1 => true
  | .current2 => true
  | _ => false

/-- The four places in the order in which their stores are fetched (R70). -/
def allPlaces : List Place := [.current1, .current2, .next1, .next2]

/-- The store in a place. -/
def getStore (o : Overlay) : Place → Store
  | .current1 => o.current1
  | .current2 => o.current2
  | .next1 => o.next1
  | .next2 => o.next2

/-- The Overlay Composer with the store of a place replaced. -/
def setStore (o : Overlay) (pl : Place) (st : Store) : Overlay :=
  match pl with
  | .current1 => { o with current1 := st }
  | .current2 => { o with current2 := st }
  | .next1 => { o with next1 := st }
  | .next2 => { o with next2 := st }

/-- The register bit of an ATTENTION slot bit, and of any bit n of a 7-bit register (R173). -/
def attentionBit (n : Nat) : BitVec 7 := BitVec.ofNat 7 (2 ^ n)

end Sys2Proof.Machine
end

