-- ==== Sys2Proof/Machine/Memory.lean ====
section
/-! DEFINITION. Host memory as a list of cells in one canonical form (addresses strictly rising, no
cell of 0), and the byte order of the shared records (R179). What an unlisted address reads as is 0:
DESIGN CHOICE, log entry 1. -/

namespace Sys2Proof.Machine

/-- The canonical form: addresses strictly rising and no cell equal to what an unlisted address
reads as. -/
abbrev memWf (m : List Host.Cell) : Prop :=
  m.Pairwise (fun c e => c.1 < e.1) ∧ ∀ c ∈ m, c.2 ≠ 0

/-- The byte at an address; an unlisted address reads 0 (log entry 1). -/
def memRead (m : List Host.Cell) (a : Nat) : Byte := (m.lookup a).getD 0

/-- The bytes at `n` addresses from `a`. -/
def memReadBytes (m : List Host.Cell) (a n : Nat) : List Byte :=
  (List.range n).map fun i => memRead m (a + i)

/-- The cells that hold a list of bytes from `a`, without the zeros. -/
def cellsOf : Nat → List Byte → List Host.Cell
  | _, [] => []
  | a, b :: bs => if b = 0 then cellsOf (a + 1) bs else (a, b) :: cellsOf (a + 1) bs

/-- Memory with a list of bytes stored from `a`. -/
def memWrite (m : List Host.Cell) (a : Nat) (bs : List Byte) : List Host.Cell :=
  m.filter (fun c => decide (c.1 < a)) ++ cellsOf a bs ++
    m.filter (fun c => decide (a + bs.length ≤ c.1))

/-- The stores of the host, in order (log entry 2). -/
def memStores (m : List Host.Cell) (stores : List (Nat × List Byte)) : List Host.Cell :=
  stores.foldl (fun m st => memWrite m st.1 st.2) m

/-- A value in `n` bytes, least significant byte first (R179). -/
def le (n v : Nat) : List Byte := (List.range n).map fun i => BitVec.ofNat 8 (v / 256 ^ i)

/-- A signed value in `n` bytes, two's complement (R179). -/
def leInt (n : Nat) (v : Int) : List Byte := le n (v % (256 ^ n : Nat)).toNat

/-- The value of bytes that stand least significant first (R179). -/
def fromLe : List Byte → Nat
  | [] => 0
  | b :: bs => b.toNat + 256 * fromLe bs

/-- The two's complement reading of an `n`-byte value (R179). -/
def signedOf (n v : Nat) : Int :=
  if 2 * v < 256 ^ n then (v : Int) else (v : Int) - (256 ^ n : Nat)

/-- The field of `n` bytes at offset `off` of a record read as a list of bytes. -/
def field (bs : List Byte) (off n : Nat) : Nat := fromLe ((bs.drop off).take n)

/-- The signed field of `n` bytes at offset `off`. -/
def fieldInt (bs : List Byte) (off n : Nat) : Int := signedOf n (field bs off n)

/-- The booth clock value at offset `off`: 8 bytes, of which bits 40 to 63 are not part (R179); that they are
dropped where a record sets them is DEDUCED, log entry 52. -/
def clockField (bs : List Byte) (off : Nat) : Nat := field bs off 8 % 2 ^ 40

/-- `n` reserved bytes, written as 0 (R179). -/
def zeros (n : Nat) : List Byte := List.replicate n 0

/-- The fields of a record (offset and bytes, in order) laid out from position `pos`, the gaps and
the end up to `size` written as 0: reserved bytes by R179, bytes without a field by DESIGN CHOICE, log
entry 62. -/
def layFrom (pos size : Nat) : List (Nat × List Byte) → List Byte
  | [] => zeros (size - pos)
  | (off, bs) :: rest => zeros (off - pos) ++ bs ++ layFrom (off + bs.length) size rest

/-- Whether an access of `n` bytes at `a` meets one of the failing ranges, or runs past the top of
the 64-bit address space (log entries 3 and 4). -/
def accessFails (fails : List (Nat × Nat)) (a n : Nat) : Bool :=
  decide (2 ^ 64 < a + n) || fails.any fun f => decide (f.1 < a + n) && decide (a < f.1 + f.2)

/-- A PCI Express read of `n` bytes of host memory at `a`: none when it fails. -/
def hostRead (h : HostSide) (a n : Nat) : Option (List Byte) :=
  if accessFails h.readFails a n then none else some (memReadBytes h.mem a n)

/-- A PCI Express write of bytes at `a`: none when it fails, so that a failed write stores none of its bytes
(DESIGN CHOICE, log entry 82). -/
def hostWrite (h : HostSide) (a : Nat) (bs : List Byte) : Option HostSide :=
  if accessFails h.writeFails a bs.length then none
  else some { h with mem := memWrite h.mem a bs }

/-- Host memory after what the host has done (log entries 2 and 3). -/
def hostActs (h : HostSide) (acts : HostActs) : HostSide where
  mem := memStores h.mem acts.stores
  readFails := acts.readFails.getD h.readFails
  writeFails := acts.writeFails.getD h.writeFails

/-- A 64-bit parameter carried in two 32-bit words, the low word first (R179). -/
def wide (lo hi : Word32) : Nat := lo.toNat + 2 ^ 32 * hi.toNat

end Sys2Proof.Machine
end

