-- ==== Sys2Proof/Machine/Timeline.lean ====
section
/-! DEFINITION. Timeline Arithmetic (R34 to R47): frame periods, reels and track frames, cue times,
fades, count thresholds and limits. -/

namespace Sys2Proof.Machine

/-- The edit rates that the part accepts (R4). -/
def editRates : List Nat := [24, 25, 30, 48, 50, 60]

/-- The sample rates that the part accepts (R4). -/
def sampleRates : List Nat := [48000, 96000]

/-- The frame period S in samples (R34). -/
def framePeriod (rate sampleRate : Nat) : Nat := sampleRate / rate

/-- The samples of one millisecond tick (R34). -/
def tickSamples (sampleRate : Nat) : Nat := sampleRate / 1000

/-- The edit rate a lane runs at (R35). -/
def laneEditRate (x : Lane) : Nat := (x.loaded.map Show.editRate).getD 24

/-- The sample rate a lane runs at (R35). -/
def laneSampleRate (x : Lane) : Nat := (x.loaded.map Show.sampleRate).getD 48000

/-- The frame period a lane runs at (R34, R35). -/
def lanePeriod (x : Lane) : Nat := framePeriod (laneEditRate x) (laneSampleRate x)

/-! ## Reels and positions (R36 to R38) -/

/-- The reels with their starts, the first at `start` (R36). -/
def placeReels : Nat → List Reel → List Reel
  | _, [] => []
  | start, r :: rs => { r with start := start } :: placeReels (start + r.duration) rs

/-- The sum of the durations of the reels (R36). -/
def totalFrames (reels : List Reel) : Nat := (reels.map Reel.duration).sum

/-- Whether a show frame lies in a reel (R37). -/
def inReel (r : Reel) (p : Nat) : Bool := decide (r.start ≤ p) && decide (p < r.start + r.duration)

/-- The reel that contains a show frame, with its index counted from `i`. -/
def findReel : Nat → List Reel → Nat → Option (Nat × Reel)
  | _, [], _ => none
  | i, r :: rs, p => if inReel r p then some (i, r) else findReel (i + 1) rs p

/-- The reel that contains show frame `p`, with its index from 1; none for `p = N` (R37). -/
def reelOf (sh : Show) (p : Nat) : Option (Nat × Reel) := findReel 1 sh.reels p

/-- Reel `i` of a show, counting from 1. -/
def nthReel (sh : Show) (i : Nat) : Option Reel := if i = 0 then none else sh.reels[i - 1]?

/-- The reel reported as current: the reel of P, and the last reel while P = N (R37). -/
def currentReel (sh : Show) (p : Nat) : Nat :=
  match reelOf sh p with
  | some (i, _) => i
  | none => sh.reels.length

/-- The track frame of show frame `p` of a reel (R37). -/
def trackFrame (r : Reel) (p : Nat) : Nat := r.entry + (p - r.start)

/-- The show frame of track frame `f` of a reel (R38). -/
def showFrameOf (r : Reel) (f : Nat) : Nat := r.start + (f - r.entry)

/-- The show frame of a position (R38). -/
def positionFrame (sh : Show) (pos : Position) : Nat :=
  match nthReel sh pos.reel with
  | some r => showFrameOf r pos.frame
  | none => 0

/-- The entry point of the first reel of a list that has the track. -/
def findTrack (e : Essence) : Nat → List Reel → Option Position
  | _, [] => none
  | i, r :: rs =>
    if (r.essence.get e).isSome then some ⟨i, r.entry⟩ else findTrack e (i + 1) rs

/-- The first position of a track from reel `i` on (R48, R64). -/
def firstPosition (sh : Show) (e : Essence) (i : Nat) : Option Position :=
  findTrack e i (sh.reels.drop (i - 1))

/-- The successor of a position of a track (R38). -/
def successor (sh : Show) (e : Essence) (pos : Position) : Option Position :=
  match nthReel sh pos.reel with
  | none => none
  | some r =>
    if pos.frame + 1 < r.entry + r.duration then some ⟨pos.reel, pos.frame + 1⟩
    else firstPosition sh e (pos.reel + 1)

/-- The first position of a track in a list of reels with a show frame of `x` or more. -/
def findFrom (e : Essence) (x : Nat) : Nat → List Reel → Option Position
  | _, [] => none
  | i, r :: rs =>
    if (r.essence.get e).isSome && decide (x < r.start + r.duration) then
      some ⟨i, r.entry + (x - r.start)⟩
    else findFrom e x (i + 1) rs

/-- The first position of a track with a show frame of `x` or more (R69). -/
def positionFrom (sh : Show) (e : Essence) (x : Nat) : Option Position := findFrom e x 1 sh.reels

/-- Whether an essence track is present in the show (R48). -/
def presentInShow (sh : Show) (e : Essence) : Bool := sh.reels.any fun r => (r.essence.get e).isSome

/-- Whether `p` is the first frame of its reel (R16). -/
def isReelStart (sh : Show) (p : Nat) : Bool :=
  match reelOf sh p with
  | some (_, r) => decide (r.start = p)
  | none => false

/-- The length of a well-formed sound chunk (R39). -/
def soundChunkLength (channels period : Nat) : Nat := channels * period * 3 + 16

/-! ## Cue times and fades (R40 to R45) -/

/-- Milliseconds in frames, rounded half up (R40). -/
def msToFrames (t rate : Nat) : Nat := (t * rate + 500) / 1000

/-- The out-frame, raised past the in-frame where needed (R41). -/
def raisedOut (fin fout : Nat) : Nat := if fout ≤ fin then fin + 1 else fout

/-- The fitted fade lengths of a cue of duration `d` (R43). -/
def fitFades (d fi fo : Nat) : Nat × Nat :=
  if fi + fo ≤ d then (fi, fo) else (fi * d / (fi + fo), d - fi * d / (fi + fo))

/-- Whether a cue is visible at a track frame of its reel (R42). -/
def cueVisible (r : Reel) (fin fout f : Nat) : Bool :=
  decide (max fin r.entry ≤ f) && decide (f < min fout (r.entry + r.duration))

/-- Whether a cue is never visible in its reel (R42). -/
def cueNever (r : Reel) (fin fout : Nat) : Bool :=
  decide (fout ≤ r.entry) || decide (r.entry + r.duration ≤ fin)

/-- One fade's factor: 256 past the fade, else the rising fraction, never below 1 (R44). -/
def oneFade (len k : Nat) : Nat :=
  if len = 0 ∨ len ≤ k then 256 else max 1 (256 * (k + 1) / len)

/-- The fade factor φ at a track frame (R44). -/
def fadeFactor (c : Cue) (f : Nat) : Nat :=
  min (oneFade c.fadeIn (f - c.inFrame)) (oneFade c.fadeOut (c.outFrame - 1 - f))

/-- The faded alpha of a pixel (R45). -/
def fadedAlpha (alpha factor : Nat) : Nat := (alpha * factor + 128) / 256

/-! ## Thresholds and limits (R46, R47) -/

/-- The threshold T (R46). -/
def countThreshold (total percent : Nat) : Nat := (total * percent + 99) / 100

/-- The hold limit in frame periods (R47). -/
def holdLimitFrames (minutes rate : Nat) : Nat := minutes * 60 * rate

end Sys2Proof.Machine
end

