-- ==== Sys2Proof/Machine/Gain.lean ====
section
/-! DEFINITION. The arithmetic of Sound Rendering: the fader law and target gains (R148), the ramp at
the millisecond tick (R149), the multiplier (R151), the output samples (R152), the routing of source
samples (R146) and the output lines (R153). -/

namespace Sys2Proof.Machine

/-- A value clamped into a range. -/
def clampInt (lo hi v : Int) : Int := max lo (min hi v)

/-- A value clamped into a range. -/
def clampNat (lo hi v : Nat) : Nat := max lo (min hi v)

/-- The fader gain of a level (R148). -/
def faderGain (level : Nat) : Gain :=
  if level = 0 then .mute
  else if level < 40 then .level (-90 + 20 * ((level : Int) - 40))
  else .level (3 * ((level : Int) - 70))

/-- The target gain of one output (R148). -/
def targetGain (level : Nat) (trim : Trim) (playing : Bool) : Gain :=
  if trim.mute || !playing then .mute
  else
    match faderGain level with
    | .mute => .mute
    | .level v => .level (clampInt (-890) 120 (v + trim.trim))

/-- The target gains of the outputs of a lane (R148). -/
def targetGains (level : Nat) (trims : List Trim) (playing : Bool) : List Gain :=
  trims.map fun t => targetGain level t playing

/-- One output's applied gain after a millisecond tick at fade rate `g` (R149). -/
def stepGain (g : Nat) (applied target : Gain) : Gain :=
  match applied, target with
  | .mute, .mute => .mute
  | .mute, .level w => .level (min w (-890 + (g : Int)))
  | .level v, .mute =>
    if max (-890) (v - (g : Int)) = -890 then .mute else .level (max (-890) (v - (g : Int)))
  | .level v, .level w =>
    if v ≤ w then .level (min w (v + (g : Int))) else .level (max w (v - (g : Int)))

/-- The applied gains after a millisecond tick (R149). -/
def stepGains (g : Nat) (applied target : List Gain) : List Gain :=
  List.zipWith (stepGain g) applied target

/-- Whether every output is mute (R23, R149). -/
def everyMute (gains : List Gain) : Bool := gains.all fun g => decide (g = .mute)

/-- The table T of R151: 4,194,304 × 10^(−r/200) for r in 0..59, rounded half up. -/
def gainTable : List Nat :=
  [
   4194304, 4146292, 4098830, 4051911, 4005529, 3959678, 3914352, 3869545,
   3825251, 3781463, 3738177, 3695387, 3653086, 3611270, 3569932, 3529067,
   3488670, 3448736, 3409258, 3370233, 3331654, 3293517, 3255816, 3218547,
   3181705, 3145284, 3109281, 3073689, 3038505, 3003723, 2969340, 2935350,
   2901749, 2868533, 2835698, 2803238, 2771149, 2739428, 2708070, 2677071,
   2646427, 2616134, 2586187, 2556583, 2527318, 2498388, 2469789, 2441518,
   2413570, 2385942, 2358630, 2331631, 2304941, 2278557, 2252475, 2226691,
   2201202, 2176005, 2151097, 2126473  ]

/-- The multiplier M of an applied gain (R151). -/
def multiplier : Gain → Nat
  | .mute => 0
  | .level v => gainTable.getD ((120 - v).toNat % 60) 0 / 2 ^ ((120 - v).toNat / 60)

/-- The scaled sample before saturation, rounded half up (R152). -/
def scaledSample (x : Int) (m : Nat) : Int := (x * (m : Int) + 524288) / 1048576

/-- The least output sample (R152). -/
def sampleMin : Int := -8388608

/-- The greatest output sample (R152). -/
def sampleMax : Int := 8388607

/-- The output sample of a source sample under a multiplier (R152). -/
def outputSample (x : Int) (m : Nat) : Int := clampInt sampleMin sampleMax (scaledSample x m)

/-- Whether a sample saturates (R152). -/
def saturates (x : Int) (m : Nat) : Bool :=
  decide (scaledSample x m < sampleMin) || decide (sampleMax < scaledSample x m)

/-- Channel `c` (from 1) of interleaved samples of `channels` channels (R39). -/
def channelSamples (channels c : Nat) (xs : List Int) : List Int :=
  (List.range (xs.length / channels)).map fun i => xs.getD (i * channels + (c - 1)) 0

/-- How a boundary resolved one sound track: its channel count and its samples when it is played
(R67). -/
inductive SoundResult where
  | absent
  | gap
  | played (channels : Nat) (samples : List Int)
deriving DecidableEq, Repr

/-- The samples that a track gives to a channel: zero, as an empty list, unless it is played and has
the channel (R146). -/
def trackChannel (r : SoundResult) (c : Nat) : List Int :=
  match r with
  | .played channels samples => if c ≤ channels then channelSamples channels c samples else []
  | _ => []

/-- The source samples of an output (R146). -/
def sourceSamples (main aux : SoundResult) : Source → List Int
  | .none => []
  | .main c => trackChannel main c
  | .aux c => trackChannel aux c

/-- Output samples of one output over a stretch of source samples. -/
def renderOutput (xs : List Int) (m : Nat) : List Int := xs.map fun x => outputSample x m

/-- The saturated samples of one output over a stretch of source samples (R152). -/
def clipsOf (xs : List Int) (m : Nat) : Nat := (xs.filter fun x => saturates x m).length

/-- The line, 1 to 3, and the slot, 0 to 7, that carry output `k` (R153). -/
def tdmPlace (k : Nat) : Nat × Nat := ((k - 1) / 8 + 1, (k - 1) % 8)

/-- The 32-bit slot word of a sample: the sample in the upper 24 bits, the lower 8 zero (R153). -/
def tdmWord (y : Int) : Word32 := BitVec.ofInt 32 (y * 256)

/-- The sample of output `k` at one of the sample instants played last (R147). -/
def sampleAt (x : Sound) (k instant : Nat) : Int := (x.out.getD (k - 1) []).getD instant 0

/-- What a line carries in one slot of one sample instant: the frame sync, and the slot word (R153). -/
structure SlotSignal where
  frameSync : Bool
  word : Word32
deriving DecidableEq, Repr

/-- What a lane's line `line` (1 to 3) carried in slot `slot` (0 to 7) of one of the sample instants played
last; the frame sync marks slot 0 (R153). -/
def playedSlot (x : Lane) (line slot instant : Nat) : SlotSignal :=
  ⟨decide (slot = 0), tdmWord (sampleAt x.sound ((line - 1) * 8 + slot + 1) instant)⟩

/-- What a lane's line carries in a slot: that of one of the sample instants played last, and zero where the
lines have been silenced since (R150, R153). -/
def lineSlot (x : Lane) (line slot instant : Nat) : SlotSignal :=
  if x.sound.silenced then ⟨decide (slot = 0), 0⟩ else playedSlot x line slot instant

/-- What a lane's line carried at one of the sample instants played last, slot 0 first; none at an
instant that was not played (R153). -/
def lineInstant (x : Lane) (line instant : Nat) : Option (List SlotSignal) :=
  if instant < x.sound.outLen then
    some ((List.range 8).map fun slot => playedSlot x line slot instant)
  else none

end Sys2Proof.Machine
end

