-- ==== Sys2Proof/Machine/Composition.lean ====
section
/-! DEFINITION. The composition of the subtitle overlay: the active set (R134), placement (R135),
layering (R136), dithering (R137) and tiles (R139, R140). -/

namespace Sys2Proof.Machine

/-- Whether cue `c` comes before cue `d`: the earlier in-frame, then the lower number (R134). -/
def cueBefore (c d : Cue) : Bool :=
  decide (c.inFrame < d.inFrame) || (decide (c.inFrame = d.inFrame) && decide (c.number < d.number))

/-- A cue put into its place in an ordered list. -/
def insertCue (before : Cue → Cue → Bool) (c : Cue) : List Cue → List Cue
  | [] => [c]
  | d :: ds => if before c d then c :: d :: ds else d :: insertCue before c ds

/-- The cues in order. -/
def sortCues (before : Cue → Cue → Bool) (cs : List Cue) : List Cue :=
  cs.foldr (insertCue before) []

/-- The cues of a current store that are visible at a track frame (R134). -/
def visibleCues (st : Store) (r : Reel) (f : Nat) : List Cue :=
  match st.state with
  | .decoded => st.cues.filter fun c => cueVisible r c.inFrame c.outFrame f
  | _ => []

/-- The cues drawn of a track: at most four, the earliest first (R134). -/
def activeCues (st : Store) (r : Reel) (f : Nat) : List Cue :=
  (sortCues cueBefore (visibleCues st r f)).take 4

/-- Whether more than four cues of a track are visible (R134). -/
def overlaySaturated (st : Store) (r : Reel) (f : Nat) : Bool :=
  decide (4 < (visibleCues st r f).length)

/-- A cue placed on the plane: its track, its vertical position with the offset (R135), and its fade
factor at the frame (R44). -/
structure PlacedCue where
  track : Subtitle
  top : Int
  factor : Nat
  cue : Cue
deriving DecidableEq, Repr

/-- The drawn cues of both tracks from top to bottom: SUBTITLE_1 over SUBTITLE_2, within a track the
later in-frame and the higher number above (R136). -/
def placedCues (r : Reel) (f : Nat) (one two : List Cue) : List PlacedCue :=
  one.reverse.map (fun c => ⟨.one, (c.y : Int) + r.offsets.one, fadeFactor c f, c⟩) ++
    two.reverse.map (fun c => ⟨.two, (c.y : Int) + r.offsets.two, fadeFactor c f, c⟩)

/-- Whether a placed cue covers a plane pixel (R135). -/
def covers (pc : PlacedCue) (x y : Nat) : Bool :=
  decide (pc.cue.x ≤ x) && decide (x < pc.cue.x + pc.cue.w) &&
    decide (pc.top ≤ (y : Int)) && decide ((y : Int) < pc.top + pc.cue.h)

/-- The faded alpha of a placed cue at a pixel that it covers (R45, R135). -/
def pixelAlpha (pc : PlacedCue) (x y : Nat) : Nat :=
  fadedAlpha
    (pc.cue.bitmap.getD (((y : Int) - pc.top).toNat * pc.cue.w + (x - pc.cue.x)) 0).toNat pc.factor

/-- The colour index of a placed cue (R136). -/
def cueColour (pc : PlacedCue) : Nat :=
  match pc.track with
  | .one => pc.cue.palette
  | .two => 16 + pc.cue.palette

/-- Colour and faded alpha of a plane pixel: of the topmost covering cue whose faded alpha is not 0,
else 0 and 0 (R136). -/
def composePixel : List PlacedCue → Nat → Nat → Nat × Nat
  | [], _, _ => (0, 0)
  | pc :: rest, x, y =>
    if covers pc x y && !(decide (pixelAlpha pc x y = 0)) then (cueColour pc, pixelAlpha pc x y)
    else composePixel rest x y

/-- The 4 × 4 dither matrix B (R137). -/
def ditherMatrix : List (List Nat) :=
  [[0, 8, 2, 10], [12, 4, 14, 6], [3, 11, 1, 9], [15, 7, 13, 5]]

/-- The entry of B for a plane position (R137). -/
def ditherEntry (x y : Nat) : Nat := (ditherMatrix.getD (y % 4) []).getD (x % 4) 0

/-- The transmitted alpha of a faded alpha for a matrix entry and a sequence number (R137). -/
def ditherAlpha (a b seq : Nat) : Nat :=
  if (b + seq % 16) % 16 < a % 16 then min 15 (a / 16 + 1) else a / 16

/-- Colour index and transmitted alpha of a plane pixel (R136, R137). -/
def sentPixel (cues : List PlacedCue) (seq x y : Nat) : Nat × Nat :=
  ((composePixel cues x y).1, ditherAlpha (composePixel cues x y).2 (ditherEntry x y) seq)

/-- Tiles of the plane (R139). -/
def tileCount : Nat := 544

/-- The height of a tile: 64 lines, 56 in row 16 (R139). -/
def tileHeight (t : Nat) : Nat := if t / 32 = 16 then 56 else 64

/-- The plane positions of a tile, row by row (R139). -/
def tilePixels (t : Nat) : List (Nat × Nat) :=
  (List.range (tileHeight t)).flatMap fun j =>
    (List.range 64).map fun i => (64 * (t % 32) + i, 64 * (t / 32) + j)

/-- The content of a tile (R139). -/
def tileContent (cues : List PlacedCue) (seq t : Nat) : List (Nat × Nat) :=
  (tilePixels t).map fun q => sentPixel cues seq q.1 q.2

/-- Whether a tile has a pixel with a non-zero transmitted alpha (R139). -/
def tileLit (cues : List PlacedCue) (seq t : Nat) : Bool :=
  !cues.isEmpty && (tileContent cues seq t).any fun q => decide (q.2 ≠ 0)

/-- The tile updates of a presenting boundary, in increasing order of tile index (R139). -/
def tileUpdates (cues : List PlacedCue) (seq : Nat) (map : List Nat) : List TileUpdate :=
  (List.range tileCount).filterMap fun t =>
    if tileLit cues seq t then some (.tile t (tileContent cues seq t))
    else if map.contains t then some (.clear t) else none

/-- The tiles that a list of updates sends as TILE: the tile map after the record (R139). -/
def litTiles : List TileUpdate → List Nat
  | [] => []
  | .tile t _ :: rest => t :: litTiles rest
  | .clear _ :: rest => litTiles rest

/-- CLEAR for every tile of the map (R140). -/
def clearUpdates (map : List Nat) : List TileUpdate := map.map TileUpdate.clear

/-- The free bitmap memory of a lane (R130). -/
def freeBitmap (o : Overlay) : Nat :=
  Config.bitmapBytes - (o.current1.heldBytes + o.current2.heldBytes + o.next1.heldBytes + o.next2.heldBytes)

end Sys2Proof.Machine
end

