-- ==== Sys2Proof/Machine/Views.lean ====
section
/-! DEFINITION. What the blocks of the part read of one another: the lane of a state, the addresses
of the Booth Table, licences and keys, decipher permission, priming, fetchable work, released-through
positions and blocking inputs. None of these changes the state. -/

namespace Sys2Proof.Machine

/-! ## Lanes -/

/-- A lane of the state. -/
def State.lane (s : State) (l : LaneId) : Lane := s.lanes.get l

/-- The state with a lane replaced. -/
def State.setLane (s : State) (l : LaneId) (x : Lane) : State := { s with lanes := s.lanes.set l x }

/-- The state with a lane changed. -/
def State.modLane (s : State) (l : LaneId) (f : Lane → Lane) : State := s.setLane l (f (s.lane l))

/-- Whether a lane state is one of PLAYING, HELD, SEEKING and STOPPING (R156, R121, R145). -/
def inRunStates : LaneState → Bool
  | .playing => true
  | .held => true
  | .seeking => true
  | .stopping => true
  | _ => false

/-- Whether a lane in this state has fetchable work in the Unpacker's sense (R5, R51). -/
def hasFetchWork : LaneState → Bool
  | .loading => true
  | .ready => true
  | .armed => true
  | .playing => true
  | .held => true
  | .seeking => true
  | _ => false

/-- Whether some lane stands in PLAYING, HELD, SEEKING or STOPPING (R156). -/
def anyLaneRunning (s : State) : Bool := allLanes.any fun l => inRunStates (s.lane l).state

/-- Whether every lane is EMPTY (R93). -/
def everyLaneEmpty (s : State) : Bool := allLanes.all fun l => decide ((s.lane l).state = .empty)

/-! ## Addresses of the Booth Table (Record Layouts) -/

/-- The Booth Table's address, from the two registers (R171). -/
def tableAddr (s : State) : Nat := wide s.tableLo s.tableHi

/-- The address of a request slot. -/
def slotAddr (s : State) (n : SlotId) : Nat := tableAddr s + 0x40 + 0x40 * slotIndex n

/-- The address of the Device Status Record. -/
def deviceStatusAddr (s : State) : Nat := tableAddr s + 0x200

/-- The address of a Lane Status Record. -/
def laneStatusAddr (s : State) (l : LaneId) : Nat := tableAddr s + 0x400 + 0x400 * laneIndex l

/-- The address of a journal entry. -/
def journalAddr (s : State) (i : Nat) : Nat := tableAddr s + 0x2000 + 0x20 * i

/-- The size of one Lane Status Record. -/
def laneStatusSize : Nat := 1024

/-- The size of the Device Status Record's fields with the rest of its area. -/
def deviceStatusSize : Nat := 256

/-! ## Licences and keys (R74 to R77, R84) -/

/-- The record of a licence id. -/
def findLicence (records : List (Option Licence)) (id : Nat) : Option Licence :=
  records.findSome? fun r => r.filter fun x => decide (x.id = id)

/-- The records with the record of a licence id changed. -/
def changeLicence (records : List (Option Licence)) (id : Nat) (f : Licence → Licence) :
    List (Option Licence) :=
  records.map fun r => r.map fun x => if x.id = id then f x else x

/-- The derived state of a licence record (R76). -/
def derivedState (valid : Bool) (clock : Nat) (x : Licence) : LicenceState :=
  if !valid then .clockUnknown
  else if clock < x.notBefore then .waiting
  else if x.notAfter ≤ clock then .closed
  else if x.allowance ≠ 0 ∧ x.allowance ≤ x.counted then .spent
  else .opened

/-- Whether a licence has a lane in its lane mask (R74). -/
def admitsLane (x : Licence) (l : LaneId) : Bool := x.laneMask.getLsbD (laneIndex l)

/-- Whether a licence permits a head identity (R74). -/
def permitsHead (x : Licence) (h : Option Word64) : Bool :=
  x.heads.isEmpty || (h.map fun v => x.heads.contains v).getD false

/-- The slot that holds a key id, from index `i` on, with its licence (R84). -/
def findKey : Nat → List (Option KeySlot) → Nat → Option (Nat × KeySlot)
  | _, [], _ => none
  | i, none :: ks, k => findKey (i + 1) ks k
  | i, some x :: ks, k => if x.keyId = k then some (i, x) else findKey (i + 1) ks k

/-- The key uses of a reel's keyed tracks in the order PICTURE, SOUND_MAIN, SOUND_AUX, SUBTITLE_1,
SUBTITLE_2 (R95). -/
def reelKeys (r : Reel) : List KeyUse :=
  [r.essence.picture, r.essence.main, r.essence.aux, r.subtitles.one, r.subtitles.two].filterMap
    fun t => t.bind TrackPlan.key

/-- The licences of a list of key uses, each once, in order of first appearance (R95). -/
def distinctLicences : List KeyUse → List Nat → List Nat
  | [], acc => acc
  | k :: ks, acc =>
    if acc.contains k.licence then distinctLicences ks acc
    else distinctLicences ks (acc ++ [k.licence])

/-- The licences of a show in order of first appearance (R4, R95). -/
def showLicences (reels : List Reel) : List Nat := distinctLicences (reels.flatMap reelKeys) []

/-- Whether a reel has a track keyed to a licence (R46, R95). -/
def reelUses (id : Nat) (r : Reel) : Bool := (reelKeys r).any fun k => decide (k.licence = id)

/-- Whether a lane's loaded show references a licence (R74). -/
def laneReferences (x : Lane) (id : Nat) : Bool :=
  decide (x.state ≠ .empty) &&
    (x.loaded.map fun sh => sh.reels.any (reelUses id)).getD false

/-- The lowest lane that references a licence (R74, R81). -/
def referencedBy (s : State) (id : Nat) : Option LaneId :=
  allLanes.find? fun l => laneReferences (s.lane l) id

/-- Records in use (R75). -/
def recordsInUse (lt : LicenceTable) : Nat := (lt.records.filter Option.isSome).length

/-- Key slots in use (R75). -/
def slotsInUse (lt : LicenceTable) : Nat := (lt.keys.filter Option.isSome).length

/-- The allowance that an adjustment made now would find (R91). -/
def shownAllowance (lt : LicenceTable) : Nat :=
  if !lt.clockValid then 0
  else
    match lt.adjustDay with
    | none => Config.dayAllowance
    | some d =>
      if d < lt.clock / Config.daySeconds then Config.dayAllowance
      else if lt.clock / Config.daySeconds = d then lt.adjustLeft
      else 0

/-! ## Decipher permission, priming and fetchable work (R50 to R54, R58, R59) -/

/-- Whether the licence table holds a licence as OPEN. -/
def licenceOpen (s : State) (id : Nat) : Bool :=
  (findLicence s.licences.records id).any fun x => decide (x.state = .opened)

/-- Whether an entry is RESERVED or COUNTED. -/
def entryHeld (e : TallyEntry) : Bool :=
  decide (e.status = .reserved) || decide (e.status = .counted)

/-- Whether a lane's tally holds a licence RESERVED or COUNTED. -/
def tallyHolds (x : Lane) (id : Nat) : Bool :=
  x.tally.entries.any fun e => decide (e.licence = id) && entryHeld e

/-- Decipher permission of a lane for a track (R59). -/
def permission (s : State) (l : LaneId) (key : Option KeyUse) : Bool :=
  match key with
  | none => true
  | some k => licenceOpen s k.licence || tallyHolds (s.lane l) k.licence

/-- The track plan of an essence position. -/
def positionPlan (sh : Show) (e : Essence) (pos : Position) : Option TrackPlan :=
  (nthReel sh pos.reel).bind fun r => r.essence.get e

/-- The show frames that priming looks at: P..min(P + prime depth − 1, N − 1) (R50). -/
def primeRange (sh : Show) (x : Lane) : List Nat :=
  List.range' x.p (min (x.p + x.options.primeDepth) sh.total - x.p)

/-- Whether an essence queue counts as primed (R50). -/
def queuePrimed (sh : Show) (x : Lane) (e : Essence) : Bool :=
  (primeRange sh x).all fun q =>
    match reelOf sh q with
    | some (_, r) =>
      !(r.essence.get e).isSome || (x.tracks.get e).queue.any fun n => decide (n.showFrame = q)
    | none => true

/-- Whether every present essence queue of a lane counts as primed (R6, R22, R54). -/
def essencePrimed (x : Lane) : Bool :=
  match x.loaded with
  | none => false
  | some sh => queuePrimed sh x .picture && queuePrimed sh x .main && queuePrimed sh x .aux

/-- The licences of the keyed tracks of reel 1 (R6). -/
def firstReelLicences (x : Lane) : List Nat :=
  match x.loaded.bind fun sh => nthReel sh 1 with
  | none => []
  | some r => (reelKeys r).map KeyUse.licence

/-- Whether some licence of a keyed reel-1 track is not OPEN (R6). -/
def waitsForLicence (s : State) (x : Lane) : Bool :=
  (firstReelLicences x).any fun id => !licenceOpen s id

/-- Whether a LOADING lane is primed (R6). -/
def lanePrimed (s : State) (l : LaneId) : Bool :=
  essencePrimed (s.lane l) &&
    decide ((s.lane l).overlay.current1.state ≠ .fetching) &&
    decide ((s.lane l).overlay.current2.state ≠ .fetching) && !waitsForLicence s (s.lane l)

/-- The position that the transaction in flight holds for an essence track of a lane's present fetch
generation (R55, R58). -/
def flightPosition (s : State) (l : LaneId) (e : Essence) : Option Position :=
  match s.engine.flight with
  | none => none
  | some f =>
    if f.lane = l ∧ f.generation = (s.lane l).generation then
      match f.work with
      | .essence e' pos => if e' = e then some pos else none
      | .subtitle _ _ _ => none
    else none

/-- Entries of a queue with the transaction in flight for it (R51, condition 3). -/
def queueLoad (s : State) (l : LaneId) (e : Essence) : Nat :=
  ((s.lane l).tracks.get e).queue.length + (if (flightPosition s l e).isSome then 1 else 0)

/-- The fetch wait reason of an essence track; none when the track is absent from the show (R52). -/
def waitReason (s : State) (l : LaneId) (e : Essence) : Option WaitReason :=
  match (s.lane l).loaded with
  | none => none
  | some sh =>
    if !presentInShow sh e then none
    else if !hasFetchWork (s.lane l).state then some .idle
    else
      match ((s.lane l).tracks.get e).fetch with
      | none => some .through
      | some pos =>
        if Config.queueDepth ≤ queueLoad s l e then some .full
        else if (s.lane l).p + 47 < positionFrame sh pos then some .ahead
        else if !permission s l ((positionPlan sh e pos).bind TrackPlan.key) then some .permission
        else if ((s.lane l).tracks.get e).waiting then some .residency
        else some .none

/-- Whether an essence track has fetchable work: all the conditions of R51. -/
def essenceFetchable (s : State) (l : LaneId) (e : Essence) : Bool :=
  decide (waitReason s l e = some .none)

/-- The released-through position of an essence track: the earliest of the queue head, the position
in flight and the fetch position (R58). -/
def releasedThrough (s : State) (l : LaneId) (e : Essence) : Option Position :=
  match (s.lane l).loaded with
  | none => none
  | some sh =>
    [((s.lane l).tracks.get e).queue.head?.map QueueEntry.pos, flightPosition s l e,
        ((s.lane l).tracks.get e).fetch].foldl
      (fun best q =>
        match best, q with
        | none, q => q
        | some b, none => some b
        | some b, some v => if positionFrame sh v < positionFrame sh b then some v else some b)
      none

/-- The track plan of the store in a place. -/
def storePlan (x : Lane) (pl : Place) : Option TrackPlan :=
  (x.loaded.bind fun sh => nthReel sh (getStore x.overlay pl).reel).bind fun r =>
    r.subtitles.get (placeTrack pl)

/-- Whether the store in a place can be fetched (R70). -/
def storeFetchable (s : State) (l : LaneId) (pl : Place) : Bool :=
  hasFetchWork (s.lane l).state &&
    decide ((getStore (s.lane l).overlay pl).state = .fetching) &&
    !(getStore (s.lane l).overlay pl).waiting &&
    ((storePlan (s.lane l) pl).map fun t => permission s l t.key).getD false

/-- The store that the lane's subtitle work goes to (R70). -/
def subtitleWork (s : State) (l : LaneId) : Option Place :=
  allPlaces.find? fun pl => storeFetchable s l pl

/-- The essence track that the lane's essence work goes to: the one with the fewest entries, ties in
the order PICTURE, MAIN, AUX (R54). -/
def essenceWork (s : State) (l : LaneId) : Option Essence :=
  [Essence.picture, .main, .aux].foldl
    (fun best e =>
      if essenceFetchable s l e then
        match best with
        | none => some e
        | some b =>
          if ((s.lane l).tracks.get e).queue.length < ((s.lane l).tracks.get b).queue.length then
            some e
          else some b
      else best)
    none

/-- Whether a lane has fetchable work (R53). -/
def laneHasWork (s : State) (l : LaneId) : Bool :=
  (essenceWork s l).isSome || (subtitleWork s l).isSome

/-! ## Building inputs and the head (R10, R112, R167) -/

/-- Whether an EMERGENCY input counts as active (R167). -/
def countsActive (i : Input) : Bool :=
  decide (i.settings.function = .emergency) &&
    (decide (i.filter.level ≠ .inactive) || i.filter.chattering)

/-- Whether an EMERGENCY input that counts as active has the lane in its mask (R10). -/
def emergencyBlocks (s : State) (l : LaneId) : Bool :=
  s.inputs.any fun i => countsActive i && i.settings.mask.getLsbD (laneIndex l)

/-- Whether the lane's link is LOCKED with its head READY (R25). -/
def linkGood (x : Lane) : Bool :=
  decide (x.link.state = .locked) && decide (x.link.headStatus = .ready)

/-- The interrupt line: asserted while an ATTENTION bit is set whose mask bit is 1 (R173). -/
def interruptLine (s : State) : Bool := decide (s.attention &&& s.attentionMask ≠ 0)

end Sys2Proof.Machine
end

