-- ==== Sys2Proof/Machine/Records.lean ====
section
/-! DEFINITION. The records that the part writes into host memory, byte for byte (R179): the Lane
Status Record, the Device Status Record, journal entries, answered slots, the Read Licence image and
List Licences entries; and the registers that it returns. -/

namespace Sys2Proof.Machine

/-- A show frame or track frame field that holds no value (R179). -/
def noFrame : Nat := 0xFFFFFFFF

/-- A frame field. -/
def frameField (f : Option Nat) : List Byte := le 4 (f.getD noFrame)

/-- A flag as a number. -/
def flag (b : Bool) : Nat := if b then 1 else 0

/-- A list of flags as a number, the first at bit 0. -/
def flagBits : List Bool → Nat
  | [] => 0
  | b :: bs => flag b + 2 * flagBits bs

/-- An applied gain in a status record: 8000H is mute (Record Layouts). -/
def gainField : Gain → List Byte
  | .mute => le 2 0x8000
  | .level v => leInt 2 v

/-- The 16 bytes of one essence track in the Lane Status Record. -/
def trackField (s : State) (l : LaneId) (e : Essence) : List Byte :=
  layFrom 0 16
    [(0, le 1 (((waitReason s l e).map fun w => w.ctorIdx).getD 0xFF)),
     (1, le 1 ((s.lane l).tracks.get e).queue.length),
     (2, le 1 ((((s.lane l).tracks.get e).fetch.map Position.reel).getD 0)),
     (4, frameField (((s.lane l).tracks.get e).fetch.map Position.frame)),
     (8, le 1 (((releasedThrough s l e).map Position.reel).getD 0)),
     (12, frameField ((releasedThrough s l e).map Position.frame))]

/-- The 8 bytes of one wanted record; the number at +4 of one that is not set is FFFFFFFFH, for a chunk number
too: DESIGN CHOICE, log entry 34. -/
def wantedField (w : Option Wanted) : List Byte :=
  layFrom 0 8
    [(0, le 1 (flag w.isSome)), (1, le 1 (flag ((w.map Wanted.announced).getD false))),
     (2, le 1 ((w.map Wanted.reel).getD 0)), (4, frameField (w.map Wanted.frame))]

/-- The 24 bytes of one cue store place. -/
def storeField (st : Store) : List Byte :=
  layFrom 0 24
    [(0, le 1 (if st.state = .none then 0 else st.reel)), (1, le 1 st.state.ctorIdx), (2, le 1 st.loss.ctorIdx),
     (4, le 2 st.cues.length), (6, le 2 st.malformed), (8, le 2 st.overCap),
     (10, le 2 st.outsideReel), (12, le 2 st.forMemory), (16, le 4 st.heldBytes)]

/-- The 16 bytes of one tally entry. -/
def tallyField (e : TallyEntry) : List Byte :=
  le 4 e.licence ++ le 4 e.total ++ le 4 e.threshold ++ le 3 e.confirmed ++ le 1 e.status.ctorIdx

/-- The 48 bytes of the fault record. -/
def faultField (r : Option FaultRecord) : List Byte :=
  match r with
  | none => layFrom 0 48 [(4, frameField none), (8, frameField none)]
  | some f =>
    layFrom 0 48
      [(0, le 1 1), (1, le 1 f.cause.ctorIdx), (2, le 1 f.track.ctorIdx),
       (3, le 1 f.licences.length), (4, le 4 f.p), (8, le 4 f.frame), (12, le 4 f.snapshot.toNat),
       (16, f.licences.flatMap (le 4))]

/-- The 5 bytes of the pending hold record, all 0 where none is pending: DESIGN CHOICE, log entry 34. -/
def holdField (h : Option HoldRecord) : List Byte :=
  match h with
  | none => zeros 5
  | some r =>
    le 1 1 ++ le 1 r.cause.ctorIdx ++ le 1 (holdWhenCode r.when_) ++ le 1 (holdReel r.when_) ++
      le 1 r.merged

/-- The Lane Status Record after its update count: bytes 004H to 3FFH (R176, R179). Without a show N, the
current reel and the reel count are 0: DESIGN CHOICE, log entry 48. -/
def laneStatusBody (s : State) (l : LaneId) : List Byte :=
  let x := s.lane l
  layFrom 4 laneStatusSize
    [(0x004, le 1 x.state.ctorIdx), (0x005, le 1 x.lastCause.ctorIdx),
     (0x006, le 1 (flagBits [x.waitingLicence, x.scanner.readError, routingWritten x.sound.stage])),
     (0x008, le 4 x.p), (0x00C, le 4 ((x.loaded.map Show.total).getD 0)),
     (0x010, le 1 ((x.loaded.map fun sh => currentReel sh x.p).getD 0)),
     (0x011, le 1 ((x.loaded.map fun sh => sh.reels.length).getD 0)),
     (0x012, le 1 (laneEditRate x)), (0x014, le 4 (laneSampleRate x)),
     (0x018, le 8 (x.startSecond.getD 0)), (0x020, holdField x.hold),
     (0x028, le 2 x.starveRun ++ le 2 x.linkGrace ++ le 4 x.holdTimer),
     (0x030, le 2 x.indicators.current.toNat ++ le 2 x.indicators.held.toNat),
     (0x034, le 1 x.level), (0x035, le 1 (mapStateCode x.sound.stage)),
     (0x036, le 1 (flagBits [x.sound.stagedRouting.isSome, x.sound.stagedTrims.isSome])),
     (0x038, le 2 x.sound.clipCount), (0x03C, frameField x.lastReal),
     (0x040, x.sound.applied.flatMap gainField), (0x070, le 1 x.contacts.toNat),
     (0x071, le 1 (x.scanner.writePending.filter id).length),
     (0x080, trackField s l .picture ++ trackField s l .main ++ trackField s l .aux),
     (0x0B0, wantedField x.tracks.picture.wanted ++ wantedField x.tracks.main.wanted ++
       wantedField x.tracks.aux.wanted ++ wantedField x.subWanted.one ++
       wantedField x.subWanted.two),
     (0x0E0, storeField x.overlay.current1 ++ storeField x.overlay.current2 ++
       storeField x.overlay.next1 ++ storeField x.overlay.next2),
     (0x140, le 4 (freeBitmap x.overlay)), (0x144, le 2 x.overlay.tileMap.length),
     (0x146, le 1 x.overlay.active.one ++ le 1 x.overlay.active.two),
     (0x148, le 1 x.link.state.ctorIdx ++ le 1 (lineFaultCode x.link.faultKind) ++
       le 1 (flag x.link.lockFlag) ++ le 1 x.link.headStatus.ctorIdx ++ le 1 x.link.errorCount ++
       le 1 x.link.awaiting.length ++ le 1 x.link.heldTest.result.ctorIdx ++
       le 1 (flag x.link.headId.isSome)),
     (0x150, le 8 (x.link.headId.getD 0).toNat),
     (0x158, le 2 x.link.seq ++ le 2 ((x.link.awaiting.head?.map Awaiting.seq).getD 0) ++
       le 2 ((x.link.awaiting.getLast?.map Awaiting.seq).getD 0) ++ zeros 2 ++
       le 2 x.link.unseen ++ le 2 x.link.late ++ le 2 x.link.test.left ++ le 1 x.link.test.settle),
     (0x168, le 2 x.link.test.errors ++ le 2 x.link.heldTest.errors ++ le 2 x.link.heldTest.sent),
     (0x170, le 1 x.tally.phase.ctorIdx ++ le 1 x.tally.endCause.ctorIdx ++ le 1 x.tally.window ++
       le 1 x.tally.entries.length),
     (0x178, x.tally.entries.flatMap tallyField), (0x200, faultField x.faultRecord),
     (0x230, x.sound.trims.flatMap fun t => leInt 2 t.trim),
     (0x260, le 4 (flagBits (x.sound.trims.map Trim.mute)))]

/-- The Device Status Record after its update count: bytes 04H to FFH (R176, R179). -/
def deviceStatusBody (s : State) : List Byte :=
  layFrom 4 deviceStatusSize
    [(0x04, le 1 s.device.ctorIdx), (0x05, le 1 s.reason.ctorIdx),
     (0x06, le 1 (reasonDetail s.haltArea)), (0x07, le 1 s.clockUnit.source.ctorIdx),
     (0x08, le 1 (flagBits [s.clockUnit.refLocked, s.licences.clockValid, s.maintenance,
       s.licences.retainedLost])),
     (0x09, le 1 (flagBits (s.inputs.map fun i => i.filter.chattering))),
     (0x0A, le 2 (shownAllowance s.licences)),
     (0x0C, s.inputs.flatMap fun i => le 1 i.filter.level.ctorIdx),
     (0x14, le 1 (recordsInUse s.licences)), (0x16, le 2 (slotsInUse s.licences)),
     (0x18, le 8 s.licences.clock), (0x20, le 2 s.journal.writeIndex),
     (0x22, le 2 s.journal.withheld)]

/-- The 32 bytes of a journal entry (R177, R179). -/
def entryBytes (s : State) (e : JournalEntry) : List Byte :=
  layFrom 0 32
    [(0x00, le 4 s.journal.seq), (0x04, le 1 e.kind.ctorIdx),
     (0x05, le 1 ((e.lane.map laneIndex).getD 0xFF)), (0x06, le 1 (flag s.licences.clockValid)),
     (0x08, le 8 s.licences.clock), (0x10, le 4 e.p), (0x14, (e.words.take 3).flatMap (le 4))]

/-- The 64 bytes of an answered slot: the request as taken with the owner's answer (R175). -/
def answerBytes (kind : Nat) (rq : Req) (a : Answer) : List Byte :=
  layFrom 0 64
    [(0x00, le 1 3), (0x01, le 1 kind), (0x02, [rq.tag]), (0x03, le 1 a.index),
     (0x04, le 2 rq.blockLen.toNat), (0x06, le 1 a.code.ctorIdx), (0x07, le 1 a.reason.ctorIdx),
     (0x08, ([rq.w0, rq.w1, rq.w2, rq.w3, rq.w4, rq.w5, rq.w6, rq.w7].flatMap fun w =>
       le 4 w.toNat)),
     (0x28, le 8 rq.blockAddr.toNat), (0x30, (a.words.take 4).flatMap (le 4))]

/-- The kind byte and the request that the bytes of a slot hold, when the slot is POSTED (R174). -/
def postedRequest (bs : List Byte) : Option (Nat × Req) :=
  if field bs 0 1 = 1 then
    some (field bs 1 1,
      { tag := bs.getD 2 0
        w0 := BitVec.ofNat 32 (field bs 0x08 4)
        w1 := BitVec.ofNat 32 (field bs 0x0C 4)
        w2 := BitVec.ofNat 32 (field bs 0x10 4)
        w3 := BitVec.ofNat 32 (field bs 0x14 4)
        w4 := BitVec.ofNat 32 (field bs 0x18 4)
        w5 := BitVec.ofNat 32 (field bs 0x1C 4)
        w6 := BitVec.ofNat 32 (field bs 0x20 4)
        w7 := BitVec.ofNat 32 (field bs 0x24 4)
        blockAddr := BitVec.ofNat 64 (field bs 0x28 8)
        blockLen := BitVec.ofNat 16 (field bs 0x04 2) })
  else none

/-- The 200 bytes of a Read Licence image: everything of R74 but the key material (R82); that the key ids and
slot indexes are written is DEDUCED, log entry 61, and the bytes without a field are 0 by DESIGN CHOICE, log
entry 62. -/
def licenceImage (x : Licence) : List Byte :=
  layFrom 0 200
    [(0x00, le 4 x.id ++ le 2 x.issue ++ le 1 x.percent ++ le 1 x.laneMask.toNat ++ le 4 x.title ++
       le 2 x.allowance ++ le 2 x.counted ++ le 1 x.inFlight ++ le 1 x.state.ctorIdx ++
       le 1 x.heads.length ++ le 1 x.keys.length),
     (0x18, le 8 x.notBefore), (0x20, le 8 x.notAfter),
     (0x28, x.heads.flatMap fun h => le 8 h.toNat),
     (0x48, x.keys.flatMap fun k => le 4 k.1 ++ le 1 k.2 ++ zeros 3)]

/-- The 12 bytes of a List Licences entry (R83); its last two bytes are 0 by DESIGN CHOICE, log entry 62. -/
def listEntry (x : Licence) : List Byte :=
  layFrom 0 12
    [(0, le 4 x.id), (4, le 1 x.state.ctorIdx), (5, le 1 x.inFlight), (6, le 2 x.counted),
     (8, le 2 x.allowance)]

/-- The host word of a cue table entry (Record Layouts, Cue table entry). -/
structure HostWord where
  position : Nat
  mask : BitVec 8
  value : BitVec 8
  armed : Bool
  editing : Bool
  lateOk : Bool
deriving DecidableEq, Repr

/-- The host word that eight bytes hold (R158, R179). -/
def hostWordOf (bs : List Byte) : HostWord where
  position := field bs 0 4
  mask := bs.getD 4 0
  value := bs.getD 5 0
  armed := (bs.getD 6 0).getLsbD 0
  editing := (bs.getD 6 0).getLsbD 1
  lateOk := (bs.getD 6 0).getLsbD 2

/-- The part word of a mark: bytes 08H to 0FH of its entry; a clear mark holds no mark frame
(R157, R179). -/
def partWord : Mark → List Byte
  | .clear => layFrom 0 8 [(4, frameField none)]
  | .fired frame _ => layFrom 0 8 [(0, le 1 1), (4, le 4 frame)]
  | .missed frame _ => layFrom 0 8 [(0, le 1 2), (4, le 4 frame)]

/-- DEVICE_STATE as it reads (Record Layouts, Registers). -/
def deviceStateWord (s : State) : Word32 :=
  BitVec.ofNat 32
    (s.device.ctorIdx + 2 ^ 8 * s.reason.ctorIdx + 2 ^ 16 * reasonDetail s.haltArea +
      2 ^ 24 * flag s.maintenance + 2 ^ 25 * flag s.licences.retainedLost)

/-- What a read of a register other than ATTENTION returns; such a read changes nothing (R169). SUMMON reads 0
(R169), and so does an offset that holds no register: DESIGN CHOICE, log entry 81. -/
def readRegister (s : State) (offset : BitVec 5) : Word32 :=
  if offset = 0x00 then s.tableLo
  else if offset = 0x04 then s.tableHi
  else if offset = 0x08 then
    BitVec.ofNat 32 (flag (decide (s.device = .reset)) + 2 * flag s.clockUnit.external)
  else if offset = 0x0C then deviceStateWord s
  else if offset = 0x18 then s.attentionMask.setWidth 32
  else 0

end Sys2Proof.Machine
end

