-- ==== Sys2Proof/Machine/Flags.lean ====
section
/-! DEFINITION. The flags that software sees: the ten indicators of a lane (R31, R32) and the bits of
ATTENTION (R173). -/

namespace Sys2Proof.Machine

/-- The bit of an indicator: CONCEALED at bit 0, in the order of the indicator table (R31, R179). -/
def indicatorBit (i : Indicator) : BitVec 10 := BitVec.ofNat 10 (2 ^ i.ctorIdx)

/-- An indicator's condition met: its hold value set at once and marked in the period record
(R31). -/
def setIndicator (i : Indicator) (x : Lane) : Lane :=
  { x with
    indicators :=
      { x.indicators with
        held := x.indicators.held ||| indicatorBit i
        period := x.indicators.period ||| indicatorBit i } }

/-- An indicator set when a condition holds. -/
def setIndicatorIf (c : Bool) (i : Indicator) (x : Lane) : Lane := if c then setIndicator i x else x

/-- The end of a frame period: the current values become the period record, which is emptied
(R31). -/
def rollPeriod (x : Lane) : Lane :=
  { x with indicators := { x.indicators with current := x.indicators.period, period := 0 } }

/-- The hold values cleared, as Test Indicators leaves them (R32). -/
def clearHeld (x : Lane) : Lane := { x with indicators := { x.indicators with held := 0 } }

/-- A bit of ATTENTION set; a bit already set stays set (R173). -/
def setAttention (n : Nat) (s : State) : State := { s with attention := s.attention ||| attentionBit n }

/-- The ATTENTION bit of a device state change (R170). -/
def noteDeviceChange (s : State) : State := setAttention 6 s

/-- A change of the reason, which sets ATTENTION bit 6 when the reason differs (R170). -/
def setReason (r : DeviceReason) (s : State) : State :=
  if s.reason = r then s else noteDeviceChange { s with reason := r }

end Sys2Proof.Machine
end

