-- ==== Sys2Proof/Machine/Ops.lean ====
section
/-! DEFINITION. The named operations that every block uses: writes into host memory, the status
records (R176), the journal (R177, R178), and a change of lane state (R2). -/

namespace Sys2Proof.Machine

/-! ## Writes of the part into host memory -/

/-- Bytes stored by the part in host memory. -/
def putBytes (a : Nat) (bs : List Byte) (s : State) : State :=
  { s with host := { s.host with mem := memWrite s.host.mem a bs } }

/-- An update count after a whole write of its record: odd before, even after (R176). -/
def nextCount (n : Nat) : Nat := (n + 2) % 2 ^ 32

/-- The Device Status Record written (R176). -/
def deviceStatusNow (s : State) : State :=
  putBytes (deviceStatusAddr s) (le 4 (nextCount s.statusCount) ++ deviceStatusBody s)
    { s with statusCount := nextCount s.statusCount }

/-- The Device Status Record written where records are written: in RUNNING (R176). -/
def writeDeviceStatus (s : State) : State :=
  if s.device = .running then deviceStatusNow s else s

/-- A Lane Status Record written (R176). -/
def laneStatusNow (l : LaneId) (s : State) : State :=
  (putBytes (laneStatusAddr s l)
      (le 4 (nextCount (s.lane l).statusCount) ++ laneStatusBody s l) s).modLane l fun x =>
    { x with statusCount := nextCount x.statusCount }

/-- A Lane Status Record written where records are written: in RUNNING (R176). -/
def writeLaneStatus (l : LaneId) (s : State) : State :=
  if s.device = .running then laneStatusNow l s else s

/-- Whether a field of a lane's Lane Status Record, its update count apart, differs between two states
(R176). -/
def recordDiffers (s t : State) (l : LaneId) : Bool := decide (laneStatusBody s l ≠ laneStatusBody t l)

/-- A state with the fields of the Lane Status Records that differ from an earlier state noted as changed
since their lanes' last frame boundaries (R176, log entry 76). -/
def noteChanges (before after : State) : State :=
  { after with
    recordChanged := Quad.of fun l => before.recordChanged.get l || recordDiffers before after l }

/-! ## The journal (R177, R178) -/

/-- Whether the ring is full by the read index last read (R177). -/
def ringFull (s : State) : Bool :=
  decide ((s.journal.writeIndex + 1) % 256 = s.journal.readIndex)

/-- The read index read from the header, taken modulo 256 (R177). -/
def rereadIndex (s : State) : State :=
  { s with
    journal :=
      { s.journal with
        readIndex := fromLe (memReadBytes s.host.mem (tableAddr s + 8) 2) % 256 } }

/-- The withheld count set, in the header and the Device Status Record too (R178). -/
def setWithheld (n : Nat) (s : State) : State :=
  putBytes (tableAddr s + 6) (le 2 n) { s with journal := { s.journal with withheld := n } }

/-- An entry withheld (R178). The Device Status Record is written at a count already saturated too: DESIGN
CHOICE, log entry 72. -/
def withhold (s : State) : State :=
  writeDeviceStatus (setWithheld (min 65535 (s.journal.withheld + 1)) s)

/-- An entry written at the write index, by the four steps of R177. -/
def putEntry (e : JournalEntry) (s : State) : State :=
  let s1 := putBytes (journalAddr s s.journal.writeIndex) (entryBytes s e) s
  let s2 :=
    { s1 with
      journal :=
        { s1.journal with
          seq := (s1.journal.seq + 1) % 2 ^ 32
          writeIndex := (s1.journal.writeIndex + 1) % 256 } }
  let s3 := putBytes (tableAddr s2 + 4) (le 2 s2.journal.writeIndex) s2
  writeDeviceStatus (setAttention 5 s3)

/-- The GAP entry with the withheld count, which returns to 0 (R178). -/
def putGap (s : State) : State :=
  putEntry ⟨.gap, none, 0, [s.journal.withheld]⟩ (setWithheld 0 s)

/-- The read index as an offered entry knows it: read afresh when the ring is full by the value last
read or entries are withheld (R177, R178). -/
def refreshForOffer (s : State) : State :=
  if s.journal.withheld = 0 ∧ ringFull s = false then s else rereadIndex s

/-- An entry offered to the Table Interface, with whether it was written (R177, R178). Outside
RUNNING it is dropped and not counted (R170, R172). -/
def offerNoted (e : JournalEntry) (s : State) : State × Bool :=
  if s.device ≠ .running then (s, false)
  else
    let s1 := refreshForOffer s
    if ringFull s1 then (withhold s1, false)
    else
      let s2 := if s1.journal.withheld = 0 then s1 else putGap s1
      if ringFull s2 then (withhold s2, false) else (putEntry e s2, true)

/-- An entry offered to the Table Interface (R177). -/
def offer (e : JournalEntry) (s : State) : State := (offerNoted e s).1

/-- The re-read that a second event and a SUMMON write make while entries are withheld, with the GAP
that follows when it finds room (R177, R178). -/
def gapCheck (s : State) : State :=
  if s.device = .running ∧ s.journal.withheld ≠ 0 then
    let s1 := rereadIndex s
    if ringFull s1 then s1 else putGap s1
  else s

/-! ## The Clock Unit's switch back (R156) -/

/-- A CLOCK journal entry of the Clock Unit, its kind in detail word 0: DESIGN CHOICE, log entry 80. -/
def clockEntry (k : ClockEntry) (s : State) : State := offer ⟨.clock, none, 0, [k.ctorIdx]⟩ s

/-- Whether the switch back from HOLDOVER can be made now (R156). -/
def switchDue (s : State) : Bool :=
  decide (s.clockUnit.source = .holdover) && s.clockUnit.refLocked && !anyLaneRunning s

/-- The switch back, made at the first moment at which no lane is running (R156). -/
def switchBack (s : State) : State :=
  if switchDue s then
    clockEntry .switchedBack
      (writeDeviceStatus { s with clockUnit := { s.clockUnit with source := .external } })
  else s

/-! ## A change of lane state (R2) -/

/-- Whether a lane state is one whose entry sets the last cause (R2). -/
def setsLastCause : LaneState → Bool
  | .stopping => true
  | .ended => true
  | .fault => true
  | _ => false

/-- The target gains of a lane re-formed for a lane state (R148). -/
def reformTargets (x : Lane) : Lane :=
  { x with
    sound :=
      { x.sound with
        target := targetGains x.level x.sound.trims (decide (x.state = .playing)) } }

/-- A lane taken into a state: the pending hold record and the starve and link grace timers live in
PLAYING only, the hold limit timer in HELD and SEEKING, the start second in ARMED, the waiting
licence flag in LOADING (R6, R12, R18, R24 to R26); the last cause and the targets follow (R2,
R148). -/
def settleLane (st : LaneState) (cause : Cause) (x : Lane) : Lane :=
  reformTargets
    { x with
      state := st
      hold := if st = .playing then x.hold else none
      starveRun := if st = .playing then x.starveRun else 0
      linkGrace := if st = .playing then x.linkGrace else 0
      holdTimer := if st = .held ∨ st = .seeking then x.holdTimer else 0
      holdLimit := if st = .held ∨ st = .seeking then x.holdLimit else 0
      startSecond := if st = .armed then x.startSecond else none
      waitingLicence := if st = .loading then x.waitingLicence else false
      lastCause := if setsLastCause st then cause else x.lastCause }

/-- The LANE_STATE entry of a change of state: the state left, the state entered and the cause
(R2). -/
def laneStateEntry (l : LaneId) (x : Lane) (st : LaneState) (cause : Cause) : JournalEntry :=
  ⟨.laneState, some l, x.p, [x.state.ctorIdx, st.ctorIdx, cause.ctorIdx]⟩

/-- A change of lane state with what comes about in the lane at the same moment: the LANE_STATE entry
with P as it stood (log entry 16), the new state with `f`, the Lane Status Record (R2, R176), and the
switch back of the clock where the last running lane leaves (R156), in this order: DEDUCED, log entry
67. -/
def changeState (l : LaneId) (st : LaneState) (cause : Cause) (f : Lane → Lane) (s : State) : State :=
  switchBack
    (writeLaneStatus l
      ((offer (laneStateEntry l (s.lane l) st cause) s).modLane l fun x => f (settleLane st cause x)))

/-- A change of lane state and nothing beside it (R2). -/
def enterState (l : LaneId) (st : LaneState) (cause : Cause) (s : State) : State :=
  changeState l st cause id s

/-! ## Changes of one block of a lane -/

/-- The lane's link changed. -/
def modLink (l : LaneId) (f : Link → Link) (s : State) : State :=
  s.modLane l fun x => { x with link := f x.link }

/-- The lane's Sound Renderer changed. -/
def modSound (l : LaneId) (f : Sound → Sound) (s : State) : State :=
  s.modLane l fun x => { x with sound := f x.sound }

/-- The lane's Overlay Composer changed. -/
def modOverlay (l : LaneId) (f : Overlay → Overlay) (s : State) : State :=
  s.modLane l fun x => { x with overlay := f x.overlay }

/-- The lane's tally changed. -/
def modTally (l : LaneId) (f : Tally → Tally) (s : State) : State :=
  s.modLane l fun x => { x with tally := f x.tally }

/-- The lane's essence track changed. -/
def modTrack (l : LaneId) (e : Essence) (f : EssenceTrack → EssenceTrack) (s : State) : State :=
  s.modLane l fun x => { x with tracks := x.tracks.set e (f (x.tracks.get e)) }

/-- An indicator of the lane set (R31). -/
def raise (l : LaneId) (i : Indicator) (s : State) : State := s.modLane l (setIndicator i)

/-- A counter that saturates at 65,535. -/
def saturate16 (n : Nat) : Nat := min 65535 n

/-- A counter that saturates at 255. -/
def saturate8 (n : Nat) : Nat := min 255 n

end Sys2Proof.Machine
end

