-- ==== Sys2Proof/Machine/SoundOps.lean ====
section
/-! DEFINITION. The Sound Renderer's work: playing samples (R147, R152), the period of a presenting
boundary (R146), the swap of staged sections (R145), settings at once (R150) and the ramp (R149). -/

namespace Sys2Proof.Machine

/-- The source samples of an output over the next `n` sample instants of the period. -/
def nextSamples (x : Sound) (n : Nat) (xs : List Int) : List Int := (xs.drop x.periodPos).take n

/-- The outputs' saturated samples over the next `n` sample instants (R152). -/
def clipsAhead (x : Sound) (n : Nat) : Nat :=
  (List.zipWith (fun xs g => clipsOf (nextSamples x n xs) (multiplier g)) x.period x.applied).sum

/-- The output samples at each of the next `n` sample instants; past the end of a list the source
samples are zero, and so are the output samples (R147, R152). -/
def samplesAhead (x : Sound) (n : Nat) : List (List Int) :=
  List.zipWith (fun xs g => renderOutput (nextSamples x n xs) (multiplier g)) x.period x.applied

/-- The lines carrying zero from now on: what was played before stands, and none but zero follows from a mute
output or a period of zeros (R147, R150, R153). -/
def clearLines (x : Sound) : Sound := { x with silenced := true }

/-- A Sound Renderer after `n` further sample instants of its period and its tick, which become the
sample instants played last; no instant leaves them as they are. -/
def advanceSound (n : Nat) (x : Sound) : Sound :=
  { x with
    clipCount := saturate16 (x.clipCount + clipsAhead x n)
    periodPos := x.periodPos + n
    tickPos := x.tickPos + n
    out := if n = 0 then x.out else samplesAhead x n
    outLen := if n = 0 then x.outLen else n
    silenced := if n = 0 then x.silenced else false }

/-- `n` sample instants of a lane played at the applied gains; saturation sets CLIP (R152). -/
def playSamples (n : Nat) (x : Lane) : Lane :=
  { setIndicatorIf (decide (clipsAhead x.sound n ≠ 0)) .clip x with sound := advanceSound n x.sound }

/-- The end of a frame period: its remaining samples are played, and a period of zero source samples
begins at the lane's rates (R34, R35, R147). -/
def endPeriod (x : Lane) : Lane :=
  let y := playSamples (x.sound.periodLen - x.sound.periodPos) x
  { y with sound := { y.sound with period := silence, periodPos := 0, periodLen := lanePeriod y } }

/-- The samples up to a millisecond tick, played within the period; the next tick takes the lane's
sample rate, which is the new one from the taking of new rates on (R34, R35, log entries 20 and 47). -/
def endTick (x : Lane) : Lane :=
  let y := playSamples
    (min (x.sound.tickLen - x.sound.tickPos) (x.sound.periodLen - x.sound.periodPos)) x
  { y with sound := { y.sound with tickPos := 0, tickLen := tickSamples (laneSampleRate y) } }

/-- The ramp of every output at a millisecond tick (R149). -/
def rampGains (x : Lane) : Lane :=
  { x with
    sound :=
      { x.sound with applied := stepGains x.options.fadeRate x.sound.applied x.sound.target } }

/-- Every output set to mute at once, its line carrying zero from now on (R150, R153). -/
def muteAtOnce (x : Lane) : Lane :=
  { x with sound := { clearLines x.sound with applied := allMute } }

/-- Every line of a lane of a HALTED device carrying zero: the period in progress is one of zeros
(R153). -/
def silenceLines (x : Lane) : Lane :=
  { x with sound := { clearLines x.sound with period := silence } }

/-- Every output set to its target for PLAYING at once, as a run start does (R150). -/
def gainsAtStart (x : Lane) : Lane :=
  { x with sound := { x.sound with applied := targetGains x.level x.sound.trims true } }

/-- The map state after a section is written (R144). -/
def stageAfterRouting : MapStage → MapStage
  | .complete => .complete
  | _ => .routing

/-- The map state after TRIMS is written (R144). -/
def stageAfterTrims : MapStage → MapStage
  | .noSection => .noSection
  | _ => .complete

/-- A ROUTING section that takes effect at once: any staged copy is discarded (R144). -/
def applyRouting (r : List Source) (x : Sound) : Sound :=
  { x with routing := r, stagedRouting := none, stage := stageAfterRouting x.stage }

/-- A TRIMS section that takes effect at once: any staged copy is discarded (R144). -/
def applyTrims (t : List Trim) (x : Sound) : Sound :=
  { x with trims := t, stagedTrims := none, stage := stageAfterTrims x.stage }

/-- The swap of the staged sections at a frame boundary, and the targets re-formed (R145, R148). -/
def swapStaged (x : Lane) : Lane :=
  let s1 := match x.sound.stagedRouting with
    | none => x.sound
    | some r => { x.sound with routing := r, stagedRouting := none }
  let s2 := match s1.stagedTrims with
    | none => s1
    | some t => { s1 with trims := t, stagedTrims := none }
  reformTargets { x with sound := s2 }

/-- The period of a presenting boundary: each output's source samples (R146), and SOUND_GAP when a
track resolves as a gap. -/
def presentSound (main aux : SoundResult) (x : Lane) : Lane :=
  setIndicatorIf (decide (main = .gap) || decide (aux = .gap)) .soundGap
    { x with
      sound := { x.sound with period := x.sound.routing.map (sourceSamples main aux) } }

/-- The Sound Renderer after Unload: the map, the staged sections and the clip count kept, gains mute
and the period zero (R142, R147, R150, R153). -/
def unloadSound (x : Sound) : Sound :=
  { clearLines x with target := allMute, applied := allMute, period := silence }

/-- The Sound Renderer after Lane Reset and Device Reset: as after power-on, the period and the tick in
progress completing at their lengths, and what was played before standing (R35, R142, R147, log entry 20). -/
def resetSound (x : Sound) : Sound :=
  { initialSound with
    periodPos := x.periodPos
    periodLen := x.periodLen
    tickPos := x.tickPos
    tickLen := x.tickLen
    out := x.out
    outLen := x.outLen }

end Sys2Proof.Machine
end

