-- ==== Sys2Proof/Machine/LicenceOps.lean ====
section
/-! DEFINITION. The Licence Table's services: evaluation of derived states (R77), reservation (R85),
release (R86) and count commit (R87). -/

namespace Sys2Proof.Machine

/-- The Licence Table changed. -/
def modLicences (f : LicenceTable → LicenceTable) (s : State) : State :=
  { s with licences := f s.licences }

/-- A LICENCE_STATE entry: the licence id, the state left and the state entered (R77). -/
def licenceEntry (id left entered : Nat) : JournalEntry := ⟨.licenceState, none, 0, [id, left, entered]⟩

/-- The derived state of record `i` evaluated; a change is journaled (R77). -/
def evaluateAt (i : Nat) (s : State) : State :=
  match (s.licences.records.getD i none) with
  | none => s
  | some x =>
    let st := derivedState s.licences.clockValid s.licences.clock x
    if st = x.state then s
    else
      offer (licenceEntry x.id x.state.ctorIdx st.ctorIdx)
        (modLicences (fun t => { t with records := t.records.set i (some { x with state := st }) }) s)

/-- Every record evaluated, in table order (R77, log entry 28). -/
def evaluateAll (s : State) : State :=
  (List.range s.licences.records.length).foldl (fun s i => evaluateAt i s) s

/-- The index of a licence id's record. -/
def recordIndex : Nat → List (Option Licence) → Nat → Option Nat
  | _, [], _ => none
  | i, none :: rs, id => recordIndex (i + 1) rs id
  | i, some x :: rs, id => if x.id = id then some i else recordIndex (i + 1) rs id

/-- The record of a licence id evaluated (R77). -/
def evaluateLicence (id : Nat) (s : State) : State :=
  match recordIndex 0 s.licences.records id with
  | none => s
  | some i => evaluateAt i s

/-- The limit that counted + in_flight must stay below for a grant (R85, test 5). -/
def showingLimit (x : Licence) : Nat := if x.allowance = 0 then 65535 else x.allowance

/-- The first failing test of one licence in a reservation request (R85). -/
def reserveRefusal (l : LaneId) (head : Option Word64) (x : Licence) : Option Reason :=
  if x.state = .clockUnknown then some .clock
  else if x.state = .waiting ∨ x.state = .closed then some .notOpen
  else if !admitsLane x l then some .lane
  else if !permitsHead x head then some .headNotPermitted
  else if showingLimit x ≤ x.counted + x.inFlight then some .allowance
  else none

/-- The first failing licence of a reservation request, in tally order, with its reason (R85). -/
def firstRefusal (records : List (Option Licence)) (l : LaneId) (head : Option Word64) :
    List Nat → Option (Nat × Reason)
  | [] => none
  | id :: ids =>
    match (findLicence records id).bind (reserveRefusal l head) with
    | some r => some (id, r)
    | none => firstRefusal records l head ids

/-- One showing of a licence reserved. -/
def takeShowing (x : Licence) : Licence := { x with inFlight := x.inFlight + 1 }

/-- One showing of a licence returned (R86). -/
def returnShowing (x : Licence) : Licence := { x with inFlight := x.inFlight - 1 }

/-- One showing of a licence committed (R87). -/
def commitShowing (x : Licence) : Licence :=
  { x with counted := x.counted + 1, inFlight := x.inFlight - 1 }

/-- The grant: one showing of every licence of the list (R85). -/
def reserveAll (ids : List Nat) (s : State) : State :=
  modLicences
    (fun t => { t with records := ids.foldl (fun r id => changeLicence r id takeShowing) t.records }) s

/-- The release of one showing of each licence of a list (R86). -/
def releaseAll (ids : List Nat) (s : State) : State :=
  modLicences
    (fun t => { t with records := ids.foldl (fun r id => changeLicence r id returnShowing) t.records })
    s

/-- A count commit of a lane for a licence (R87): SHOW_COUNTED carries the id and counted after it,
and the derived state is evaluated. -/
def commitCount (l : LaneId) (id : Nat) (s : State) : State :=
  let s1 := modLicences (fun t => { t with records := changeLicence t.records id commitShowing }) s
  let counted := ((findLicence s1.licences.records id).map Licence.counted).getD 0
  evaluateLicence id (offer ⟨.showCounted, some l, (s.lane l).p, [id, counted]⟩ s1)

/-- The lowest-numbered free place of a list. -/
def freeIndex {α : Type} : Nat → List (Option α) → Option Nat
  | _, [] => none
  | i, none :: _ => some i
  | i, some _ :: rs => freeIndex (i + 1) rs

/-- The key slots of a licence freed and their keys erased (R75). -/
def freeSlots (id : Nat) (keys : List (Option KeySlot)) : List (Option KeySlot) :=
  keys.map fun k => k.filter fun x => !(decide (x.licence = id))

/-- Keys of a licence placed in free slots in key-list order, each in the lowest-numbered (R75), with
the slot index of each. -/
def placeKeys (id : Nat) (device : BitVec 128) :
    List (Nat × BitVec 128) → List (Option KeySlot) → List (Option KeySlot) × List (Nat × Nat)
  | [], keys => (keys, [])
  | (k, wrapped) :: rest, keys =>
    match freeIndex 0 keys with
    | none => (keys, [])
    | some i =>
      let out := placeKeys id device rest
        (keys.set i (some ⟨k, id, Config.unwrapKey device wrapped⟩))
      (out.1, (k, i) :: out.2)

end Sys2Proof.Machine
end

