-- ==== Sys2Proof/Machine/TallyOps.lean ====
section
/-! DEFINITION. The Run Tally (R94 to R106) and the awaiting-confirmation list of the Projector Link
(R114, R117, R118, R120). -/

namespace Sys2Proof.Machine

/-! ## The awaiting-confirmation list -/

/-- Whether a list holds an entry with the run mark (R101). -/
def hasMark (xs : List Awaiting) : Bool := xs.any Awaiting.runMark

/-- The entries newer than every marked entry (R120). -/
def afterMarks (xs : List Awaiting) : List Awaiting :=
  (xs.reverse.takeWhile fun e => !e.runMark).reverse

/-- `n` entries dropped as UNSEEN, leaving `rest`: the unseen count rises by each and the indicator
is set if any was dropped (R114, R117, R118, R120). -/
def dropUnseen (rest : List Awaiting) (n : Nat) (x : Lane) : Lane :=
  setIndicatorIf (decide (n ≠ 0)) .unseen
    { x with link := { x.link with awaiting := rest, unseen := saturate16 (x.link.unseen + n) } }

/-- Every entry with the run mark dropped, with every older one (R120). -/
def dropMarked (x : Lane) : Lane :=
  dropUnseen (afterMarks x.link.awaiting)
    (x.link.awaiting.length - (afterMarks x.link.awaiting).length) x

/-- Every entry dropped, as a departure from LOCKED does (R114). -/
def dropAll (x : Lane) : Lane := dropUnseen [] x.link.awaiting.length x

/-! ## The tally -/

/-- The licences of the RESERVED entries, in tally order. -/
def reservedLicences (t : Tally) : List Nat :=
  (t.entries.filter fun e => decide (e.status = .reserved)).map TallyEntry.licence

/-- A RESERVED entry becomes RELEASED (R102). -/
def releaseEntry (e : TallyEntry) : TallyEntry :=
  if e.status = .reserved then { e with status := .released } else e

/-- A tally whose RESERVED entries are RELEASED and whose phase is CLOSED (R102). -/
def closedTally (t : Tally) : Tally :=
  { t with phase := .closed, entries := t.entries.map releaseEntry }

/-- Entries with a status. -/
def countStatus (st : EntryStatus) (t : Tally) : Nat :=
  (t.entries.filter fun e => decide (e.status = st)).length

/-- The TALLY_CLOSED entry: the run-end cause, the way closed, the numbers released and COUNTED
(R102). -/
def tallyClosedEntry (l : LaneId) (x : Lane) (way : WayClosed) : JournalEntry :=
  ⟨.tallyClosed, some l, x.p,
    [x.tally.endCause.ctorIdx, way.ctorIdx, countStatus .reserved x.tally,
      countStatus .counted x.tally]⟩

/-- The closing of a run's tally by the steps of R102: releases, drops, TALLY_CLOSED (none for an
empty tally), CLOSED. -/
def closeTally (l : LaneId) (way : WayClosed) (s : State) : State :=
  let x := s.lane l
  let s1 := releaseAll (reservedLicences x.tally) s
  let s2 := s1.modLane l fun y => { dropMarked y with tally := closedTally y.tally }
  if x.tally.entries.isEmpty then s2 else offer (tallyClosedEntry l x way) s2

/-- A CLOSING tally whose list holds no marked entry closes as DRAINED (R101). -/
def checkDrained (l : LaneId) (s : State) : State :=
  if (s.lane l).tally.phase = .closing ∧ hasMark (s.lane l).link.awaiting = false then
    closeTally l .drained s
  else s

/-- Run end signalled to the tally: in RUNNING it enters CLOSING with its window count at 0, and
closes at once if the list holds no entry of the run (R100, R101). -/
def runEnd (l : LaneId) (cause : Cause) (s : State) : State :=
  if (s.lane l).tally.phase = .running then
    checkDrained l
      (modTally l (fun t => { t with phase := .closing, window := 0, endCause := cause }) s)
  else s

/-- A frame boundary of an open closing window: the count rises by one, and the window expires at 8
(R101). -/
def windowTick (l : LaneId) (s : State) : State :=
  if (s.lane l).tally.phase = .closing then
    let s1 := modTally l (fun t => { t with window := t.window + 1 }) s
    if Config.windowLength ≤ (s.lane l).tally.window + 1 then closeTally l .expired s1 else s1
  else s

/-- The closing at once of a tally in RUNNING or CLOSING (R103, R104). -/
def closeAtOnce (l : LaneId) (way : WayClosed) (s : State) : State :=
  if (s.lane l).tally.phase = .running ∨ (s.lane l).tally.phase = .closing then closeTally l way s
  else s

/-- The tally after Rewind: every entry PENDING with its confirmed count at 0, BUILT (R104); the run-end
cause NONE and the window count 0: DESIGN CHOICE, log entry 54. -/
def rebuiltTally (t : Tally) : Tally :=
  { t with
    phase := .built
    window := 0
    endCause := .none
    entries := t.entries.map fun e => { e with status := .pending, confirmed := 0 } }

/-- The tally at a run start: every PENDING entry RESERVED, RUNNING (R96); the run-end cause NONE and the
window count 0: DESIGN CHOICE, log entry 54. -/
def runningTally (t : Tally) : Tally :=
  { t with
    phase := .running
    window := 0
    endCause := .none
    entries :=
      t.entries.map fun e => if e.status = .pending then { e with status := .reserved } else e }

/-- The licences of a tally, in tally order. -/
def tallyLicences (t : Tally) : List Nat := t.entries.map TallyEntry.licence

/-- The credit set of the reel that contains a show frame (R95, R97). -/
def creditSet (x : Lane) (p : Nat) : List Nat :=
  match x.loaded.bind fun sh => reelOf sh p with
  | none => []
  | some (i, _) => x.tally.credit.getD (i - 1) []

/-- Whether a REAL frame is eligible when it is sent (R97). -/
def frameEligible (x : Lane) (p : Nat) : Bool :=
  (creditSet x p).any fun i =>
    (x.tally.entries[i]?).any fun e => decide (e.status = .reserved)

/-- One entry credited with a confirmation: a RESERVED entry gains one, and passes to COUNTED with
its commit when it reaches T (R98, R99). -/
def creditEntry (l : LaneId) (s : State) (i : Nat) : State :=
  match (s.lane l).tally.entries[i]? with
  | none => s
  | some e =>
    if e.status = .reserved then
      if e.threshold ≤ e.confirmed + 1 then
        commitCount l e.licence
          (modTally l
            (fun t =>
              { t with
                entries :=
                  t.entries.set i { e with confirmed := e.confirmed + 1, status := .counted } }) s)
      else
        modTally l
          (fun t => { t with entries := t.entries.set i { e with confirmed := e.confirmed + 1 } }) s
    else s

/-- A confirmation handed to the tally (R98). -/
def confirmFrame (l : LaneId) (e : Awaiting) (s : State) : State :=
  if e.eligible then (creditSet (s.lane l) e.showFrame).foldl (creditEntry l) s else s

end Sys2Proof.Machine
end

