-- ==== Sys2Proof/Machine/CueOps.lean ====
section
/-! DEFINITION. The cue scanner of a lane: part words (R157), the scan (R159 to R161) and the clearing
of marks at a run start and at a Seek (R157, R162). -/

namespace Sys2Proof.Machine

/-- The address of a lane's cue table; none when the show list gives 0 (Booth Automation). -/
def cueTableOf (x : Lane) : Option Nat :=
  x.loaded.bind fun sh => if sh.cueTable = 0 then none else some sh.cueTable

/-- A lane's cue scanner changed. -/
def modScanner (l : LaneId) (f : CueScanner → CueScanner) (s : State) : State :=
  s.modLane l fun x => { x with scanner := f x.scanner }

/-- The pending flag of a part word set or cleared (R157, R161). -/
def setPending (i : Nat) (b : Bool) (c : CueScanner) : CueScanner :=
  { c with writePending := c.writePending.set i b }

/-- The mark of an entry replaced. -/
def setMark (i : Nat) (m : Mark) (c : CueScanner) : CueScanner := { c with marks := c.marks.set i m }

/-- The address of the part word of entry `i` (Record Layouts, Cue table entry). -/
def partAddr (table i : Nat) : Nat := table + 16 * i + 8

/-- The part word of entry `i` written: its pending flag is cleared when the write succeeds and set
when it fails (R157, R161). -/
def writePart (l : LaneId) (s : State) (i : Nat) : State :=
  match cueTableOf (s.lane l) with
  | none => s
  | some t =>
    match hostWrite s.host (partAddr t i) (partWord ((s.lane l).scanner.marks.getD i .clear)) with
    | some h => modScanner l (setPending i false) { s with host := h }
    | none => modScanner l (setPending i true) s

/-- The part words of a list of entries written, in order. -/
def writeParts (l : LaneId) (is : List Nat) (s : State) : State := is.foldl (writePart l) s

/-- The entries whose part word is pending. -/
def pendingParts (c : CueScanner) : List Nat :=
  (List.range 32).filter fun i => c.writePending.getD i false

/-- The mark set of a run start: all clear, all 32 part words written clear (R157). -/
def clearMarks (l : LaneId) (s : State) : State :=
  writeParts l (List.range 32) (modScanner l (fun c => { c with marks := clearScanner.marks }) s)

/-- Whether a mark's mark position is at or after a show frame (R162). -/
def markAtOrAfter (start : Nat) : Mark → Bool
  | .clear => false
  | .fired _ position => decide (start ≤ position)
  | .missed _ position => decide (start ≤ position)

/-- The mark set at a Seek: the marks at or after the sought reel's first frame are cleared and their
part words written, with the words still pending (R161, R162). -/
def clearMarksFrom (l : LaneId) (start : Nat) (s : State) : State :=
  let c := (s.lane l).scanner
  let due := (List.range 32).filter fun i =>
    markAtOrAfter start (c.marks.getD i .clear) || c.writePending.getD i false
  writeParts l due
    (modScanner l
      (fun c =>
        { c with marks := c.marks.map fun m => if markAtOrAfter start m then .clear else m }) s)

/-- `n` host words of a cue table from entry `i` on, each read in one 8-byte access; none when a read
fails (R158, R161). -/
def readHostWords (h : HostSide) (table : Nat) : Nat → Nat → Option (List HostWord)
  | 0, _ => some []
  | n + 1, i =>
    match hostRead h (table + 16 * i) 8 with
    | none => none
    | some bs => (readHostWords h table n (i + 1)).map fun ws => hostWordOf bs :: ws

/-- The contact outputs with a mask's outputs set to a value's levels (R160, R163). -/
def setContacts (mask value contacts : BitVec 8) : BitVec 8 :=
  (contacts &&& ~~~mask) ||| (value &&& mask)

/-- An entry that fires at P (R160). -/
def fireCue (l : LaneId) (p i : Nat) (w : HostWord) (s : State) : State :=
  let s1 := s.modLane l fun x =>
    { x with
      contacts := setContacts w.mask w.value x.contacts
      scanner := setMark i (.fired p w.position) x.scanner }
  offer
    ⟨.cueFired, some l, p,
      [i, w.position, w.mask.toNat, w.value.toNat, flag (decide (w.position < p))]⟩
    (writePart l s1 i)

/-- An entry marked MISSED at P (R160). -/
def missCue (l : LaneId) (p i : Nat) (w : HostWord) (s : State) : State :=
  offer ⟨.cueMissed, some l, p, [i, w.position]⟩
    (raise l .cueMissed (writePart l (modScanner l (setMark i (.missed p w.position)) s) i))

/-- One entry judged against P and the show length (R159). -/
def judgeCue (l : LaneId) (p n : Nat) (s : State) (e : Nat × HostWord) : State :=
  if !e.2.armed || e.2.editing || !decide ((s.lane l).scanner.marks.getD e.1 .clear = .clear) then s
  else if p < e.2.position ∨ n ≤ e.2.position then s
  else if e.2.position = p ∨ e.2.lateOk = true then fireCue l p e.1 e.2 s
  else missCue l p e.1 e.2 s

/-- The scan of a presenting boundary: the 32 host words read, the pending part words written again,
the entries judged in index order; a failed read leaves it unmade (R159, R161). -/
def cueScan (l : LaneId) (p n : Nat) (s : State) : State :=
  match cueTableOf (s.lane l) with
  | none => s
  | some t =>
    match readHostWords s.host t 32 0 with
    | none => modScanner l (fun c => { c with readError := true }) s
    | some ws =>
      let s1 := modScanner l (fun c => { c with readError := false }) s
      ((List.range 32).zip ws).foldl (judgeCue l p n)
        (writeParts l (pendingParts (s1.lane l).scanner) s1)

end Sys2Proof.Machine
end

