-- ==== Sys2Proof/Machine/LaneOps.lean ====
section
/-! DEFINITION. What the Lane Controller does to a lane from more than one command: taking and merging
holds (R18, R20), stopping and ending (R17, R23, R27, R28), FAULT (R29), and starting a run (R10, R11,
R13). -/

namespace Sys2Proof.Machine

/-! ## Holds -/

/-- A hold made or merged into the pending hold record (R18). -/
def mergeHold (cause : Cause) (w : HoldWhen) (x : Lane) : Lane :=
  { x with
    hold := some
      (match x.hold with
      | none => ⟨cause, w, 0⟩
      | some h =>
        ⟨h.cause, (match w with | .now => .now | .reelEnd _ => h.when_), saturate8 (h.merged + 1)⟩) }

/-- The hold limit in frame periods of a lane (R26, R47). -/
def laneHoldLimit (x : Lane) : Nat := holdLimitFrames x.options.holdLimit (laneEditRate x)

/-- The pending hold taken: HELD with the record's cause, the hold limit timer starting at 0
(R20). -/
def takeHold (l : LaneId) (h : HoldRecord) (s : State) : State :=
  changeState l .held h.cause (fun x => { x with holdTimer := 0, holdLimit := laneHoldLimit x }) s

/-! ## Ends of a run -/

/-- The entry to STOPPING that Stop and the lane timers make, passing to ENDED at once when every
output is already mute (R23). -/
def stopLane (l : LaneId) (cause : Cause) (s : State) : State :=
  let s1 := enterState l .stopping cause (runEnd l cause s)
  if everyMute (s1.lane l).sound.applied then enterState l .ended cause s1 else s1

/-- ENDED at once with every output mute (R27, R28); run end reaches the tally in RUNNING only
(R100). -/
def endNow (l : LaneId) (cause : Cause) (s : State) : State :=
  enterState l .ended cause (runEnd l cause (s.modLane l muteAtOnce))

/-- The emergency stop of a lane by its state (R27). -/
def emergencyStop (l : LaneId) (s : State) : State :=
  match (s.lane l).state with
  | .playing => endNow l .emergency s
  | .held => endNow l .emergency s
  | .seeking => endNow l .emergency s
  | .stopping => endNow l .emergency s
  | .armed => enterState l .ready .emergency s
  | .empty => s
  | .loading => s
  | .ready => s
  | .ended => s
  | .fault => s

/-- The emergency pattern of a lane applied to its contact outputs (R163). -/
def applyPattern (x : Lane) : Lane :=
  { x with
    contacts := setContacts x.options.emergencyMask x.options.emergencyValue x.contacts }

/-- An emergency that reaches a lane from an EMERGENCY input: its pattern, and the stop; while HALTED
no pattern is applied (R27, R163). The pattern comes before the stop: DESIGN CHOICE, log entry 79. -/
def emergencyReaches (l : LaneId) (s : State) : State :=
  emergencyStop l (if s.device = .halted then s else s.modLane l applyPattern)

/-- Show completion: a REEL_END hold of the last reel is discarded with HOLD_DISCARDED, run end
COMPLETE, ENDED (R17), in that order (DEDUCED, log entry 12). -/
def completeShow (l : LaneId) (s : State) : State :=
  let x := s.lane l
  let s1 :=
    match x.hold with
    | some ⟨cause, .reelEnd r, merged⟩ =>
      if (x.loaded.map fun sh => sh.reels.length) = some r then
        offer ⟨.holdDiscarded, some l, x.p, [cause.ctorIdx, merged]⟩ s
      else s
    | _ => s
  enterState l .ended .complete (runEnd l .complete s1)

/-- FAULT: the fault record, every output mute at once, run end FAULT, the FAULT entry and then
LANE_STATE (R29). -/
def faultLane (l : LaneId) (kind : PoisonKind) (track : TrackKind) (frame : Nat) (s : State) : State :=
  let x := s.lane l
  let s1 := s.modLane l fun y =>
    muteAtOnce
      { y with
        faultRecord := some
          ⟨kind, y.p, track, frame, y.indicators.held, reservedLicences y.tally⟩ }
  enterState l .fault .fault
    (offer ⟨.fault, some l, x.p, [kind.ctorIdx, track.ctorIdx, frame]⟩ (runEnd l .fault s1))

/-! ## Starting a run -/

/-- The first failing precondition of R10 after the lane state, as an answer (R10, R85). -/
def startRefusal (l : LaneId) (s : State) : Option Answer :=
  let x := s.lane l
  if emergencyBlocks s l then some ⟨.inputActive, .none, 0, []⟩
  else if x.sound.stage ≠ .complete then some ⟨.soundMap, .none, 0, []⟩
  else if x.link.state ≠ .locked then some ⟨.link, .none, 0, []⟩
  else if x.link.headStatus ≠ .ready then some ⟨.head, .none, 0, []⟩
  else
    (firstRefusal s.licences.records l x.link.headId (tallyLicences x.tally)).map fun r =>
      ⟨.licence, r.2, 0, [r.1]⟩

/-- What a run start changes in the lane beside its state (R11, R66, R96). -/
def runLane (x : Lane) : Lane :=
  gainsAtStart
    { x with
      hold := none
      starveRun := 0
      linkGrace := 0
      lastCause := .none
      lastReal := none
      tally := runningTally x.tally }

/-- The run start, with the reservation granted (R11, R85, R96). -/
def startRun (l : LaneId) (cause : Cause) (s : State) : State :=
  changeState l .playing cause runLane
    (clearMarks l (reserveAll (tallyLicences (s.lane l).tally) s))

/-- The firing of an ARMED lane (R13). -/
def fireStart (l : LaneId) (s : State) : State :=
  match startRefusal l s with
  | none => startRun l .clockStart s
  | some a =>
    enterState l .ready .clockStart
      (offer ⟨.startFailed, some l, (s.lane l).p, [a.code.ctorIdx, a.words.headD 0, a.reason.ctorIdx]⟩
        s)

/-- Whether an ARMED lane's start second has come (R13). -/
def startDue (x : Lane) (clock : Nat) : Bool :=
  decide (x.state = .armed) && (x.startSecond.map fun t => decide (t ≤ clock)).getD false

/-- One lane's comparison of the clock with its start second (R13). -/
def compareArmed (s : State) (l : LaneId) : State :=
  if startDue (s.lane l) s.licences.clock then fireStart l s else s

/-- The comparison that every second event, Set Clock and Adjust Clock makes (R13, log entry 28). -/
def compareAllArmed (s : State) : State := allLanes.foldl compareArmed s

end Sys2Proof.Machine
end

