-- ==== Sys2Proof/Machine/InputOps.lean ====
section
/-! DEFINITION. The building contact inputs: the filter (R165), the chatter test (R166), and the
handing of a change to the input's function (R167). -/

namespace Sys2Proof.Machine

/-- The contact of an input read through its polarity: true is active (R164). -/
def readContact (p : Polarity) (closed : Bool) : Bool :=
  match p with
  | .activeClosed => closed
  | .activeOpen => !closed

/-- A raw sample as an accepted level. -/
def levelOf (raw : Bool) : InputLevel := if raw then .active else .inactive

/-- What a filter hands to its input's function (R167): the kind of change and the levels before and
after. -/
structure FilterEvent where
  change : InputChange
  before : InputLevel
  after : InputLevel
deriving DecidableEq, Repr

/-- Whether a change is an acceptance of the active level (R167). -/
def acceptsActive (e : FilterEvent) : Bool :=
  decide (e.change = .accepted) && decide (e.after = .active)

/-- The raw sample and stable count at an input tick; the first sample after a restart is taken
afresh (R165, R168, log entry 22). -/
def sampleFilter (set : InputSettings) (closed : Bool) (f : InputFilter) : InputFilter :=
  let now := readContact set.polarity closed
  if f.fresh then { f with raw := now, fresh := false, stable := 0 }
  else if now = f.raw then { f with stable := min 1000 (f.stable + 1) }
  else { f with raw := now, stable := 0 }

/-- Whether the chatter test refuses a transition at a tick: four times in the history, the oldest
less than 1,000 ms before (R166). -/
def chatterRefuses (tick : Nat) (history : List Nat) : Bool :=
  decide (history.length = 4) && decide (tick < history.headD 0 + 1000)

/-- A history with a transition's tick entered at its end, the oldest of five dropped (R166). -/
def enterHistory (tick : Nat) (history : List Nat) : List Nat :=
  if 4 < (history ++ [tick]).length then (history ++ [tick]).drop 1 else history ++ [tick]

/-- The acceptance of the raw sample as a filter's level. -/
def acceptance (f : InputFilter) : FilterEvent := ⟨.accepted, f.level, levelOf f.raw⟩

/-- The exit from CHATTERING of a filter, which leaves its frozen level. -/
def chatterExit (f : InputFilter) : FilterEvent := ⟨.chatterLeft, f.level, f.level⟩

/-- The judgement of a sampled filter with its chattering flag set: at a stable count of 1,000 the exit
is handed on, and where the raw sample differs from the frozen level the transition too (R166, log
entry 38). -/
def judgeChattering (tick : Nat) (f : InputFilter) : InputFilter × List FilterEvent :=
  if f.stable < 1000 then (f, [])
  else if levelOf f.raw = f.level then ({ f with chattering := false }, [chatterExit f])
  else
    ({ f with chattering := false, level := levelOf f.raw, history := [tick] },
      [chatterExit f, acceptance f])

/-- The judgement of a sampled filter with its chattering flag clear: the first acceptance from
UNKNOWN, a transition accepted, or one refused by the chatter test (R165, R166). -/
def judgeSteady (set : InputSettings) (tick : Nat) (f : InputFilter) :
    InputFilter × List FilterEvent :=
  if f.stable < set.debounce ∨ levelOf f.raw = f.level then (f, [])
  else if f.level = .unknown then ({ f with level := levelOf f.raw }, [acceptance f])
  else if chatterRefuses tick f.history then
    ({ f with chattering := true, history := [], stable := 0 }, [⟨.chatterEntered, f.level, f.level⟩])
  else
    ({ f with level := levelOf f.raw, history := enterHistory tick f.history }, [acceptance f])

/-- A filter at an input tick, with what it hands on, in order (R165, R166). -/
def stepFilter (set : InputSettings) (tick : Nat) (closed : Bool) (f : InputFilter) :
    InputFilter × List FilterEvent :=
  let g := sampleFilter set closed f
  if g.chattering then judgeChattering tick g else judgeSteady set tick g

/-- The lanes of a lane mask, in order. -/
def maskLanes (m : BitVec 4) : List LaneId := allLanes.filter fun l => m.getLsbD (laneIndex l)

/-- An accepted HOLD input reaching one lane (R18, R167). -/
def inputHold (s : State) (l : LaneId) : State :=
  if (s.lane l).state = .playing then s.modLane l (mergeHold .inputHold .now) else s

/-- The action of an accepted active level on the lanes of the mask (R167). -/
def actOnLanes (set : InputSettings) (s : State) : State :=
  match set.function with
  | .none => s
  | .report => s
  | .hold => (maskLanes set.mask).foldl inputHold s
  | .emergency => (maskLanes set.mask).foldl (fun s l => emergencyReaches l s) s

/-- The INPUT entry of a change; a NONE input writes none (R167). -/
def reportInput (i : Nat) (set : InputSettings) (e : FilterEvent) (s : State) : State :=
  if set.function = .none then s
  else
    offer
      ⟨.input, none, 0,
        [i, set.function.ctorIdx, e.change.ctorIdx, e.before.ctorIdx, e.after.ctorIdx]⟩ s

/-- A change handed to the input's function: the INPUT entry, then the lanes A to D of the mask (R167): DESIGN
CHOICE, log entry 68. -/
def handInput (i : Nat) (set : InputSettings) (s : State) (e : FilterEvent) : State :=
  if acceptsActive e then actOnLanes set (reportInput i set e s) else reportInput i set e s

/-- The changes that a filter hands on, after the Device Status Record that shows them (R167, R176). -/
def handInputs (i : Nat) (set : InputSettings) (es : List FilterEvent) (s : State) : State :=
  if es.isEmpty then s else es.foldl (handInput i set) (writeDeviceStatus s)

/-- One input at the input tick `inputTicks` (R165 to R167). -/
def tickInput (contacts : BitVec 8) (s : State) (i : Nat) : State :=
  match s.inputs[i]? with
  | none => s
  | some x =>
    let r := stepFilter x.settings s.inputTicks (contacts.getLsbD i) x.filter
    handInputs i x.settings r.2 { s with inputs := s.inputs.set i { x with filter := r.1 } }

/-- An input tick of all the inputs, in index order (DESIGN CHOICE, log entry 69); none occurs in ACQUIRING
(R164, R165). -/
def inputTickAll (contacts : BitVec 8) (s : State) : State :=
  if s.clockUnit.source = .acquiring then s
  else
    (List.range 8).foldl (tickInput contacts) { s with inputTicks := s.inputTicks + 1 }

/-- What input `i` would hand on at the next input tick. -/
def nextEvents (s : State) (i : Nat) (contacts : BitVec 8) : List FilterEvent :=
  match s.inputs[i]? with
  | none => []
  | some x => (stepFilter x.settings (s.inputTicks + 1) (contacts.getLsbD i) x.filter).2

/-- Whether the next input tick takes input `i` out of CHATTERING (R166). -/
def chatterLeftDue (s : State) (i : Nat) (contacts : BitVec 8) : Bool :=
  (nextEvents s i contacts).any fun e => decide (e.change = .chatterLeft)

/-- Whether the next input tick brings input `i`, not CHATTERING, to its debounce (R165). -/
def debounceDue (s : State) (i : Nat) (contacts : BitVec 8) : Bool :=
  !(nextEvents s i contacts).isEmpty && !chatterLeftDue s i contacts

end Sys2Proof.Machine
end

