-- ==== Sys2Proof/Machine/OverlayOps.lean ====
section
/-! DEFINITION. The Overlay Composer's stores: asking for a store (R127), succession and freeing (R132,
R133), loss (R128), the decoding of a container (R128 to R131), and the palette pending flags
(R138). -/

namespace Sys2Proof.Machine

/-- The Overlay Composer of a lane with the store in a place replaced. -/
def putStore (pl : Place) (st : Store) (x : Lane) : Lane :=
  { x with overlay := setStore x.overlay pl st }

/-- A store asked for in a place for a reel: FETCHING, LOST with NO_CHUNKS, or NONE when the reel or
the track does not exist (R127). -/
def askStore (reel : Nat) (x : Lane) (pl : Place) : Lane :=
  match (x.loaded.bind fun sh => nthReel sh reel).bind fun r => r.subtitles.get (placeTrack pl) with
  | none => putStore pl { noStore with reel := reel } x
  | some t =>
    if t.chunks = 0 then
      setIndicator .subtitleLost (putStore pl { noStore with reel := reel, state := .lost, loss := .noChunks } x)
    else putStore pl { noStore with reel := reel, state := .fetching } x

/-- All four stores freed (R132). -/
def freeStores (x : Lane) : Lane :=
  { x with
    overlay :=
      { x.overlay with current1 := noStore, current2 := noStore, next1 := noStore, next2 := noStore } }

/-- The stores of a reel asked for in the current places and those of the reel after it in the next
places (R127). -/
def askReel (reel : Nat) (x : Lane) : Lane :=
  [Place.next1, .next2].foldl (askStore (reel + 1)) ([Place.current1, .current2].foldl (askStore reel) x)

/-- A wanted record of a subtitle track that names a reel cleared (R71). -/
def dropWanted (t : Subtitle) (reel : Nat) (x : Lane) : Lane :=
  if (x.subWanted.get t).any fun w => decide (w.reel = reel) then
    { x with subWanted := x.subWanted.set t none }
  else x

/-- Both palette pending flags set (R138). -/
def pendPalettes (x : Lane) : Lane := { x with overlay := { x.overlay with palettePending := ⟨true, true⟩ } }

/-- The reel that the current places serve. -/
def servedReel (x : Lane) : Nat := x.overlay.current1.reel

/-- Reel succession to reel `i` (R133). -/
def succession (i : Nat) (x : Lane) : Lane :=
  let y := dropWanted .two (servedReel x) (dropWanted .one (servedReel x) x)
  let z :=
    { y with
      overlay := { y.overlay with current1 := y.overlay.next1, current2 := y.overlay.next2 } }
  pendPalettes ([Place.next1, .next2].foldl (askStore (i + 1)) z)

/-- A store that becomes LOST: its fetching ends, its cues and memory go, SUBTITLE_LOST is set
(R128). -/
def loseStore (pl : Place) (loss : StoreLoss) (x : Lane) : Lane :=
  let st := getStore x.overlay pl
  setIndicator .subtitleLost
    (dropWanted (placeTrack pl) st.reel
      (putStore pl
        { st with
          state := .lost
          loss := loss
          palette := []
          cues := []
          received := []
          heldBytes := 0
          waiting := false } x))

/-! ## The container (Record Layouts, Subtitle container) -/

/-- The size of the container header. -/
def containerHeader : Nat := 104

/-- The size of a cue record. -/
def cueRecordSize : Nat := 32

/-- The container length L. -/
def containerLength (bs : List Byte) : Nat := field bs 0 4

/-- The cue count. -/
def containerCues (bs : List Byte) : Nat := field bs 4 2

/-- Where the bitmap area begins. -/
def bitmapStart (bs : List Byte) : Nat := containerHeader + cueRecordSize * containerCues bs

/-- The palette: 16 entries of three 12-bit values. Bits 12 to 15 of a value are dropped: DESIGN CHOICE, log
entry 66. -/
def containerPalette (bs : List Byte) : List (Nat × Nat × Nat) :=
  (List.range 16).map fun i =>
    (field bs (8 + 6 * i) 2 % 4096, field bs (10 + 6 * i) 2 % 4096, field bs (12 + 6 * i) 2 % 4096)

/-- A cue record as read. -/
structure CueRecord where
  number : Nat
  palette : Nat
  inTime : Nat
  outTime : Nat
  fadeIn : Nat
  fadeOut : Nat
  x : Nat
  y : Nat
  w : Nat
  h : Nat
  offset : Nat
deriving DecidableEq, Repr

/-- Cue record `i` of a container. -/
def cueRecord (bs : List Byte) (i : Nat) : CueRecord :=
  let r := (bs.drop (containerHeader + cueRecordSize * i)).take cueRecordSize
  { number := field r 0 2
    palette := field r 2 1
    inTime := field r 4 4
    outTime := field r 8 4
    fadeIn := field r 0x0C 4
    fadeOut := field r 0x10 4
    x := field r 0x14 2
    y := field r 0x16 2
    w := field r 0x18 2
    h := field r 0x1A 2
    offset := field r 0x1C 4 }

/-- The largest time of a cue, in milliseconds (R40, R129). -/
def cueTimeMax : Nat := 86400000

/-- Test 1 of R129, for a bitmap area of `area` bytes. -/
def cueInRange (area : Nat) (c : CueRecord) : Bool :=
  decide (1 ≤ c.number) && decide (c.number ≤ 65535) && decide (c.inTime ≤ cueTimeMax) &&
    decide (c.outTime ≤ cueTimeMax) && decide (c.fadeIn ≤ cueTimeMax) &&
    decide (c.fadeOut ≤ cueTimeMax) && decide (c.palette ≤ 15) && decide (1 ≤ c.w) &&
    decide (c.w ≤ 2048) && decide (1 ≤ c.h) && decide (c.h ≤ 540) && decide (c.x ≤ 2047) &&
    decide (c.y ≤ 1079) && decide (c.offset + c.w * c.h ≤ area)

/-- The judgement of cue records so far: the accepted ones, oldest first, and the drop counts. -/
structure CueJudgement where
  accepted : List CueRecord
  malformed : Nat
  overCap : Nat
deriving DecidableEq, Repr

/-- One record judged by the four tests of R129. -/
def judgeRecord (area : Nat) (j : CueJudgement) (c : CueRecord) : CueJudgement :=
  if !cueInRange area c then { j with malformed := j.malformed + 1 }
  else if (j.accepted.getLast?).any fun d => decide (c.inTime < d.inTime) then
    { j with malformed := j.malformed + 1 }
  else if j.accepted.any fun d => decide (d.number = c.number) then
    { j with malformed := j.malformed + 1 }
  else if 1024 ≤ j.accepted.length then { j with overCap := j.overCap + 1 }
  else { j with accepted := j.accepted ++ [c] }

/-- All the cue records of a container judged, in container order (R129). -/
def judgeRecords (bs : List Byte) : CueJudgement :=
  ((List.range (containerCues bs)).map (cueRecord bs)).foldl
    (judgeRecord (containerLength bs - bitmapStart bs)) ⟨[], 0, 0⟩

/-- The cue of an accepted record at an edit rate, its bitmap not yet received (R40, R41, R43). -/
def cueOfRecord (rate : Nat) (c : CueRecord) : Cue :=
  let fin := msToFrames c.inTime rate
  let fout := raisedOut fin (msToFrames c.outTime rate)
  let fades := fitFades (fout - fin) (msToFrames c.fadeIn rate) (msToFrames c.fadeOut rate)
  { number := c.number
    inFrame := fin
    outFrame := fout
    fadeIn := fades.1
    fadeOut := fades.2
    x := c.x
    y := c.y
    w := c.w
    h := c.h
    palette := c.palette
    bitmapOffset := c.offset
    bitmap := [] }

/-- Cues in increasing order of cue number (R130). -/
def cuesByNumber (cs : List Cue) : List Cue := sortCues (fun c d => decide (c.number < d.number)) cs

/-- The cues kept within the free bitmap memory: the first that does not fit drops every later one
(R130). -/
def allocate : Nat → List Cue → List Cue
  | _, [] => []
  | free, c :: cs => if c.w * c.h ≤ free then c :: allocate (free - c.w * c.h) cs else []

/-- The bitmap memory that cues take (R130). -/
def cueBytes (cs : List Cue) : Nat := (cs.map fun c => c.w * c.h).sum

/-- The cue records of the store in a place judged and its memory allocated (R129, R130). -/
def judgeStore (pl : Place) (x : Lane) : Lane :=
  let st := getStore x.overlay pl
  match x.loaded.bind fun sh => nthReel sh st.reel with
  | none => x
  | some r =>
    let j := judgeRecords st.received
    let cues := j.accepted.map (cueOfRecord (laneEditRate x))
    let inside := cues.filter fun c => !cueNever r c.inFrame c.outFrame
    let kept := allocate (freeBitmap x.overlay) (cuesByNumber inside)
    setIndicatorIf (decide (kept.length < inside.length)) .subtitleLost
      (putStore pl
        { st with
          recordsJudged := true
          cues := kept
          malformed := j.malformed
          overCap := j.overCap
          outsideReel := cues.length - inside.length
          forMemory := inside.length - kept.length
          heldBytes := cueBytes kept } x)

/-- A kept cue with its bitmap copied from the bitmap area (R131). -/
def withBitmap (bs : List Byte) (c : Cue) : Cue :=
  { c with bitmap := ((bs.drop (bitmapStart bs + c.bitmapOffset)).take (c.w * c.h)) }

/-- The store in a place DECODED; in a current place its palette becomes pending (R131, R138). -/
def decodeStore (pl : Place) (x : Lane) : Lane :=
  let st := getStore x.overlay pl
  let y := putStore pl
    { st with state := .decoded, cues := st.cues.map (withBitmap st.received), received := [] } x
  if placeIsCurrent pl then
    { y with
      overlay :=
        { y.overlay with palettePending := y.overlay.palettePending.set (placeTrack pl) true } }
  else y

/-- The header of the store in a place judged once its bytes are there (R128, log entry 45). -/
def judgeHeader (pl : Place) (x : Lane) : Lane :=
  let st := getStore x.overlay pl
  if st.state ≠ .fetching ∨ st.headerJudged = true ∨ st.received.length < containerHeader then x
  else if containerLength st.received < bitmapStart st.received then loseStore pl .container x
  else putStore pl { st with headerJudged := true, palette := containerPalette st.received } x

/-- A store whose received bytes reach beyond L is LOST (R128). -/
def judgeExcess (pl : Place) (x : Lane) : Lane :=
  let st := getStore x.overlay pl
  if st.state = .fetching ∧ st.headerJudged = true ∧ containerLength st.received < st.received.length
  then loseStore pl .container x
  else x

/-- The cue records judged once their bytes are there (R129). -/
def judgeCues (pl : Place) (x : Lane) : Lane :=
  let st := getStore x.overlay pl
  if st.state = .fetching ∧ st.headerJudged = true ∧ st.recordsJudged = false ∧
      bitmapStart st.received ≤ st.received.length
  then judgeStore pl x
  else x

/-- The end of a store whose last chunk has come: DECODED when the bytes received are L, else LOST
(R70, R128, R131). -/
def judgeEnd (chunks : Nat) (pl : Place) (x : Lane) : Lane :=
  let st := getStore x.overlay pl
  if st.state ≠ .fetching ∨ st.fetchChunk < chunks then x
  else if st.recordsJudged = true ∧ st.received.length = containerLength st.received then
    decodeStore pl x
  else loseStore pl .container x

/-- A deciphered chunk handed to the store in a place, of `chunks` chunks (R70, R128 to R131). Bytes beyond
L are judged before the cue records: DEDUCED, log entry 58. -/
def receiveChunk (chunks : Nat) (content : List Byte) (pl : Place) (x : Lane) : Lane :=
  let st := getStore x.overlay pl
  judgeEnd chunks pl
    (judgeCues pl
      (judgeExcess pl
        (judgeHeader pl
          (putStore pl { st with received := st.received ++ content, fetchChunk := st.fetchChunk + 1 }
            x))))

/-- The palettes that a frame record carries: of each track whose flag is set and whose current store
is DECODED (R138). -/
def carriedPalettes (o : Overlay) : List (Subtitle × List (Nat × Nat × Nat)) :=
  (if o.palettePending.one && decide (o.current1.state = .decoded) then
      [(Subtitle.one, o.current1.palette)] else []) ++
    (if o.palettePending.two && decide (o.current2.state = .decoded) then
      [(Subtitle.two, o.current2.palette)] else [])

/-- Both palette pending flags clear, as every frame record sent leaves them (R138). -/
def clearPalettes (o : Overlay) : Overlay := { o with palettePending := ⟨false, false⟩ }

end Sys2Proof.Machine
end

