-- ==== Sys2Proof/Machine/LinkOps.lean ====
section
/-! DEFINITION. The Projector Link: entries to and departures from LOCKED (R113, R114, R121), frame
records (R115 to R117), test records and the end of a test (R123, R124), and back-channel reports (R110
to R112, R118, R119). -/

namespace Sys2Proof.Machine

/-! ## LINK_STATE entries -/

/-- The two detail words of a 64-bit value (R179). -/
def identityWords (h : Option Word64) : List Nat :=
  [((h.getD 0).toNat) % 2 ^ 32, ((h.getD 0).toNat) / 2 ^ 32]

/-- The state left and the state entered, as R108 and R113 list them. An entry to TRAINING from DOWN or
LOCKED and an entry to TESTING carry these two alone: DESIGN CHOICE, log entry 75. -/
def movedWords (left entered : LinkState) : List Nat := [left.ctorIdx, entered.ctorIdx]

/-- A LINK_STATE entry with the values that its raising rule lists (R179). -/
def linkEntry (l : LaneId) (p : Nat) (words : List Nat) : JournalEntry := ⟨.linkState, some l, p, words⟩

/-- A LINK_STATE entry of a lane offered. -/
def offerLink (l : LaneId) (words : List Nat) (s : State) : State :=
  offer (linkEntry l (s.lane l).p words) s

/-! ## Training -/

/-- What the forward direction carries between boundaries that send a record: training patterns in
TRAINING, with the identity request once the lock flag is set, nothing in the other states (R109,
R116, R123). -/
def idleForward (k : Link) : Forward :=
  match k.state with
  | .training => .training k.lockFlag
  | .down => .nothing
  | .locked => .nothing
  | .testing => .nothing

/-- The forward direction of a link that sends no record. -/
def idleLink (k : Link) : Link := { k with forward := idleForward k }

/-- The link in TRAINING with its lock flag, its training patterns going out (R109). -/
def trainLink (lock : Bool) (k : Link) : Link := idleLink { k with state := .training, lockFlag := lock }

/-! ## Entering and leaving LOCKED -/

/-- The effects of a departure from LOCKED on the lane: the list dropped as UNSEEN, the head status
UNKNOWN, the tile map emptied (R114). -/
def departLane (x : Lane) : Lane :=
  let y := dropAll x
  { y with
    link := { y.link with headStatus := .unknown }
    overlay := { y.overlay with tileMap := [] } }

/-- A departure from LOCKED, told to the tally (R114, R101): TALLY_CLOSED before the LINK_STATE entry,
DEDUCED, log entry 56. -/
def departLocked (l : LaneId) (s : State) : State := checkDrained l (s.modLane l departLane)

/-- The first licence in tally order, RESERVED or COUNTED, that does not permit a head identity
(R121). -/
def headRefusal (records : List (Option Licence)) (t : Tally) (h : Option Word64) : Option Nat :=
  (t.entries.find? fun e =>
    entryHeld e && !((findLicence records e.licence).map fun x => permitsHead x h).getD true).map
    TallyEntry.licence

/-- The judgement of the head identity at an entry to LOCKED (R121): HEAD_CHANGED before TALLY_CLOSED and
LANE_STATE, DEDUCED, log entry 55. -/
def judgeHead (l : LaneId) (prev : Option Word64) (s : State) : State :=
  let x := s.lane l
  if inRunStates x.state then
    match headRefusal s.licences.records x.tally x.link.headId with
    | none => s
    | some id =>
      endNow l .headChanged
        (offer
          ⟨.headChanged, some l, x.p, identityWords prev ++ identityWords x.link.headId ++ [id]⟩ s)
  else s

/-- What an entry to LOCKED with a reported identity sets in the lane (R111, R113, R138). A head status
recorded in TRAINING stands: DEDUCED, log entry 71. -/
def lockLane (identity : Word64) (x : Lane) : Lane :=
  pendPalettes
    { x with
      link := idleLink { x.link with state := .locked, headId := some identity, frameHeld := false }
      overlay := { x.overlay with tileMap := [] } }

/-- An entry to LOCKED, with the words of its LINK_STATE entry (R113). -/
def enterLocked (l : LaneId) (words : List Nat) (identity : Word64) (s : State) : State :=
  offerLink l words
    (judgeHead l (s.lane l).link.headId (s.modLane l (lockLane identity)))

/-! ## The link test -/

/-- The test error count raised (R110, R123). -/
def addTestErrors (n : Nat) (k : Link) : Link :=
  { k with test := { k.test with errors := saturate16 (k.test.errors + n) } }

/-- Test records sent and not tallied (R124). -/
def untallied (t : LinkTest) : Nat := (t.sent.filter fun r => !r.2).length

/-- The final test error count: untallied records added, and at least 1 when the lock was not held
(R124). -/
def finalErrors (held : Bool) (t : LinkTest) : Nat :=
  if held then saturate16 (t.errors + untallied t) else max 1 (saturate16 (t.errors + untallied t))

/-- The link at the end of a test: the held result, and no test in progress (R124). -/
def endTest (held : Bool) (k : Link) : Link :=
  let n := finalErrors held k.test
  { k with
    heldTest := ⟨if n = 0 then .pass else .fail, n, k.test.sent.length⟩
    test := ⟨0, 0, n, []⟩ }

/-- The values that the LINK_STATE entry leaving TESTING carries: the result, the error count and the
records sent (R124). -/
def resultWords (k : Link) : List Nat :=
  [k.heldTest.result.ctorIdx, k.heldTest.errors, k.heldTest.sent]

/-- The eighth settle boundary of a test: TRAINING with the lock flag set (R109, R124). -/
def completeTest (l : LaneId) (s : State) : State :=
  let s1 := modLink l (fun k => trainLink true (endTest true k)) s
  offerLink l (resultWords (s1.lane l).link) s1

/-- The next sequence number (R115). -/
def nextSeq (n : Nat) : Nat := (n + 1) % 65536

/-- A test record sent and counted down (R123). -/
def sendTest (k : Link) : Link :=
  { k with
    forward := .test k.seq
    seq := nextSeq k.seq
    test := { k.test with left := k.test.left - 1, sent := k.test.sent ++ [(k.seq, false)] } }

/-- A frame boundary of a TESTING link: a test record while any is left, then the settle (R123,
R124). -/
def testBoundary (l : LaneId) (s : State) : State :=
  let t := (s.lane l).link.test
  if 0 < t.left then modLink l sendTest s
  else
    let s1 := modLink l
      (fun k => { idleLink k with test := { k.test with settle := k.test.settle - 1 } }) s
    if t.settle ≤ 1 then completeTest l s1 else s1

/-- Whether the next frame boundary is the eighth settle boundary of a test (R124). -/
def testDue (x : Lane) : Bool :=
  decide (x.link.state = .testing) && decide (x.link.test.left = 0) &&
    decide (x.link.test.settle ≤ 1)

/-! ## Frame records -/

/-- What a boundary gives for its frame record (R115). -/
structure Picture where
  kind : RecordKind
  units : List (List Byte)
  shutterOpen : Bool
deriving DecidableEq, Repr

/-- The BLACK record with the shutter closed (R115). -/
def blackClosed : Picture := ⟨.black, [], false⟩

/-- The list with room for one more: the oldest of a full list dropped as UNSEEN (R117). -/
def makeRoom (x : Lane) : Lane :=
  if Config.awaitingDepth ≤ x.link.awaiting.length then dropUnseen (x.link.awaiting.drop 1) 1 x else x

/-- The awaiting-confirmation entry of a record sent now (R97, R117). -/
def awaitingEntry (pic : Picture) (x : Lane) : Awaiting where
  seq := x.link.seq
  showFrame := x.p
  eligible := decide (pic.kind = .real) && frameEligible x x.p
  runMark := decide (x.tally.phase = .running)

/-- The frame record of a boundary (R115). -/
def frameRecord (pic : Picture) (tiles : List TileUpdate) (x : Lane) : FrameRecord where
  seq := x.link.seq
  kind := pic.kind
  units := pic.units
  shutterOpen := pic.shutterOpen
  palettes := carriedPalettes x.overlay
  tiles := tiles

/-- The lane after a frame record is sent: it joins the list, the counter rises, a REAL record is held
by the head, the palette flags are clear and the tile map is `map` (R115, R117, R138, R139). -/
def afterRecord (pic : Picture) (tiles : List TileUpdate) (map : List Nat) (x : Lane) : Lane :=
  { x with
    link :=
      { x.link with
        forward := .frame (frameRecord pic tiles x)
        seq := nextSeq x.link.seq
        frameHeld := x.link.frameHeld || decide (pic.kind = .real)
        awaiting := x.link.awaiting ++ [awaitingEntry pic x] }
    overlay := { clearPalettes x.overlay with tileMap := map } }

/-- A frame record sent on a LOCKED link (R115, R117). -/
def sendRecord (l : LaneId) (pic : Picture) (tiles : List TileUpdate) (map : List Nat) (s : State) :
    State :=
  (checkDrained l (s.modLane l makeRoom)).modLane l (afterRecord pic tiles map)

/-- What the link does at a frame boundary: a frame record when LOCKED, a test record when TESTING,
training patterns in TRAINING and nothing when DOWN (R109, R115, R116, R123). -/
def linkBoundary (l : LaneId) (pic : Picture) (tiles : List TileUpdate) (map : List Nat)
    (s : State) : State :=
  match (s.lane l).link.state with
  | .locked => sendRecord l pic tiles map s
  | .testing => testBoundary l s
  | .down => modLink l idleLink s
  | .training => modLink l idleLink s

/-- The record of a boundary outside PLAYING: BLACK, closed, with CLEAR for every lit tile (R115,
R140). -/
def idleRecord (l : LaneId) (s : State) : State :=
  linkBoundary l blackClosed (clearUpdates (s.lane l).overlay.tileMap) [] s

/-- The record of a boundary in PLAYING that takes a hold or faults: BLACK, closed, no tile updates
and the tile map unchanged (R115, R140). -/
def heldRecord (l : LaneId) (s : State) : State :=
  linkBoundary l blackClosed [] (s.lane l).overlay.tileMap s

/-! ## Line and lock (R108, R109) -/

/-- The link DOWN with a fault kind. -/
def downLink (kind : LineFault) (k : Link) : Link :=
  idleLink { k with state := .down, faultKind := some kind, lockFlag := false }

/-- A line fault recorded on the line itself (log entry 25). -/
def noteLine (c : Option LineFault) (k : Link) : Link := { k with line := c }

/-- A fault detected on the line (R108, R114, R124). The order of the entries is log entry 56, what TESTING to
DOWN carries log entry 57: DEDUCED. The entry of a changed kind while DOWN carries DOWN, DOWN and the kind:
DESIGN CHOICE, log entry 77. -/
def lineFault (l : LaneId) (kind : LineFault) (s0 : State) : State :=
  let s := modLink l (noteLine (some kind)) s0
  let k := (s.lane l).link
  let words := movedWords k.state .down ++ [lineFaultCode (some kind)]
  match k.state with
  | .down =>
    if k.faultKind = some kind then s
    else offerLink l words (modLink l (downLink kind) s)
  | .training => offerLink l words (modLink l (downLink kind) s)
  | .locked => offerLink l words (modLink l (downLink kind) (departLocked l s))
  | .testing =>
    let s1 := modLink l (fun k => downLink kind (endTest false k)) s
    offerLink l (words ++ resultWords (s1.lane l).link) s1

/-- The line good: a DOWN link enters TRAINING with its lock flag clear (R108). -/
def lineIsGood (l : LaneId) (s0 : State) : State :=
  let s := modLink l (noteLine none) s0
  if (s.lane l).link.state = .down then
    offerLink l (movedWords .down .training)
      (modLink l (fun k => trainLink false { k with faultKind := none }) s)
  else s

/-- The lock achieved in TRAINING (R109). -/
def lockGained (l : LaneId) (s : State) : State :=
  if (s.lane l).link.state = .training then modLink l (trainLink true) s else s

/-- The lock lost (R109, R114, R124); the order of the entries is DEDUCED, log entry 56. -/
def lockGone (l : LaneId) (s : State) : State :=
  match (s.lane l).link.state with
  | .down => s
  | .training => modLink l (trainLink false) s
  | .locked =>
    offerLink l (movedWords .locked .training)
      (modLink l (trainLink false) (departLocked l s))
  | .testing =>
    let s1 := modLink l (fun k => trainLink false (endTest false k)) s
    offerLink l (resultWords (s1.lane l).link) s1

/-! ## Back-channel reports (R110 to R112, R118, R119, R123) -/

/-- Whether reports are decoded (R110). -/
def decodesReports (k : Link) : Bool :=
  match k.state with
  | .down => false
  | .training => k.lockFlag
  | .locked => true
  | .testing => true

/-- A decoded report whose check fails (R110). -/
def badReportLane (x : Lane) : Lane :=
  setIndicator .linkError
    { x with
      link :=
        if x.link.state = .testing then
          addTestErrors 1 { x.link with errorCount := saturate8 (x.link.errorCount + 1) }
        else { x.link with errorCount := saturate8 (x.link.errorCount + 1) } }

/-- The words of the LINK_STATE entry of a link that enters LOCKED from TRAINING: the state left, LOCKED and
the head identity (R113). -/
def lockedWords (identity : Word64) : List Nat :=
  movedWords .training .locked ++ identityWords (some identity)

/-- The words of the one LINK_STATE entry of a new identity under a held lock: the identity and the reason
HEAD_IDENTITY (R111), and not the list of R113: DEDUCED, log entry 74. -/
def relockedWords (identity : Word64) : List Nat := identityWords (some identity) ++ [1]

/-- A Head Identity report (R111). -/
def takeIdentity (l : LaneId) (identity : Word64) (s : State) : State :=
  let k := (s.lane l).link
  match k.state with
  | .down => s
  | .testing => s
  | .training => if k.lockFlag then enterLocked l (lockedWords identity) identity s else s
  | .locked =>
    if k.headId = some identity then s
    else enterLocked l (relockedWords identity) identity (departLocked l s)

/-- A Head Status report (R112). -/
def takeStatus (ready : Bool) (k : Link) : Link :=
  { k with headStatus := if ready then .ready else .notReady }

/-- A late Shown report (R119). -/
def lateReport (x : Lane) : Lane :=
  setIndicator .lateTally { x with link := { x.link with late := saturate16 (x.link.late + 1) } }

/-- A list split at a sequence number: the older entries' number, the entry and the newer entries. -/
def splitAtSeq (seq : Nat) : List Awaiting → Option (Nat × Awaiting × List Awaiting)
  | [] => none
  | e :: es =>
    if e.seq = seq then some (0, e, es) else (splitAtSeq seq es).map fun r => (r.1 + 1, r.2.1, r.2.2)

/-- A Shown report (R118, R119). -/
def takeShown (l : LaneId) (seq : Nat) (s : State) : State :=
  let x := s.lane l
  if x.link.state = .locked then
    match splitAtSeq seq x.link.awaiting with
    | some (older, e, newer) =>
      checkDrained l (confirmFrame l e (s.modLane l (dropUnseen newer older)))
    | none => s.modLane l lateReport
  else s.modLane l lateReport

/-- A test record marked tallied. -/
def markTallied (seq : Nat) (k : Link) : Link :=
  { k with
    test :=
      { k.test with
        sent := k.test.sent.map fun r => if r.1 = seq then (r.1, true) else r } }

/-- A Test Tally report in TESTING (R123). -/
def takeTestTally (seq : Nat) (intact : Bool) (k : Link) : Link :=
  if k.test.sent.contains (seq, false) then
    if intact then markTallied seq k else addTestErrors 1 (markTallied seq k)
  else addTestErrors 1 k

/-- A link test accepted on a LOCKED link (R122); the counts held with the result go to 0 too: DEDUCED, log
entry 64. -/
def startTest (l : LaneId) (count : Nat) (s : State) : State :=
  offerLink l (movedWords .locked .testing)
    (modLink l
      (fun k => idleLink { k with state := .testing, test := ⟨count, 8, 0, []⟩, heldTest := noHeldTest })
      (departLocked l s))

/-- The link of a lane after Lane Reset, its tally closed (R107). The test error count goes to 0 without a
test in progress too: DESIGN CHOICE, log entry 65. -/
def resetLink (k : Link) : Link :=
  { k with
    errorCount := 0
    unseen := 0
    late := 0
    heldTest := noHeldTest
    test := { k.test with errors := 0 } }

/-- The link after power-on and Device Reset: as R107 gives, with the line judged at once (R107,
R108). -/
def bootLink (line : Option LineFault) : Link :=
  match line with
  | none => trainLink false { initialLink with line := none, faultKind := none }
  | some f => { initialLink with line := some f, faultKind := some f }

end Sys2Proof.Machine
end

