-- ==== Sys2Proof/Machine/UnpackerOps.lean ====
section
/-! DEFINITION. The Unpacker: grants (R53 to R57), lengths and structures (R60), completion (R61 to
R63), subtitle chunks (R70, R71), flushes (R64), and what a presenting boundary takes (R65 to R69). -/

namespace Sys2Proof.Machine

/-! ## Chunk map entries -/

/-- A chunk map entry (Record Layouts). -/
structure MapEntry where
  address : Nat
  length : Nat
  resident : Bool
deriving DecidableEq, Repr

/-- The entry that 16 bytes hold. -/
def mapEntryOf (bs : List Byte) : MapEntry :=
  ⟨field bs 0 8, field bs 8 4, (bs.getD 12 0).getLsbD 0⟩

/-- Entry `i` of a chunk map read; none when the read fails (R55, R61). -/
def readMapEntry (h : HostSide) (chunkMap i : Nat) : Option MapEntry :=
  (hostRead h (chunkMap + 16 * i) 16).map mapEntryOf

/-- Whether a chunk's length is what its essence track requires (R60). -/
def essenceLengthOk (e : Essence) (t : TrackPlan) (period n : Nat) : Bool :=
  match e with
  | .picture => decide (20 ≤ n) && decide (n ≤ Config.chunkMax)
  | .main => decide (n = soundChunkLength t.channels period)
  | .aux => decide (n = soundChunkLength t.channels period)

/-- Whether a subtitle chunk's length lies in its range (R60). -/
def subtitleLengthOk (n : Nat) : Bool := decide (17 ≤ n) && decide (n ≤ Config.chunkMax)

/-! ## Deciphered content -/

/-- A list of bytes fitted to a length. -/
def fitBytes (n : Nat) (bs : List Byte) : List Byte := bs.take n ++ zeros (n - bs.length)

/-- The content of a chunk without its 16-byte check value: what deciphering yields for a keyed track,
the bytes as read for a clear one (R62). -/
def chunkContent (keyed : Bool) (bs plain : List Byte) : List Byte :=
  if keyed then fitBytes (bs.length - 16) plain else bs.take (bs.length - 16)

/-- Bytes cut into units of the lengths given. -/
def cutUnits : List Nat → List Byte → List (List Byte)
  | [], _ => []
  | n :: ns, bs => bs.take n :: cutUnits ns (bs.drop n)

/-- The unit lengths in a picture header of `eyes` units. -/
def unitLengths (eyes : Nat) (bs : List Byte) : List Nat :=
  (List.range eyes).map fun i => field bs (4 + 4 * i) 4

/-- The units of a picture chunk; none when its structure is not what R60 requires. -/
def pictureUnits (eyes : Nat) (bs : List Byte) : Option (List (List Byte)) :=
  if field bs 0 1 = eyes ∧ (unitLengths eyes bs).all (fun n => decide (1 ≤ n)) = true ∧
      4 + 4 * eyes + (unitLengths eyes bs).sum = bs.length
  then some (cutUnits (unitLengths eyes bs) (bs.drop (4 + 4 * eyes)))
  else none

/-- The samples of a sound chunk: three bytes each, least significant first (R39). -/
def soundSamples (bs : List Byte) : List Int :=
  (List.range (bs.length / 3)).map fun i => fieldInt bs (3 * i) 3

/-- The content of an essence chunk once deciphered (R60, R62). -/
def essenceBody (e : Essence) (t : TrackPlan) (bs : List Byte) : EntryBody :=
  match e with
  | .picture =>
    match pictureUnits t.eyes bs with
    | some us => .ready (.picture us)
    | none => .poisoned .malformed
  | .main => .ready (.sound (soundSamples bs))
  | .aux => .ready (.sound (soundSamples bs))

/-! ## Wanted records and the residency wait (R56, R57, R71) -/

/-- Whether a wanted record names a reel and a frame or chunk. -/
def namesPosition (w : Option Wanted) (reel frame : Nat) : Bool :=
  w.any fun v => decide (v.reel = reel) && decide (v.frame = frame)

/-- A wanted record after a transaction for a position passes the residency stage (R57). -/
def clearIfNamed (w : Option Wanted) (reel frame : Nat) : Option Wanted :=
  if namesPosition w reel frame then none else w

/-- The FETCH_WANTED entry of a track (R56). -/
def wantedEntry (l : LaneId) (p : Nat) (kind : TrackKind) (reel frame : Nat) : JournalEntry :=
  ⟨.fetchWanted, some l, p, [kind.ctorIdx, reel, frame]⟩

/-- Whether a recheck finds its position already announced (R56). -/
def alreadyAnnounced (w : Option Wanted) (reel frame : Nat) : Bool :=
  namesPosition w reel frame && (w.map Wanted.announced).getD false

/-- A track found not resident: it waits, and its wanted record is set and announced (R56). -/
def essenceWait (l : LaneId) (e : Essence) (pos : Position) (s : State) : State :=
  let s1 := modTrack l e (fun t => { t with waiting := true }) s
  if alreadyAnnounced ((s.lane l).tracks.get e).wanted pos.reel pos.frame then s1
  else
    let r := offerNoted (wantedEntry l (s.lane l).p (essenceKind e) pos.reel pos.frame) s1
    modTrack l e (fun t => { t with wanted := some ⟨pos.reel, pos.frame, r.2⟩ }) r.1

/-- Whether the wanted record of a subtitle track names the other store of the track (R71). -/
def namesOther (w : Option Wanted) (reel : Nat) : Bool := w.any fun v => !decide (v.reel = reel)

/-- A store found not resident: it waits; the track's wanted record is set and announced unless it
names the other store (R71). -/
def subtitleWait (l : LaneId) (pl : Place) (s : State) : State :=
  let x := s.lane l
  let st := getStore x.overlay pl
  let t := placeTrack pl
  let s1 := s.modLane l (putStore pl { st with waiting := true })
  if namesOther (x.subWanted.get t) st.reel ||
      alreadyAnnounced (x.subWanted.get t) st.reel st.fetchChunk then s1
  else
    let r := offerNoted (wantedEntry l x.p (subtitleKind t) st.reel st.fetchChunk) s1
    r.1.modLane l fun y =>
      { y with subWanted := y.subWanted.set t (some ⟨st.reel, st.fetchChunk, r.2⟩) }

/-! ## Placing a result (R63) -/

/-- Whether an entry is poisoned. -/
def isPoisoned : EntryBody → Bool
  | .ready _ => false
  | .poisoned _ => true

/-- A result of the lane's present fetch generation offered to its queue: discarded when stale, else
placed at the tail, a POISONED one setting the indicator (R63). -/
def placeResult (e : Essence) (pos : Position) (body : EntryBody) (x : Lane) : Lane :=
  match x.loaded with
  | none => x
  | some sh =>
    if positionFrame sh pos < x.p then x
    else
      setIndicatorIf (isPoisoned body) .poisoned
        { x with
          tracks := x.tracks.set e
            { x.tracks.get e with
              queue := (x.tracks.get e).queue ++ [⟨pos, positionFrame sh pos, body⟩] } }

/-- The advance of a track's fetch position past a position, with the residency stage passed (R55,
R57). -/
def advanceFetch (sh : Show) (e : Essence) (pos : Position) (x : Lane) : Lane :=
  { x with
    tracks := x.tracks.set e
      { x.tracks.get e with
        fetch := successor sh e pos
        wanted := clearIfNamed (x.tracks.get e).wanted pos.reel pos.frame } }

/-! ## Grants (R53 to R55) -/

/-- The transaction in flight set. -/
def setFlight (f : Option Flight) (s : State) : State := { s with engine := { s.engine with flight := f } }

/-- An essence transaction from its grant through its length stage (R55, R61, log entry 13). -/
def grantEssence (l : LaneId) (e : Essence) (s : State) : State :=
  let x := s.lane l
  match x.loaded, (x.tracks.get e).fetch with
  | some sh, some pos =>
    match positionPlan sh e pos with
    | none => s
    | some t =>
      match readMapEntry s.host t.chunkMap pos.frame with
      | none =>
        s.modLane l fun y => placeResult e pos (.poisoned .readError) (advanceFetch sh e pos y)
      | some m =>
        if !m.resident then essenceWait l e pos s
        else if !essenceLengthOk e t (lanePeriod x) m.length then
          s.modLane l fun y => placeResult e pos (.poisoned .malformed) (advanceFetch sh e pos y)
        else
          setFlight (some ⟨l, x.generation, .essence e pos, m.address, m.length⟩)
            (s.modLane l (advanceFetch sh e pos))
  | _, _ => s

/-- A subtitle transaction from its grant through its length stage (R70, R71, log entry 13). -/
def grantSubtitle (l : LaneId) (pl : Place) (s : State) : State :=
  let x := s.lane l
  let st := getStore x.overlay pl
  let t := placeTrack pl
  match storePlan x pl with
  | none => s
  | some plan =>
    match readMapEntry s.host plan.chunkMap st.fetchChunk with
    | none => s.modLane l (loseStore pl .chunk)
    | some m =>
      if !m.resident then subtitleWait l pl s
      else
        let s1 := s.modLane l fun y =>
          { y with
            subWanted :=
              y.subWanted.set t (clearIfNamed (y.subWanted.get t) st.reel st.fetchChunk) }
        if !subtitleLengthOk m.length then s1.modLane l (loseStore pl .chunk)
        else
          setFlight
            (some ⟨l, x.generation, .subtitle t st.reel st.fetchChunk, m.address, m.length⟩) s1

/-- The lanes in the order of a search from a lane (R53). -/
def searchOrder (l : LaneId) : List LaneId :=
  [l, nextLane l, nextLane (nextLane l), nextLane (nextLane (nextLane l))]

/-- The lane that the next grant goes to (R53). -/
def grantLane (s : State) : Option LaneId :=
  (searchOrder s.engine.searchFrom).find? fun l => laneHasWork s l

/-- The grant to a lane: subtitle work when its essence is primed or no essence track can use it, else
essence (R54). -/
def grantWork (l : LaneId) (s : State) : State :=
  match subtitleWork s l, essenceWork s l with
  | some pl, some e => if essencePrimed (s.lane l) then grantSubtitle l pl s else grantEssence l e s
  | some pl, none => grantSubtitle l pl s
  | none, some e => grantEssence l e s
  | none, none => s

/-- A grant of the engine: made in RUNNING when nothing is in flight and some lane has work; the search
then begins at the lane after it (R53, R72). -/
def engineGrant (s : State) : State :=
  if s.device ≠ .running ∨ s.engine.flight.isSome = true then s
  else
    match grantLane s with
    | none => s
    | some l => grantWork l { s with engine := { s.engine with searchFrom := nextLane l } }

/-! ## Completions (R61 to R63, R70, R71) -/

/-- The result of an essence transaction at its completion: the chunk read, checked, deciphered and
judged (R60 to R62). -/
def essenceResult (h : HostSide) (e : Essence) (t : TrackPlan) (f : Flight) (agrees : Bool)
    (plain : List Byte) : EntryBody :=
  match hostRead h f.address f.length with
  | none => .poisoned .readError
  | some bs =>
    if !agrees then .poisoned .integrity else essenceBody e t (chunkContent t.key.isSome bs plain)

/-- The completion of the essence transaction in flight (R63). -/
def completeEssence (agrees : Bool) (plain : List Byte) (s : State) : State :=
  match s.engine.flight with
  | some f =>
    match f.work with
    | .subtitle _ _ _ => s
    | .essence e pos =>
      let s1 := setFlight none s
      if f.generation ≠ (s.lane f.lane).generation then s1
      else
        match (s.lane f.lane).loaded.bind fun sh => positionPlan sh e pos with
        | none => s1
        | some t => s1.modLane f.lane (placeResult e pos (essenceResult s.host e t f agrees plain))
  | none => s

/-- Whether the store in a place is the one that a subtitle transaction serves. -/
def servesStore (x : Lane) (t : Subtitle) (reel : Nat) (pl : Place) : Bool :=
  decide (placeTrack pl = t) && decide ((getStore x.overlay pl).reel = reel) &&
    decide ((getStore x.overlay pl).state = .fetching)

/-- The completion of the subtitle transaction in flight: the chunk is handed to its store, or the
store is reported failed; the result for an abandoned store is discarded (R70, R71, log entry 32). -/
def completeSubtitle (agrees : Bool) (plain : List Byte) (s : State) : State :=
  match s.engine.flight with
  | some f =>
    match f.work with
    | .essence _ _ => s
    | .subtitle t reel _ =>
      let s1 := setFlight none s
      let x := s.lane f.lane
      if f.generation ≠ x.generation ∨ hasFetchWork x.state = false then s1
      else
        match allPlaces.find? (servesStore x t reel) with
        | none => s1
        | some pl =>
          match storePlan x pl with
          | none => s1
          | some plan =>
            match hostRead s.host f.address f.length with
            | none => s1.modLane f.lane (loseStore pl .chunk)
            | some bs =>
              if !agrees then s1.modLane f.lane (loseStore pl .chunk)
              else
                s1.modLane f.lane
                  (receiveChunk plan.chunks (chunkContent plan.key.isSome bs plain) pl)
  | none => s

/-! ## Flushes (R64) -/

/-- A new fetch generation with the essence tracks at their first positions from a reel on, queues
and wanted records empty, and no last real frame (R57, R64, R66). -/
def flushTo (reel : Nat) (x : Lane) : Lane :=
  match x.loaded with
  | none => x
  | some sh =>
    { x with
      tracks :=
        ⟨⟨[], firstPosition sh .picture reel, false, none⟩,
          ⟨[], firstPosition sh .main reel, false, none⟩,
          ⟨[], firstPosition sh .aux reel, false, none⟩⟩
      subWanted := ⟨none, none⟩
      lastReal := none
      generation := x.generation + 1 }

/-! ## What a presenting boundary takes (R65 to R69) -/

/-- The head of a queue when it is the entry for show frame `p` (R65). -/
def headFor (x : Lane) (e : Essence) (p : Nat) : Option QueueEntry :=
  (x.tracks.get e).queue.head?.filter fun n => decide (n.showFrame = p)

/-- Whether the reel of show frame `p` has an essence track (R67). -/
def reelHasTrack (sh : Show) (e : Essence) (p : Nat) : Bool :=
  (reelOf sh p).any fun r => (r.2.essence.get e).isSome

/-- The poison kind and track frame of a head for `p` that is POISONED. -/
def poisonedHead (x : Lane) (e : Essence) (p : Nat) : Option (PoisonKind × Nat) :=
  match headFor x e p with
  | none => none
  | some n =>
    match n.body with
    | .ready _ => none
    | .poisoned k => some (k, n.pos.frame)

/-- The fault that a presenting boundary for P reports under STRICT: the first POISONED head in the
order PICTURE, SOUND_MAIN, SOUND_AUX (R65, R67, R68). -/
def presentFault (x : Lane) : Option (PoisonKind × TrackKind × Nat) :=
  if x.options.integrity = .tolerant then none
  else
    [Essence.picture, .main, .aux].findSome? fun e =>
      (poisonedHead x e x.p).map fun q => (q.1, essenceKind e, q.2)

/-- The units of a picture resolved REAL for `p`; none when it is concealed (R65). -/
def realUnits (x : Lane) (p : Nat) : Option (List (List Byte)) :=
  match headFor x .picture p with
  | none => none
  | some n =>
    match n.body with
    | .ready (.picture us) => some us
    | .ready (.sound _) => none
    | .poisoned _ => none

/-- The resolution of one sound track for `p` (R67). -/
def soundFor (sh : Show) (x : Lane) (e : Essence) (p : Nat) : SoundResult :=
  if !reelHasTrack sh e p then .absent
  else
    match headFor x e p with
    | none => .gap
    | some n =>
      match n.body with
      | .ready (.sound xs) =>
        .played (((positionPlan sh e n.pos).map TrackPlan.channels).getD 0) xs
      | .ready (.picture _) => .gap
      | .poisoned _ => .gap

/-- A wanted record that names a position at or below show frame `p` cleared (R57, R69). -/
def dropPassed (sh : Show) (p : Nat) (w : Option Wanted) : Option Wanted :=
  w.filter fun v => decide (p < positionFrame sh ⟨v.reel, v.frame⟩)

/-- One track after the boundary that presented `p`: the head for `p` removed, a fetch position at or
below `p` moved past it (R69). -/
def consumeTrack (sh : Show) (e : Essence) (p : Nat) (t : EssenceTrack) : EssenceTrack :=
  let queue := if t.queue.head?.any fun n => decide (n.showFrame = p) then t.queue.drop 1 else t.queue
  match t.fetch with
  | none => { t with queue := queue }
  | some pos =>
    if positionFrame sh pos ≤ p then
      { t with
        queue := queue
        fetch := positionFrom sh e (p + 1)
        wanted := dropPassed sh p t.wanted }
    else { t with queue := queue }

/-- The three tracks after the boundary that presented `p` (R69). -/
def consumeTracks (sh : Show) (p : Nat) (x : Lane) : Lane :=
  { x with
    tracks :=
      ⟨consumeTrack sh .picture p x.tracks.picture, consumeTrack sh .main p x.tracks.main,
        consumeTrack sh .aux p x.tracks.aux⟩ }

/-- The residency waits of a lane lifted, at a frame boundary in a state with fetchable work (R56,
R71). -/
def liftWaits (x : Lane) : Lane :=
  if hasFetchWork x.state then
    { x with
      tracks :=
        ⟨{ x.tracks.picture with waiting := false }, { x.tracks.main with waiting := false },
          { x.tracks.aux with waiting := false }⟩
      overlay :=
        { x.overlay with
          current1 := { x.overlay.current1 with waiting := false }
          current2 := { x.overlay.current2 with waiting := false }
          next1 := { x.overlay.next1 with waiting := false }
          next2 := { x.overlay.next2 with waiting := false } } }
  else x

end Sys2Proof.Machine
end

