-- ==== Sys2Proof/Machine/ShowRequests.lean ====
section
/-! DEFINITION. The lane requests that load, unload, rewind and reset a lane (R4 to R9), with the track
plan (R48) and the tally (R95) that a load builds. Each takes the request and the lane's state and
answers the state after it with the owner's answer. -/

namespace Sys2Proof.Machine

/-- An answer OK with result words. -/
def okWords (ws : List Nat) : Answer := ⟨.ok, .none, 0, ws⟩

/-- An answer OK without result words. -/
def okAnswer : Answer := okWords []

/-- A refusal with STATE. -/
def stateAnswer : Answer := ⟨.state, .none, 0, []⟩

/-- A refusal with PARAM and a reason. -/
def paramAnswer (r : Reason) : Answer := ⟨.param, r, 0, []⟩

/-- A refusal with PARAM, a reason and an index. -/
def paramAt (r : Reason) (i : Nat) : Answer := ⟨.param, r, i, []⟩

/-! ## The show list as read (Record Layouts, Show material) -/

/-- A track descriptor as read. -/
structure Descriptor where
  kind : Nat
  eyes : Nat
  channels : Nat
  rate : Nat
  keyId : Nat
  chunkMap : Nat
  frames : Nat
  chunks : Nat
  sampleRate : Nat
deriving DecidableEq, Repr

/-- The descriptor that 32 bytes hold. -/
def descriptorOf (bs : List Byte) : Descriptor where
  kind := field bs 0x00 1
  eyes := field bs 0x01 1
  channels := field bs 0x02 1
  rate := field bs 0x03 1
  keyId := field bs 0x04 4
  chunkMap := field bs 0x08 8
  frames := field bs 0x10 4
  chunks := field bs 0x14 4
  sampleRate := field bs 0x18 4

/-- A reel entry with the descriptors that it names, in the order of its five address fields. -/
structure RawReel where
  duration : Nat
  entry : Nat
  offset1 : Int
  offset2 : Int
  tracks : List (Option Descriptor)
deriving DecidableEq, Repr

/-- A show list as read. -/
structure RawShow where
  rate : Nat
  title : Nat
  cueTable : Nat
  reels : List RawReel
deriving DecidableEq, Repr

/-- Descriptors read from their addresses, 0 standing for absent; none when a read fails. -/
def readDescriptors (h : HostSide) : List Nat → Option (List (Option Descriptor))
  | [] => some []
  | a :: as =>
    if a = 0 then (readDescriptors h as).map fun ds => none :: ds
    else
      match hostRead h a 32 with
      | none => none
      | some bs => (readDescriptors h as).map fun ds => some (descriptorOf bs) :: ds

/-- The five descriptor addresses of a reel entry. -/
def descriptorAddrs (bs : List Byte) : List Nat := (List.range 5).map fun k => field bs (8 + 8 * k) 8

/-- `n` reel entries read from the show list at `a`, from reel `i` on, with their descriptors; the
index of the reel concerned, 0 for the show list itself, when a read fails (R4, log entry 14). -/
def readReels (h : HostSide) (a : Nat) : Nat → Nat → Except Nat (List RawReel)
  | 0, _ => .ok []
  | n + 1, i =>
    match hostRead h (a + 32 + 64 * (i - 1)) 64 with
    | none => .error 0
    | some bs =>
      match readDescriptors h (descriptorAddrs bs) with
      | none => .error i
      | some ds =>
        match readReels h a n (i + 1) with
        | .error e => .error e
        | .ok rs =>
          .ok (⟨field bs 0 4, field bs 4 4, fieldInt bs 0x30 2, fieldInt bs 0x32 2, ds⟩ :: rs)

/-- The show list at `a` read, or the refusal: READ_ERROR, or REEL_COUNT, which is judged before the
reels are read (R4, log entry 14). -/
def readShow (h : HostSide) (a : Nat) : Except Answer RawShow :=
  match hostRead h a 32 with
  | none => .error (paramAt .readError 0)
  | some bs =>
    if field bs 1 1 = 0 ∨ 64 < field bs 1 1 then .error (paramAnswer .reelCount)
    else
      match readReels h a (field bs 1 1) 1 with
      | .error i => .error (paramAt .readError i)
      | .ok rs => .ok ⟨field bs 0 1, field bs 4 4, field bs 8 8, rs⟩

/-! ## The load checks (R4) -/

/-- The index, from `i`, of the first reel that fails a test: that a refusal names the lowest such reel is a
DESIGN CHOICE, log entry 78. -/
def firstFailing (ok : RawReel → Bool) : Nat → List RawReel → Option Nat
  | _, [] => none
  | i, r :: rs => if ok r then firstFailing ok (i + 1) rs else some i

/-- The present descriptors of a reel. -/
def presentTracks (r : RawReel) : List Descriptor := r.tracks.filterMap id

/-- The descriptor of a reel's address field `k`. -/
def rawTrack (r : RawReel) (k : Nat) : Option Descriptor := (r.tracks[k]?).join

/-- The present sound descriptors of a reel. -/
def soundTracks (r : RawReel) : List Descriptor := [rawTrack r 1, rawTrack r 2].filterMap id

/-- Whether every present descriptor's kind is that of the field that names it. -/
def kindsAgree (r : RawReel) : Bool :=
  (List.range 5).all fun k => (rawTrack r k).all fun d => decide (d.kind = k)

/-- Whether D ≥ 1 and E + D ≤ frame count for every present track. -/
def rangeOk (r : RawReel) : Bool :=
  decide (1 ≤ r.duration) && (presentTracks r).all fun d => decide (r.entry + r.duration ≤ d.frames)

/-- The sample rate of a show: that of its first sound track, 48,000 without one (R35). -/
def rawSampleRate (rs : List RawReel) : Nat := ((rs.flatMap soundTracks).head?.map Descriptor.sampleRate).getD 48000

/-- Whether a reel's sound tracks have the show's sample rate, and it is one that the part accepts. The
show's rate is that of its first sound track, so the first reel that differs from it is named: DESIGN
CHOICE, log entry 59. -/
def sampleRateOk (rate : Nat) (r : RawReel) : Bool :=
  (soundTracks r).all fun d => decide (d.sampleRate = rate) && sampleRates.contains d.sampleRate

/-- Whether a reel's channel counts are in range: main 1 to 24, auxiliary 1 to 8. -/
def channelsOk (r : RawReel) : Bool :=
  ((rawTrack r 1).all fun d => decide (1 ≤ d.channels) && decide (d.channels ≤ 24)) &&
    ((rawTrack r 2).all fun d => decide (1 ≤ d.channels) && decide (d.channels ≤ 8))

/-- Whether a reel's picture descriptor gives eyes 1 or 2. -/
def eyesOk (r : RawReel) : Bool :=
  (rawTrack r 0).all fun d => decide (d.eyes = 1) || decide (d.eyes = 2)

/-- Whether every key id that a reel's descriptors name is installed (R84). -/
def keysKnown (keys : List (Option KeySlot)) (r : RawReel) : Bool :=
  (presentTracks r).all fun d => decide (d.keyId = 0) || (findKey 0 keys d.keyId).isSome

/-- The first failing check of R4 on the show's form, in order. -/
def formRefusal (sh : RawShow) : Option Answer :=
  if !editRates.contains sh.rate then some (paramAnswer .editRate)
  else
    let at1 := fun (ok : RawReel → Bool) (why : Reason) =>
      (firstFailing ok 1 sh.reels).map fun i => paramAt why i
    [at1 (fun r => (rawTrack r 0).isSome) .noPicture,
      at1 kindsAgree .trackKind,
      at1 (fun r => (presentTracks r).all fun d => decide (d.rate = sh.rate)) .editRate,
      at1 rangeOk .range,
      at1 (sampleRateOk (rawSampleRate sh.reels)) .sampleRate,
      at1 channelsOk .channels,
      at1 eyesOk .eyes,
      if Config.showMax < (sh.reels.map RawReel.duration).sum then some (paramAnswer .length)
      else none].findSome? id

/-! ## The show copy and the track plan (R36, R48) -/

/-- The key use of a descriptor; none for a clear track (R48, R84). -/
def keyUse (keys : List (Option KeySlot)) (d : Descriptor) : Option KeyUse :=
  if d.keyId = 0 then none
  else (findKey 0 keys d.keyId).map fun r => ⟨d.keyId, r.1, r.2.licence⟩

/-- The track plan of a descriptor (R48). -/
def planOf (keys : List (Option KeySlot)) (d : Descriptor) : TrackPlan where
  chunkMap := d.chunkMap
  frames := d.frames
  chunks := d.chunks
  key := keyUse keys d
  channels := d.channels
  eyes := d.eyes

/-- A reel of the show copy, its start not yet found; the placement offsets are clamped (R135). -/
def reelOfRaw (keys : List (Option KeySlot)) (r : RawReel) : Reel where
  duration := r.duration
  entry := r.entry
  start := 0
  offsets := ⟨clampInt (-540) 540 r.offset1, clampInt (-540) 540 r.offset2⟩
  essence :=
    ⟨(rawTrack r 0).map (planOf keys), (rawTrack r 1).map (planOf keys),
      (rawTrack r 2).map (planOf keys)⟩
  subtitles := ⟨(rawTrack r 3).map (planOf keys), (rawTrack r 4).map (planOf keys)⟩

/-- The show copy of a show list (R4, R36, R48). -/
def showOfRaw (keys : List (Option KeySlot)) (raw : RawShow) : Show where
  editRate := raw.rate
  sampleRate := rawSampleRate raw.reels
  titleCode := raw.title
  cueTable := raw.cueTable
  total := (raw.reels.map RawReel.duration).sum
  reels := placeReels 0 (raw.reels.map (reelOfRaw keys))

/-- The first failing licence check of R4: KEY_UNKNOWN, LICENCE_COUNT, LANE. LANE names the first licence of
the show that fails: DESIGN CHOICE, log entry 78. -/
def licenceRefusal (t : LicenceTable) (l : LaneId) (raw : RawShow) (sh : Show) : Option Answer :=
  match firstFailing (keysKnown t.keys) 1 raw.reels with
  | some i => some ⟨.licence, .keyUnknown, i, []⟩
  | none =>
    if 8 < (showLicences sh.reels).length then some (paramAnswer .licenceCount)
    else
      ((showLicences sh.reels).find? fun id =>
          !((findLicence t.records id).map fun x => admitsLane x l).getD false).map fun id =>
        ⟨.licence, .lane, 0, [id]⟩

/-- The show that a Load Show of a lane would copy, or the refusal (R4). -/
def loadableShow (s : State) (l : LaneId) (addr : Nat) : Except Answer Show :=
  match readShow s.host addr with
  | .error a => .error a
  | .ok raw =>
    match formRefusal raw with
    | some a => .error a
    | none =>
      let sh := showOfRaw s.licences.keys raw
      match licenceRefusal s.licences l raw sh with
      | some a => .error a
      | none => .ok sh

/-! ## The tally of a loaded show (R46, R95) -/

/-- F of a licence: the frames of the reels keyed to it (R46). -/
def licenceFrames (reels : List Reel) (id : Nat) : Nat := totalFrames (reels.filter (reelUses id))

/-- The tally entry of a licence of a show (R46, R95). -/
def tallyEntryOf (records : List (Option Licence)) (reels : List Reel) (id : Nat) : TallyEntry where
  licence := id
  total := licenceFrames reels id
  threshold :=
    countThreshold (licenceFrames reels id) (((findLicence records id).map Licence.percent).getD 100)
  confirmed := 0
  status := .pending

/-- The credit set of a reel: the indexes of the entries whose licences key one of its tracks
(R95). -/
def creditSetOf (ids : List Nat) (r : Reel) : List Nat :=
  (List.range ids.length).filter fun i => reelUses (ids.getD i 0) r

/-- The tally that Load Show builds (R95), its run-end cause NONE and its window count 0: DESIGN CHOICE,
log entry 53. -/
def builtTally (records : List (Option Licence)) (sh : Show) : Tally where
  phase := .built
  entries := (showLicences sh.reels).map (tallyEntryOf records sh.reels)
  credit := sh.reels.map (creditSetOf (showLicences sh.reels))
  window := 0
  endCause := .none

/-! ## Load Show, Unload, Rewind, Lane Reset -/

/-- What an accepted Load Show sets in the lane beside its state (R5, R48, R95, R127, R157). -/
def loadLane (records : List (Option Licence)) (sh : Show) (x : Lane) : Lane :=
  let y :=
    { x with
      loaded := some sh
      p := 0
      tally := builtTally records sh
      tracks :=
        ⟨⟨[], firstPosition sh .picture 1, false, none⟩,
          ⟨[], firstPosition sh .main 1, false, none⟩,
          ⟨[], firstPosition sh .aux 1, false, none⟩⟩
      subWanted := ⟨none, none⟩
      lastReal := none
      scanner := clearScanner }
  askReel 1 y

/-- Load Show (R4, R5). -/
def doLoadShow (l : LaneId) (rq : Req) (s : State) : State × Answer :=
  if (s.lane l).state ≠ .empty ∨ (s.lane l).link.state = .testing then (s, stateAnswer)
  else
    match loadableShow s l (wide rq.w0 rq.w1) with
    | .error a => (s, a)
    | .ok sh =>
      (changeState l .loading .request (loadLane s.licences.records sh) s,
        okWords [sh.total, sh.reels.length, (showLicences sh.reels).length])

/-- What every entry to EMPTY drops (R7, R9, R48, R64, R103, R126, R157). -/
def emptyLane (x : Lane) : Lane :=
  { freeStores x with
    loaded := none
    p := 0
    tally := absentTally
    tracks := emptyTracks
    subWanted := ⟨none, none⟩
    lastReal := none
    generation := x.generation + 1
    scanner := clearScanner
    overlay :=
      { (freeStores x).overlay with palettePending := ⟨false, false⟩, active := ⟨0, 0⟩ } }

/-- The lane after Unload (R7). -/
def unloadLane (x : Lane) : Lane :=
  { emptyLane x with lastCause := .unload, sound := unloadSound x.sound }

/-- Unload (R7): the tally is told before the state changes (DEDUCED, log entry 12). -/
def doUnload (l : LaneId) (s : State) : State × Answer :=
  if (s.lane l).state = .empty then (s, stateAnswer)
  else (changeState l .empty .unload unloadLane (closeAtOnce l .unload s), okAnswer)

/-- The lane after Rewind, its tally closed (R8, R64, R104, R127, R157). -/
def rewindLane (x : Lane) : Lane :=
  askReel 1 (freeStores { flushTo 1 x with
    p := 0
    tally := rebuiltTally x.tally
    scanner := clearScanner })

/-- Rewind (R8): the tally is told before the state changes (DEDUCED, log entry 12). -/
def doRewind (l : LaneId) (s : State) : State × Answer :=
  if (s.lane l).state ≠ .ended ∨ (s.lane l).link.state = .testing then (s, stateAnswer)
  else (changeState l .loading .request rewindLane (closeAtOnce l .rewind s), okAnswer)

/-- The lane after Lane Reset, its tally closed (R9, R107, R142). -/
def resetLane (x : Lane) : Lane :=
  { emptyLane x with
    lastCause := .none
    options := defaultOptions
    level := defaultLevel
    indicators := noIndicators
    faultRecord := none
    contacts := 0
    link := resetLink x.link
    sound := resetSound x.sound }

/-- Lane Reset (R9): the tally is told before the state changes (DEDUCED, log entry 12). -/
def doLaneReset (l : LaneId) (s : State) : State × Answer :=
  (changeState l .empty .laneReset resetLane (closeAtOnce l .laneReset s), okAnswer)

end Sys2Proof.Machine
end

