-- ==== Sys2Proof/Machine/RunRequests.lean ====
section
/-! DEFINITION. The other lane requests: options (R3), the sound map (R143 to R145), starting (R10 to
R14), holding (R18, R19, R21), seeking and stopping (R22, R23), level and indicators (R32, R33), and the
link test (R122). -/

namespace Sys2Proof.Machine

/-! ## Set Lane Options (R3) -/

/-- The numeric options of a request, clamped into their ranges (R3). -/
def optionsOf (rq : Req) (mode : IntegrityMode) (live : Bool) : LaneOptions where
  primeDepth := clampNat 8 48 rq.w0.toNat
  integrity := mode
  starveLimit := clampNat 1 600 rq.w2.toNat
  linkGrace := clampNat 1 600 rq.w3.toNat
  holdLimit := clampNat 1 240 rq.w4.toNat
  fadeRate := clampNat 1 50 rq.w5.toNat
  liveUpdate := live
  emergencyMask := rq.w7.setWidth 8
  emergencyValue := (rq.w7 >>> 8).setWidth 8

/-- The packed answer of Set Lane Options (R179, packed answers). -/
def optionWords (o : LaneOptions) : List Nat :=
  [o.primeDepth + 2 ^ 8 * o.integrity.ctorIdx + 2 ^ 16 * o.holdLimit + 2 ^ 24 * o.fadeRate,
    o.starveLimit + 2 ^ 16 * o.linkGrace, flag o.liveUpdate,
    o.emergencyMask.toNat + 2 ^ 8 * o.emergencyValue.toNat]

/-- The live update option of a code (R3, R179). -/
def liveOf : Nat → Option Bool
  | 0 => some false
  | 1 => some true
  | _ => none

/-- Whether Set Lane Options is accepted in a state (R3). -/
def acceptsOptions : LaneState → Bool
  | .empty => true
  | .ready => true
  | .ended => true
  | _ => false

/-- Set Lane Options (R3). -/
def doSetOptions (l : LaneId) (rq : Req) (s : State) : State × Answer :=
  if !acceptsOptions (s.lane l).state then (s, stateAnswer)
  else
    match integrityOf rq.w1.toNat, liveOf rq.w6.toNat with
    | some m, some v =>
      (s.modLane l fun x => { x with options := optionsOf rq m v }, okWords (optionWords (optionsOf rq m v)))
    | _, _ => (s, paramAnswer .mode)

/-! ## Write Sound Map (R143 to R145) -/

/-- The 24 sources of a ROUTING block; the lowest output at fault when a code names none. -/
def routingOf (bs : List Byte) : Except Nat (List Source) :=
  match (List.range 24).find? fun i => (sourceOf (field bs i 1)).isNone with
  | some i => .error (i + 1)
  | none => .ok ((List.range 24).map fun i => (sourceOf (field bs i 1)).getD .none)

/-- The 24 trims of a TRIMS block as written, before clamping. -/
def rawTrims (bs : List Byte) : List Trim :=
  (List.range 24).map fun i => ⟨fieldInt bs (4 * i) 2, (bs.getD (4 * i + 2) 0).getLsbD 0⟩

/-- A trim clamped into −200 to +60 (R143). -/
def clampTrim (t : Trim) : Trim := { t with trim := clampInt (-200) 60 t.trim }

/-- The number of trims that clamping changes (R143). -/
def trimsClamped (ts : List Trim) : Nat := (ts.filter fun t => decide (clampTrim t ≠ t)).length

/-- Whether Write Sound Map is accepted in a lane's state (R143). -/
def acceptsSoundMap (x : Lane) : Bool :=
  decide (x.state ≠ .fault) && (!inRunStates x.state || x.options.liveUpdate)

/-- The result words of Write Sound Map (R143, R179). -/
def soundMapWords (x : Lane) (staged : Bool) (clamped : Nat) : List Nat :=
  [mapStateCode x.sound.stage + 2 ^ 8 * flag (routingWritten x.sound.stage), flag staged, clamped]

/-- A section accepted by a lane: staged in the run states, else taking effect at once (R144, R145). -/
def acceptSection (l : LaneId) (now staged : Sound → Sound) (clamped : Nat) (s : State) :
    State × Answer :=
  let run := inRunStates (s.lane l).state
  let s1 := s.modLane l fun x =>
    reformTargets { x with sound := if run then staged x.sound else now x.sound }
  (s1, okWords (soundMapWords (s1.lane l) run clamped))

/-- Write Sound Map (R143). -/
def doWriteSoundMap (l : LaneId) (rq : Req) (block : List Byte) (s : State) : State × Answer :=
  if !acceptsSoundMap (s.lane l) then (s, stateAnswer)
  else if rq.w0 = 0 ∧ block.length = 24 then
    match routingOf block with
    | .error i => (s, paramAt .source i)
    | .ok r => acceptSection l (applyRouting r) (fun x => { x with stagedRouting := some r }) 0 s
  else if rq.w0 = 1 ∧ block.length = 96 then
    if !routingWritten (s.lane l).sound.stage then (s, ⟨.sequence, .none, 0, []⟩)
    else
      let t := (rawTrims block).map clampTrim
      acceptSection l (applyTrims t) (fun x => { x with stagedTrims := some t })
        (trimsClamped (rawTrims block)) s
  else (s, paramAnswer .section_)

/-! ## Starting (R10 to R14) -/

/-- A start attempted from READY, with cause REQUEST (R10, R11). -/
def attemptStart (l : LaneId) (s : State) : State × Answer :=
  match startRefusal l s with
  | some a => (s, a)
  | none => (startRun l .request s, okAnswer)

/-- Start (R10, R11). -/
def doStart (l : LaneId) (s : State) : State × Answer :=
  if (s.lane l).state ≠ .ready then (s, stateAnswer) else attemptStart l s

/-- Start At (R12). -/
def doStartAt (l : LaneId) (rq : Req) (s : State) : State × Answer :=
  if Config.clockMax < wide rq.w0 rq.w1 then (s, paramAnswer .none)
  else if (s.lane l).state ≠ .ready then (s, stateAnswer)
  else if !s.licences.clockValid then (s, ⟨.clock, .none, 0, []⟩)
  else if wide rq.w0 rq.w1 ≤ s.licences.clock then attemptStart l s
  else
    (changeState l .armed .request (fun x => { x with startSecond := some (wide rq.w0 rq.w1) }) s,
      okAnswer)

/-- Cancel Start (R14). -/
def doCancelStart (l : LaneId) (s : State) : State × Answer :=
  if (s.lane l).state ≠ .armed then (s, stateAnswer) else (enterState l .ready .request s, okAnswer)

/-! ## Holding (R18, R19, R21) -/

/-- The pending hold record as an answer returns it (R18, log entry 18). -/
def holdWords (h : Option HoldRecord) : List Nat :=
  match h with
  | none => []
  | some r => [r.cause.ctorIdx, holdWhenCode r.when_, holdReel r.when_, r.merged]

/-- A hold merged into a lane's record, with the answer (R18). -/
def answerHold (l : LaneId) (cause : Cause) (w : HoldWhen) (s : State) : State × Answer :=
  let s1 := s.modLane l (mergeHold cause w)
  (s1, okWords (holdWords (s1.lane l).hold))

/-- Hold (R18). -/
def doHold (l : LaneId) (rq : Req) (s : State) : State × Answer :=
  let x := s.lane l
  if x.state ≠ .playing then (s, stateAnswer)
  else if rq.w0 = 0 then answerHold l .operatorNow .now s
  else if rq.w0 = 1 then
    answerHold l .operatorReelEnd (.reelEnd ((x.loaded.map fun sh => currentReel sh x.p).getD 0)) s
  else (s, paramAnswer .mode)

/-- Cancel Hold (R19). -/
def doCancelHold (l : LaneId) (s : State) : State × Answer :=
  if (s.lane l).state = .playing ∧ (s.lane l).hold.isSome = true then
    (s.modLane l fun x => { x with hold := none }, okAnswer)
  else (s, stateAnswer)

/-- What Resume sets in the lane beside its state (R21, R66, R150). -/
def resumeLane (x : Lane) : Lane :=
  muteAtOnce { x with hold := none, starveRun := 0, linkGrace := 0, lastReal := none }

/-- Resume (R21). -/
def doResume (l : LaneId) (s : State) : State × Answer :=
  if (s.lane l).state ≠ .held then (s, stateAnswer)
  else if emergencyBlocks s l then (s, ⟨.inputActive, .none, 0, []⟩)
  else (changeState l .playing .request resumeLane s, okAnswer)

/-! ## Seeking and stopping (R22, R23) -/

/-- What Seek sets in the lane beside its state (R22, R64, R66, R127). -/
def seekLane (reel start : Nat) (x : Lane) : Lane :=
  askReel reel (freeStores { flushTo reel x with p := start })

/-- Seek (R22). -/
def doSeek (l : LaneId) (rq : Req) (s : State) : State × Answer :=
  if (s.lane l).state ≠ .held then (s, stateAnswer)
  else
    match (s.lane l).loaded.bind fun sh => nthReel sh rq.w0.toNat with
    | none => (s, paramAnswer .reelIndex)
    | some r =>
      (changeState l .seeking .request (seekLane rq.w0.toNat r.start) (clearMarksFrom l r.start s),
        okAnswer)

/-- Stop (R14, R23). -/
def doStop (l : LaneId) (s : State) : State × Answer :=
  match (s.lane l).state with
  | .playing => (stopLane l .operator s, okAnswer)
  | .held => (stopLane l .operator s, okAnswer)
  | .seeking => (stopLane l .operator s, okAnswer)
  | .armed => (enterState l .ready .request s, okAnswer)
  | .empty => (s, stateAnswer)
  | .loading => (s, stateAnswer)
  | .ready => (s, stateAnswer)
  | .stopping => (s, stateAnswer)
  | .ended => (s, stateAnswer)
  | .fault => (s, stateAnswer)

/-! ## Level, indicators, link test (R32, R33, R122) -/

/-- Set Level (R33). -/
def doSetLevel (l : LaneId) (rq : Req) (s : State) : State × Answer :=
  if (s.lane l).state = .empty then (s, stateAnswer)
  else
    (s.modLane l fun x => reformTargets { x with level := min 100 rq.w0.toNat },
      okWords [min 100 rq.w0.toNat])

/-- Test Indicators (R32): the hold values as one mask (log entry 18). -/
def doTestIndicators (l : LaneId) (s : State) : State × Answer :=
  (s.modLane l clearHeld, okWords [(s.lane l).indicators.held.toNat])

/-- Link Test (R122). -/
def doLinkTest (l : LaneId) (rq : Req) (s : State) : State × Answer :=
  let x := s.lane l
  if x.state ≠ .empty ∧ x.state ≠ .ended then (s, stateAnswer)
  else if x.link.state = .testing then (s, stateAnswer)
  else if rq.w0.toNat = 0 ∨ 65535 < rq.w0.toNat then (s, paramAnswer .none)
  else if x.link.state ≠ .locked then (s, ⟨.link, .none, 0, []⟩)
  else (startTest l rq.w0.toNat s, okAnswer)

end Sys2Proof.Machine
end

