-- ==== Sys2Proof/Machine/LicenceRequests.lean ====
section
/-! DEFINITION. The device requests: Install, Remove, Read and List Licences (R78 to R83), Set Clock and
Adjust Clock (R89 to R91), Read Identity (R92), Factory Clear (R93) and Set Inputs (R168). -/

namespace Sys2Proof.Machine

/-- A refusal with a result code alone. -/
def codeAnswer (c : ResultCode) : Answer := ⟨c, .none, 0, []⟩

/-- A signed value in a 32-bit word (R179). -/
def signedWord (v : Int) : Nat := (v % (2 ^ 32 : Int)).toNat

/-- The two words of a 64-bit value (R179). -/
def wideWords (v : Nat) : List Nat := [v % 2 ^ 32, v / 2 ^ 32 % 2 ^ 32]

/-! ## Install Licence (R78 to R80) -/

/-- A licence package as read (Record Layouts, Licence package). -/
structure Package where
  target : Nat
  id : Nat
  issue : Nat
  percent : Nat
  laneMask : Nat
  title : Nat
  allowance : Nat
  headCount : Nat
  keyCount : Nat
  notBefore : Nat
  notAfter : Nat
  heads : List Word64
  keys : List (Nat × BitVec 128)
deriving DecidableEq, Repr

/-- The package that a block holds, its window in booth clock values (R74, R179). -/
def packageOf (bs : List Byte) : Package :=
  let h := field bs 0x16 1
  let k := field bs 0x17 1
  { target := field bs 0x00 8
    id := field bs 0x08 4
    issue := field bs 0x0C 2
    percent := field bs 0x0E 1
    laneMask := field bs 0x0F 1
    title := field bs 0x10 4
    allowance := field bs 0x14 2
    headCount := h
    keyCount := k
    notBefore := clockField bs 0x18
    notAfter := clockField bs 0x20
    heads := (List.range h).map fun i => BitVec.ofNat 64 (field bs (0x28 + 8 * i) 8)
    keys := (List.range k).map fun i =>
      (field bs (0x28 + 8 * h + 24 * i) 4,
        BitVec.ofNat 128 (field bs (0x28 + 8 * h + 24 * i + 8) 16)) }

/-- The length of a package with `h` heads and `k` keys (Record Layouts). -/
def packageLength (h k : Nat) : Nat := 40 + 8 * h + 24 * k + 16

/-- Whether a list repeats no number. -/
def noRepeats : List Nat → Bool
  | [] => true
  | x :: xs => !xs.contains x && noRepeats xs

/-- Check 2 of R78: the terms. No check of the licence id is listed, so an id of 0 passes: DESIGN CHOICE,
log entry 49. -/
def termsOk (k : Package) : Bool :=
  decide (1 ≤ k.issue) && decide (1 ≤ k.percent) && decide (k.percent ≤ 100) &&
    decide (1 ≤ k.laneMask) && decide (k.laneMask ≤ 15) && decide (k.headCount ≤ 4) &&
    decide (1 ≤ k.keyCount) && decide (k.keyCount ≤ 16) && decide (k.notBefore < k.notAfter) &&
    (k.keys.all fun e => decide (e.1 ≠ 0)) && noRepeats (k.keys.map Prod.fst)

/-- The key slots that would be free for a package: its own old slots count as free (R78). -/
def keysFor (t : LicenceTable) (k : Package) : List (Option KeySlot) := freeSlots k.id t.keys

/-- The first key id of a package, in its order, that a slot of another licence holds (R78, check 6):
DESIGN CHOICE, log entry 50. -/
def duplicateKey (t : LicenceTable) (k : Package) : Option Nat :=
  (k.keys.map Prod.fst).find? fun i => (findKey 0 (keysFor t k) i).isSome

/-- The checks of R78 on an installed record of the same id: ISSUE, IN_USE,
ALLOWANCE_BELOW_COUNT. -/
def replaceRefusal (s : State) (k : Package) : Option Answer :=
  match findLicence s.licences.records k.id with
  | none => none
  | some x =>
    if k.issue ≤ x.issue then some (paramAnswer .issue)
    else if (referencedBy s k.id).isSome then some (codeAnswer .inUse)
    else if k.allowance ≠ 0 ∧ k.allowance < x.counted then some (paramAnswer .allowanceBelowCount)
    else none

/-- Whether a record and the key slots that a package needs are free (R78, check 7). -/
def roomFor (t : LicenceTable) (k : Package) : Bool :=
  ((findLicence t.records k.id).isSome || (freeIndex 0 t.records).isSome) &&
    decide (k.keys.length ≤ ((keysFor t k).filter fun x => x.isNone).length)

/-- The first failing check of an Install Licence (R78). -/
def installRefusal (s : State) (block : List Byte) (agrees : Bool) : Option Answer :=
  let k := packageOf block
  if block.length ≠ packageLength k.headCount k.keyCount ∨ k.target ≠ s.licences.deviceKeyId.toNat ∨
      agrees = false then some (codeAnswer .badPackage)
  else if !termsOk k then some (paramAnswer .terms)
  else
    match replaceRefusal s k with
    | some a => some a
    | none =>
      match duplicateKey s.licences k with
      | some i => some ⟨.param, .duplicateKey, 0, [i]⟩
      | none => if roomFor s.licences k then none else some (codeAnswer .noRoom)

/-- The record that a package fills, with a counted value and a derived state (R79, R80). -/
def recordOf (k : Package) (counted : Nat) (slots : List (Nat × Nat)) (st : LicenceState) : Licence where
  id := k.id
  issue := k.issue
  title := k.title
  notBefore := k.notBefore
  notAfter := k.notAfter
  allowance := k.allowance
  counted := counted
  inFlight := 0
  percent := k.percent
  laneMask := BitVec.ofNat 4 k.laneMask
  heads := k.heads
  keys := slots
  state := st

/-- The record index that an install takes: the installed record's, else the lowest free one (R79,
R80). -/
def installIndex (t : LicenceTable) (id : Nat) : Nat :=
  match recordIndex 0 t.records id with
  | some i => i
  | none => (freeIndex 0 t.records).getD 0

/-- The table with a package installed, its record holding a derived state (R75, R79, R80). -/
def installInto (k : Package) (st : LicenceState) (t : LicenceTable) : LicenceTable :=
  let placed := placeKeys k.id t.deviceKey k.keys (keysFor t k)
  let counted := ((findLicence t.records k.id).map Licence.counted).getD 0
  { t with
    records := t.records.set (installIndex t k.id) (some (recordOf k counted placed.2 st))
    keys := placed.1 }

/-- The LICENCE_STATE entry of a new record: no state left (R77, log entry 17). -/
def newLicenceEntry (id : Nat) (st : LicenceState) : JournalEntry :=
  licenceEntry id Config.noStateLeftWord st.ctorIdx

/-- A new record installed, its derived state evaluated and journaled (R79). -/
def installNew (k : Package) (s : State) : State :=
  let st := derivedState s.licences.clockValid s.licences.clock (recordOf k 0 [] .clockUnknown)
  offer (newLicenceEntry k.id st) (modLicences (installInto k st) s)

/-- A record replaced in place, its derived state evaluated, a change journaled (R80). -/
def installOver (k : Package) (x : Licence) (s : State) : State :=
  evaluateLicence k.id (modLicences (installInto k x.state) s)

/-- The result words of an Install Licence (R79). -/
def installWords (s : State) (id : Nat) : List Nat :=
  match findLicence s.licences.records id with
  | none => []
  | some x => [x.id, x.issue, x.state.ctorIdx, x.keys.length]

/-- Install Licence (R78 to R80). The Device Status Record is written where no field of it has changed
too: DESIGN CHOICE, log entry 72. -/
def doInstall (block : List Byte) (agrees : Bool) (s : State) : State × Answer :=
  match installRefusal s block agrees with
  | some a => (s, a)
  | none =>
    let k := packageOf block
    let s1 :=
      match findLicence s.licences.records k.id with
      | none => installNew k s
      | some x => installOver k x s
    (writeDeviceStatus s1, okWords (installWords s1 k.id))

/-! ## Remove, Read, List (R81 to R83) -/

/-- The table with a licence's record and key slots freed (R75, R81). -/
def removeFrom (id : Nat) (t : LicenceTable) : LicenceTable :=
  { t with
    records := t.records.map fun r => r.filter fun x => !decide (x.id = id)
    keys := freeSlots id t.keys }

/-- A licence freed, with its LICENCE_STATE entry entering REMOVED (R77, R81, R93). -/
def removeLicence (s : State) (x : Licence) : State :=
  offer (licenceEntry x.id x.state.ctorIdx LicenceState.removed.ctorIdx)
    (modLicences (removeFrom x.id) s)

/-- Remove Licence (R81). -/
def doRemove (rq : Req) (s : State) : State × Answer :=
  match findLicence s.licences.records rq.w0.toNat with
  | none => (s, paramAnswer .unknownLicence)
  | some x =>
    match referencedBy s rq.w0.toNat with
    | some l => (s, ⟨.inUse, .none, laneIndex l, []⟩)
    | none => (writeDeviceStatus (removeLicence s x), okAnswer)

/-- The buffer address of Read Licence and List Licences. -/
def bufferAddr (rq : Req) : Nat := wide rq.w2 rq.w3

/-- Bytes written to a host buffer outside the Booth Table, with the answer (R82). -/
def writeBuffer (a : Nat) (bs : List Byte) (answer : Answer) (s : State) : State × Answer :=
  match hostWrite s.host a bs with
  | none => (s, paramAnswer .writeError)
  | some h => ({ s with host := h }, answer)

/-- Read Licence (R82). -/
def doRead (rq : Req) (s : State) : State × Answer :=
  match findLicence s.licences.records rq.w0.toNat with
  | none => (s, paramAnswer .unknownLicence)
  | some x =>
    if rq.w4.toNat < (licenceImage x).length then (s, paramAnswer .buffer)
    else writeBuffer (bufferAddr rq) (licenceImage x) okAnswer s

/-- A licence put into its place in increasing order of licence id. -/
def insertLicence (x : Licence) : List Licence → List Licence
  | [] => [x]
  | y :: ys => if x.id ≤ y.id then x :: y :: ys else y :: insertLicence x ys

/-- The installed records in increasing order of licence id (R83, R93). -/
def licencesById (records : List (Option Licence)) : List Licence :=
  (records.filterMap id).foldr insertLicence []

/-- The size of a List Licences entry. -/
def listEntrySize : Nat := 12

/-- List Licences (R83). -/
def doList (rq : Req) (s : State) : State × Answer :=
  let all := licencesById s.licences.records
  let sent := all.take (rq.w4.toNat / listEntrySize)
  let answer := okWords [all.length, sent.length]
  if sent.isEmpty then (s, answer)
  else writeBuffer (bufferAddr rq) (sent.flatMap listEntry) answer s

/-! ## The booth clock (R89 to R91) -/

/-- What every change of the booth clock brings: the derived states, the ARMED lanes, the CLOCK entry
and the Device Status Record (R89, R90), in that order (DESIGN CHOICE, log entry 28). The words begin with the
kind of the entry: DESIGN CHOICE, log entry 80.
The record is written where no field of it has changed too: DESIGN CHOICE, log entry 72. -/
def clockChanged (words : List Nat) (s : State) : State :=
  writeDeviceStatus (offer ⟨.clock, none, 0, words⟩ (compareAllArmed (evaluateAll s)))

/-- RETAINED_LOST cleared; a change sets ATTENTION bit 6 (R89, R170). -/
def clearLost (s : State) : State :=
  if s.licences.retainedLost then
    noteDeviceChange (modLicences (fun t => { t with retainedLost := false }) s)
  else s

/-- Set Clock (R89). -/
def doSetClock (rq : Req) (s : State) : State × Answer :=
  let v := wide rq.w0 rq.w1
  if Config.clockMax < v then (s, paramAnswer .none)
  else if s.licences.clockValid && !s.maintenance then (s, codeAnswer .notPermitted)
  else
    (clockChanged
        ([ClockEntry.set.ctorIdx] ++ wideWords s.licences.clock ++ [flag s.licences.clockValid] ++
          wideWords v)
        (clearLost (modLicences (fun t => { t with clock := v, clockValid := true }) s)),
      okWords (wideWords v))

/-- The adjustment record and the allowance that step 1 of R90 finds: the day number, the allowance
recorded and the allowance available. -/
structure DayAllowance where
  day : Option Nat
  recorded : Nat
  available : Nat
deriving DecidableEq, Repr

/-- Step 1 of R90 for an adjustment taken on day `d`. -/
def findAllowance (t : LicenceTable) (d : Nat) : DayAllowance :=
  match t.adjustDay with
  | none => ⟨some d, Config.dayAllowance, Config.dayAllowance⟩
  | some day =>
    if day < d then ⟨some d, Config.dayAllowance, Config.dayAllowance⟩
    else if day = d then ⟨some day, t.adjustLeft, t.adjustLeft⟩
    else ⟨some day, t.adjustLeft, 0⟩

/-- The applied delta of a requested one: its sign, the smaller magnitude of request and allowance,
reduced so that the clock stays in its range (R90, step 2). -/
def appliedDelta (clock available : Nat) (delta : Int) : Int :=
  let bounded := clampInt (-(available : Int)) available delta
  clampInt 0 Config.clockMax ((clock : Int) + bounded) - clock

/-- The table after an adjustment (R90, steps 1 to 3). -/
def adjustTable (delta : Int) (t : LicenceTable) : LicenceTable :=
  let a := findAllowance t (t.clock / Config.daySeconds)
  let applied := appliedDelta t.clock a.available delta
  { t with
    clock := ((t.clock : Int) + applied).toNat
    adjustDay := a.day
    adjustLeft := a.recorded - applied.natAbs }

/-- Adjust Clock (R90). -/
def doAdjustClock (rq : Req) (s : State) : State × Answer :=
  let delta := rq.w0.toInt
  if delta < -3600 ∨ 3600 < delta then (s, paramAnswer .none)
  else if !s.licences.clockValid then (s, codeAnswer .clock)
  else
    let a := findAllowance s.licences (s.licences.clock / Config.daySeconds)
    let applied := appliedDelta s.licences.clock a.available delta
    let s1 := modLicences (adjustTable delta) s
    (clockChanged
        ([ClockEntry.adjusted.ctorIdx, signedWord delta, signedWord applied] ++
          wideWords s1.licences.clock) s1,
      okWords [signedWord applied, a.available - applied.natAbs])

/-! ## Identity and maintenance (R92, R93) -/

/-- Read Identity (R92). -/
def doReadIdentity (s : State) : State × Answer :=
  (s, okWords (wideWords s.licences.deviceKeyId.toNat ++ [Config.partRevision]))

/-- The lowest lane that is not EMPTY (R93). -/
def lowestLoaded (s : State) : Option LaneId :=
  allLanes.find? fun l => decide ((s.lane l).state ≠ .empty)

/-- The table after a Factory Clear has freed the records: slots free, clock invalid, adjustment record
reset (R91, R93). -/
def clearTable (t : LicenceTable) : LicenceTable :=
  { t with
    records := t.records.map fun _ => none
    keys := t.keys.map fun _ => none
    clockValid := false
    adjustDay := none
    adjustLeft := Config.dayAllowance }

/-- Factory Clear (R93). The Device Status Record is written where no field of it has changed
too: DESIGN CHOICE, log entry 72. -/
def doFactoryClear (s : State) : State × Answer :=
  if !s.maintenance then (s, codeAnswer .notPermitted)
  else
    match lowestLoaded s with
    | some l => (s, ⟨.state, .none, laneIndex l, []⟩)
    | none =>
      let all := licencesById s.licences.records
      (writeDeviceStatus
          (clockEntry .cleared (modLicences clearTable (all.foldl removeLicence s))),
        okWords [all.length])

/-! ## Set Inputs (R168) -/

/-- The length of an input settings block. -/
def inputBlockSize : Nat := 64

/-- The lowest input whose code at an offset names no value. -/
def badInput {α : Type} (read : Nat → Option α) (off : Nat) (bs : List Byte) : Option Nat :=
  (List.range 8).find? fun i => (read (field bs (8 * i + off) 1)).isNone

/-- The settings of input `i` in a block, the debounce clamped (R168). -/
def settingsOf (bs : List Byte) (i : Nat) : InputSettings where
  function := (functionOf (field bs (8 * i) 1)).getD .none
  mask := BitVec.ofNat 4 (field bs (8 * i + 1) 1)
  polarity := (polarityOf (field bs (8 * i + 2) 1)).getD .activeClosed
  debounce := clampNat 1 255 (field bs (8 * i + 4) 2)

/-- The filter of a restarted input (R168). -/
def restartFilter (f : InputFilter) : InputFilter :=
  { f with fresh := true, stable := 0, level := .unknown, chattering := false, history := [] }

/-- An input with its new settings: restarted when they differ in any field (R168). -/
def renewInput (x : Input) (set : InputSettings) : Input :=
  if x.settings = set then x else ⟨set, restartFilter x.filter⟩

/-- The result words of Set Inputs: the debounces and the inputs restarted (R179). -/
def inputWords (before after : List InputSettings) : List Nat :=
  let d := fun i => ((after[i]?).map InputSettings.debounce).getD 0
  [d 0 + 2 ^ 8 * d 1 + 2 ^ 16 * d 2 + 2 ^ 24 * d 3, d 4 + 2 ^ 8 * d 5 + 2 ^ 16 * d 6 + 2 ^ 24 * d 7,
    flagBits (List.zipWith (fun a b => decide (a ≠ b)) before after)]

/-- Set Inputs (R168). The Device Status Record is written where no field of it has changed
too: DESIGN CHOICE, log entry 72. -/
def doSetInputs (block : List Byte) (s : State) : State × Answer :=
  if block.length ≠ inputBlockSize then (s, paramAnswer .length)
  else
    match badInput functionOf 0 block with
    | some i => (s, paramAt .function i)
    | none =>
      match badInput polarityOf 2 block with
      | some i => (s, paramAt .polarity i)
      | none =>
        let sets := (List.range 8).map (settingsOf block)
        let s1 := { s with inputs := List.zipWith renewInput s.inputs sets }
        (if s1.inputs = s.inputs then s1 else writeDeviceStatus s1,
          okWords (inputWords (s.inputs.map Input.settings) sets))

end Sys2Proof.Machine
end

