-- ==== Sys2Proof/Machine/TableOps.lean ====
section
/-! DEFINITION. The Table Interface: the taking and answering of requests (R174, R175), acceptance of the
Booth Table (R171), the device states (R170, R172), the registers (R169, R173), the resets (R73, R107),
and the Clock Unit (R154 to R156). -/

namespace Sys2Proof.Machine

/-! ## Requests (R175, catalogue of requests) -/

/-- A lane request handed to its owner by its kind; none for a kind that is no lane request. -/
def laneRequest (l : LaneId) (kind : Nat) (rq : Req) (block : List Byte) (s : State) :
    Option (State × Answer) :=
  match kind with
  | 1 => some (doLoadShow l rq s)
  | 2 => some (doUnload l s)
  | 3 => some (doRewind l s)
  | 4 => some (doLaneReset l s)
  | 5 => some (doSetOptions l rq s)
  | 6 => some (doWriteSoundMap l rq block s)
  | 7 => some (doStart l s)
  | 8 => some (doStartAt l rq s)
  | 9 => some (doCancelStart l s)
  | 10 => some (doHold l rq s)
  | 11 => some (doCancelHold l s)
  | 12 => some (doResume l s)
  | 13 => some (doStop l s)
  | 14 => some (doSeek l rq s)
  | 15 => some (doSetLevel l rq s)
  | 16 => some (doTestIndicators l s)
  | 17 => some (doLinkTest l rq s)
  | _ => none

/-- A device request handed to its owner by its kind; none for a kind that is no device request. -/
def deviceRequest (kind : Nat) (rq : Req) (block : List Byte) (agrees : Bool) (s : State) :
    Option (State × Answer) :=
  match kind with
  | 18 => some (doInstall block agrees s)
  | 19 => some (doRemove rq s)
  | 20 => some (doRead rq s)
  | 21 => some (doList rq s)
  | 22 => some (doSetClock rq s)
  | 23 => some (doAdjustClock rq s)
  | 24 => some (doReadIdentity s)
  | 25 => some (doFactoryClear s)
  | 26 => some (doSetInputs block s)
  | _ => none

/-- Whether a kind is known for a slot (R175, step 2). -/
def kindKnown (n : SlotId) (kind : Nat) : Bool :=
  match n with
  | .lane _ => decide (1 ≤ kind) && decide (kind ≤ 17)
  | .device => decide (18 ≤ kind) && decide (kind ≤ 26)

/-- The copy of a parameter block; a length of 0 means none (R175, step 3). -/
def readBlock (h : HostSide) (rq : Req) : Except Answer (List Byte) :=
  if Config.blockMax < rq.blockLen.toNat then .error (paramAnswer .blockLength)
  else if rq.blockLen.toNat = 0 then .ok []
  else
    match hostRead h rq.blockAddr.toNat rq.blockLen.toNat with
    | none => .error (paramAnswer .readError)
    | some bs => .ok bs

/-- A request judged: its kind against the slot, its block, then its owner (R175, steps 2 to 4). -/
def judgeRequest (n : SlotId) (kind : Nat) (rq : Req) (agrees : Bool) (s : State) : State × Answer :=
  if !kindKnown n kind then (s, codeAnswer .unknownRequest)
  else
    match readBlock s.host rq with
    | .error a => (s, a)
    | .ok block =>
      (match n with
        | .lane l => laneRequest l kind rq block s
        | .device => deviceRequest kind rq block agrees s).getD (s, codeAnswer .unknownRequest)

/-- The slot written TAKEN (R175, step 1). -/
def markTaken (n : SlotId) (s : State) : State := putBytes (slotAddr s n) [2] s

/-- The Lane Status Record that an answer of a lane's slot rewrites (R176). -/
def statusAfterAnswer (n : SlotId) (s : State) : State :=
  match n with
  | .lane l => writeLaneStatus l s
  | .device => s

/-- The answer written into its slot, with its ATTENTION bit (R175, steps 5 and 6). -/
def writeAnswer (n : SlotId) (kind : Nat) (rq : Req) (r : State × Answer) : State :=
  statusAfterAnswer n
    (setAttention (slotIndex n) (putBytes (slotAddr r.1 n) (answerBytes kind rq r.2) r.1))

/-- A POSTED request taken and answered, in RUNNING (R174, R175). -/
def serve (n : SlotId) (kind : Nat) (rq : Req) (agrees : Bool) (s : State) : State :=
  if s.device = .running then
    writeAnswer n kind rq (judgeRequest n kind rq agrees (markTaken n s))
  else s

/-- A look at a slot: a POSTED request is taken (R174). -/
def lookSlot (agrees : Bool) (s : State) (n : SlotId) : State :=
  match postedRequest (memReadBytes s.host.mem (slotAddr s n) 64) with
  | none => s
  | some r => serve n r.1 r.2 agrees s

/-- The boundary look's states: all but EMPTY, READY and ENDED (R174). -/
def looksAtSlot : LaneState → Bool
  | .empty => false
  | .ready => false
  | .ended => false
  | _ => true

/-- The bit of a summon flag. -/
def summonBit (n : SlotId) : BitVec 5 := BitVec.ofNat 5 (2 ^ slotIndex n)

/-- A summoned slot looked at, its flag cleared (R174). -/
def lookSummoned (agrees : Bool) (s : State) (n : SlotId) : State :=
  if s.summonFlags &&& summonBit n = 0 then s
  else lookSlot agrees { s with summonFlags := s.summonFlags &&& ~~~summonBit n } n

/-- A write of SUMMON: the flags set; in RUNNING the re-read of the read index while entries are
withheld, and the looks in slot order (R174, R178, log entry 23), in this order: DESIGN CHOICE, log entry
70. -/
def summonWrite (mask : Word32) (agrees : Bool) (s : State) : State :=
  let latched := { s with summonFlags := s.summonFlags ||| mask.setWidth 5 }
  match s.device with
  | .running => allSlots.foldl (lookSummoned agrees) (gapCheck latched)
  | .waitClock => latched
  | .waitTable => latched
  | .reset => s
  | .halted => s

/-! ## Acceptance (R171) -/

/-- A failed acceptance: the device stays in WAIT_TABLE with the reason (R171). -/
def failAcceptance (r : DeviceReason) (s : State) : State := setReason r s

/-- The journal and the update counts as acceptance begins the table (R171, R176, R178), also where a first
write then fails (DESIGN CHOICE, log entry 82). -/
def freshTable (s : State) : State :=
  { s with
    journal := initialJournal
    statusCount := 0
    lanes :=
      ⟨{ s.lanes.a with statusCount := 0 }, { s.lanes.b with statusCount := 0 },
        { s.lanes.c with statusCount := 0 }, { s.lanes.d with statusCount := 0 }⟩ }

/-- The areas that the first writes touch, in order: address and size (R171). -/
def firstWrites (s : State) : List (Nat × Nat) :=
  [(tableAddr s + 4, 4), (deviceStatusAddr s, deviceStatusSize), (laneStatusAddr s .a, laneStatusSize),
    (laneStatusAddr s .b, laneStatusSize), (laneStatusAddr s .c, laneStatusSize),
    (laneStatusAddr s .d, laneStatusSize)]

/-- The number of first writes that succeed before one fails. -/
def writesBeforeFailure (h : HostSide) : List (Nat × Nat) → Nat
  | [] => 0
  | w :: ws => if accessFails h.writeFails w.1 w.2 then 0 else writesBeforeFailure h ws + 1

/-- The first writes, each made in order (R171). -/
def firstWriteSteps : List (State → State) :=
  [fun s => putBytes (tableAddr s + 4) (zeros 4) s, deviceStatusNow, laneStatusNow .a, laneStatusNow .b,
    laneStatusNow .c, laneStatusNow .d]

/-- The first writes up to the one that fails (R171, check 5): those before it stand, and of the one that fails
no byte is stored: DESIGN CHOICE, log entry 82. -/
def makeFirstWrites (s : State) : State :=
  (firstWriteSteps.take (writesBeforeFailure s.host (firstWrites s))).foldl (fun s f => f s) s

/-- Whether every first write succeeds. -/
def firstWritesOk (s : State) : Bool := decide (writesBeforeFailure s.host (firstWrites s) = 6)

/-- RUNNING entered: the reason NONE, ATTENTION bit 6, the Device Status Record again (R170, R171,
R176, log entry 33). -/
def enterRunning (s : State) : State :=
  writeDeviceStatus (noteDeviceChange { s with device := .running, reason := .none })

/-- Acceptance of the Booth Table at the address that the registers hold (R171). -/
def acceptTable (s0 : State) : State :=
  let s := { s0 with hiStored := false }
  if tableAddr s % 4096 ≠ 0 then failAcceptance .align s
  else
    match hostRead s.host (tableAddr s) 64 with
    | none => failAcceptance .read s
    | some bs =>
      if field bs 0 2 ≠ 1 ∨ field bs 8 2 ≠ 0 then failAcceptance .layout s
      else
        let s1 := makeFirstWrites (freshTable s)
        if firstWritesOk s then enterRunning s1 else failAcceptance .write s1

/-! ## Device states (R170, R172) -/

/-- The entry to WAIT_TABLE, with acceptance when TABLE_BASE_HI was written in WAIT_CLOCK (R169, R170,
R171). -/
def enterWaitTable (s : State) : State :=
  let s1 := noteDeviceChange { s with device := .waitTable }
  if s1.hiStored then acceptTable s1 else s1

/-- A write of TABLE_BASE_LO (R169). -/
def writeBaseLo (v : Word32) (s : State) : State :=
  match s.device with
  | .waitClock => { s with tableLo := v }
  | .waitTable => { s with tableLo := v }
  | .reset => s
  | .running => s
  | .halted => s

/-- A write of TABLE_BASE_HI (R169, R171). -/
def writeBaseHi (v : Word32) (s : State) : State :=
  match s.device with
  | .waitClock => { s with tableHi := v, hiStored := true }
  | .waitTable => acceptTable { s with tableHi := v }
  | .reset => s
  | .running => s
  | .halted => s

/-- The end of the reset work (R154, R170). -/
def endReset (s : State) : State :=
  if s.device ≠ .reset then s
  else if !s.clockUnit.external then
    enterWaitTable { s with clockUnit := { s.clockUnit with source := .internal } }
  else if s.clockUnit.refLocked then
    enterWaitTable { s with clockUnit := { s.clockUnit with source := .external } }
  else
    noteDeviceChange
      { s with device := .waitClock, clockUnit := { s.clockUnit with source := .acquiring } }

/-- HALTED entered for a failed access: the reason, every lane emergency-stopped without its pattern,
every contact output opened, every line carrying zero (R153, R172). -/
def enterHalted (dir : AccessDir) (area : HaltArea) (s : State) : State :=
  let reason := match dir with
    | .read => DeviceReason.haltRead
    | .write => DeviceReason.haltWrite
  let s1 := noteDeviceChange { s with device := .halted, reason := reason, haltArea := some area }
  let s2 := allLanes.foldl (fun s l => emergencyStop l s) s1
  allLanes.foldl (fun s l => s.modLane l fun x => { silenceLines x with contacts := 0 }) s2

/-- A failed access of the Booth Table: HALTED from RUNNING (R172). -/
def accessFailed (dir : AccessDir) (area : HaltArea) (s : State) : State :=
  if s.device = .running then enterHalted dir area s else s

/-! ## Resets (R73, R107, R154, R164, R169, R170) -/

/-- A lane after power-on, its line judged (R1, R107). -/
def bootLane (x : Lane) : Lane := { initialLane with link := bootLink x.link.line }

/-- A lane after Device Reset: as after power-on, the frame period and the tick in progress completing at
their original lengths, and what was played before standing (R35, R147, log entry 20). -/
def rebootLane (x : Lane) : Lane := { bootLane x with sound := resetSound x.sound }

/-- The clock source at the start of the reset work (R154, log entry 21). -/
def bootSource (external : Bool) : ClockSource := if external then .acquiring else .internal

/-- The part in RESET with its reset work made, each lane by `boot`, the Licence Table, the host's
memory, the lines, the maintenance contact and the waiting commands apart (R169, R170). -/
def bootState (boot : Lane → Lane) (clockUnit : ClockUnit) (licences : LicenceTable) (s : State) :
    State :=
  evaluateAll
    { State.reset with
      maintenance := s.maintenance
      clockUnit := clockUnit
      licences := licences
      lanes := ⟨boot s.lanes.a, boot s.lanes.b, boot s.lanes.c, boot s.lanes.d⟩
      host := s.host
      pending := s.pending }

/-- Every showing reserved given up (R73). -/
def dropInFlight (t : LicenceTable) : LicenceTable :=
  { t with records := t.records.map fun r => r.map fun x => { x with inFlight := 0 } }

/-- The retained domain found whole at power-on, its clock having run on (R73, R88). -/
def keptTable (elapsed : Nat) (t : LicenceTable) : LicenceTable :=
  { dropInFlight t with clock := min Config.clockMax (t.clock + elapsed), retainedLost := false }

/-- The retained domain checked at power-on (R73). -/
def powerTable (kept : Bool) (elapsed : Nat) (t : LicenceTable) : LicenceTable :=
  if kept then keptTable elapsed t else lostTable t.deviceKeyId t.deviceKey

/-- Power-on (R170, log entry 27). -/
def powerUp (kept : Bool) (elapsed : Nat) (s : State) : State :=
  bootState bootLane ⟨false, bootSource false, false⟩ (powerTable kept elapsed s.licences) s

/-- Device Reset with the clock source written with it (R169, R170). -/
def resetDevice (external : Bool) (s : State) : State :=
  bootState rebootLane ⟨external, bootSource external, s.clockUnit.refLocked⟩ (dropInFlight s.licences) s

/-! ## The Clock Unit (R154 to R156) -/

/-- The clock source state changed, with the Device Status Record (R154, R176). -/
def setSource (src : ClockSource) (s : State) : State :=
  writeDeviceStatus { s with clockUnit := { s.clockUnit with source := src } }

/-- The reference locked flag changed, with the Device Status Record (R154, R176). -/
def setLocked (b : Bool) (s : State) : State :=
  writeDeviceStatus { s with clockUnit := { s.clockUnit with refLocked := b } }

/-- The selection changed to internal (R154, R170). -/
def selectInternal (s0 : State) : State :=
  let s := { s0 with clockUnit := { s0.clockUnit with external := false } }
  let s1 := if s.clockUnit.source = .internal then s else setSource .internal s
  if s1.device = .waitClock then enterWaitTable s1 else s1

/-- The selection changed to external, in every device state (R154, R169). -/
def selectExternal (s0 : State) : State :=
  let s := { s0 with clockUnit := { s0.clockUnit with external := true } }
  if s.clockUnit.source ≠ .internal then s
  else if s.clockUnit.refLocked then setSource .external s
  else setSource .holdover s

/-- A write of DEVICE_CONTROL with RESET clear (R154, R169). -/
def selectSource (external : Bool) (s : State) : State :=
  if external then selectExternal s else selectInternal s

/-- The reference locks (R154, R156, R170). -/
def referenceLocks (s : State) : State :=
  if s.clockUnit.refLocked then s
  else
    let s1 := setLocked true s
    match s1.clockUnit.source with
    | .internal => s1
    | .external => s1
    | .holdover => switchBack (clockEntry .referenceLocked s1)
    | .acquiring =>
      if s1.device = .waitClock then enterWaitTable (setSource .external s1) else s1

/-- The reference is lost (R155, R156). -/
def referenceGoes (s : State) : State :=
  if !s.clockUnit.refLocked then s
  else
    let s1 := setLocked false s
    match s1.clockUnit.source with
    | .internal => s1
    | .acquiring => s1
    | .external => clockEntry .referenceLost (setSource .holdover s1)
    | .holdover => clockEntry .referenceLost s1

/-! ## Registers and the maintenance contact (R169, R170, R173) -/

/-- What the host has done to its memory, seen from now on (log entries 2 and 3). -/
def applyActs (acts : HostActs) (s : State) : State := { s with host := hostActs s.host acts }

/-- A read of ATTENTION: the bits set are returned and cleared (R173). -/
def readAttention (s : State) : State :=
  { s with readData := s.attention.setWidth 32, attention := 0 }

/-- A write of ATTENTION_MASK (R173). -/
def writeMask (v : Word32) (s : State) : State := { s with attentionMask := v.setWidth 7 }

/-- A change of the maintenance input's level: ATTENTION bit 6 and the Device Status Record (R170,
R176). -/
def maintenanceTo (b : Bool) (s : State) : State :=
  if s.maintenance = b then s else writeDeviceStatus (noteDeviceChange { s with maintenance := b })

/-- A write of DEVICE_CONTROL (R169). -/
def writeControl (v : Word32) (s : State) : State :=
  if v.getLsbD 0 then resetDevice (v.getLsbD 1) s else selectSource (v.getLsbD 1) s

/-- A write of the register at an offset; the other offsets hold no writable register (R169, log entry
30). -/
def writeRegister (offset : BitVec 5) (v : Word32) (agrees : Bool) (s : State) : State :=
  if offset = 0x00 then writeBaseLo v s
  else if offset = 0x04 then writeBaseHi v s
  else if offset = 0x08 then writeControl v s
  else if offset = 0x10 then summonWrite v agrees s
  else if offset = 0x18 then writeMask v s
  else s

/-- A second event: the clock advances, the states are evaluated, the ARMED lanes compare, the Device
Status Record is rewritten; entries withheld are looked to (R88, R177). -/
def tickSecond (s : State) : State :=
  writeDeviceStatus
    (compareAllArmed
      (evaluateAll
        (gapCheck
          (modLicences (fun t => { t with clock := min Config.clockMax (t.clock + 1) }) s))))

end Sys2Proof.Machine
end

