-- ==== Sys2Proof/Machine/BoundaryOps.lean ====
section
/-! DEFINITION. The frame boundary of a lane: what each block does at it by lane state (R6, R15 to R17,
R20, R22, R24 to R26, R29, R101, R174, R176), and the millisecond tick (R149). -/

namespace Sys2Proof.Machine

/-! ## The presenting boundary (R15, R16, R65 to R69, R133 to R141) -/

/-- REEL_START at the first frame of a reel (R16). -/
def journalReelStart (l : LaneId) (s : State) : State :=
  let x := s.lane l
  match x.loaded.bind fun sh => reelOf sh x.p with
  | none => s
  | some r =>
    if r.2.start = x.p then offer ⟨.reelStart, some l, x.p, [r.1]⟩ s else s

/-- The stores at a presenting boundary: succession where the current places serve the reel before,
and the palette pending flags at the first frame of a reel (R133, R138). -/
def storesAtReelStart (x : Lane) : Lane :=
  match x.loaded.bind fun sh => reelOf sh x.p with
  | none => x
  | some r =>
    if r.2.start ≠ x.p then x
    else if 2 ≤ r.1 ∧ servedReel x + 1 = r.1 then succession r.1 x
    else pendPalettes x

/-- The kind of the record of a presenting boundary (R65, R115). -/
def presentPicture (x : Lane) : Picture :=
  match realUnits x x.p with
  | some us => ⟨.real, us, true⟩
  | none =>
    if x.lastReal.isSome && x.link.frameHeld then ⟨.repeated, [], true⟩ else ⟨.black, [], true⟩

/-- The cues drawn at a presenting boundary, from top to bottom (R134 to R136). -/
def presentCues (sh : Show) (x : Lane) : List PlacedCue :=
  match reelOf sh x.p with
  | none => []
  | some r =>
    placedCues r.2 (trackFrame r.2 x.p) (activeCues x.overlay.current1 r.2 (trackFrame r.2 x.p))
      (activeCues x.overlay.current2 r.2 (trackFrame r.2 x.p))

/-- The active counts of a presenting boundary, and OVERLAY_SATURATED (R134). -/
def selectActive (sh : Show) (x : Lane) : Lane :=
  match reelOf sh x.p with
  | none => x
  | some r =>
    let f := trackFrame r.2 x.p
    setIndicatorIf
      (overlaySaturated x.overlay.current1 r.2 f || overlaySaturated x.overlay.current2 r.2 f)
      .overlaySaturated
      { x with
        overlay :=
          { x.overlay with
            active :=
              ⟨(activeCues x.overlay.current1 r.2 f).length,
                (activeCues x.overlay.current2 r.2 f).length⟩ } }

/-- The tile updates of a presenting boundary; none while the link is not LOCKED (R139, R141). -/
def presentTiles (sh : Show) (x : Lane) : List TileUpdate :=
  if x.link.state = .locked then tileUpdates (presentCues sh x) x.link.seq x.overlay.tileMap else []

/-- The frame record of a presenting boundary (R115, R139). -/
def presentRecord (l : LaneId) (sh : Show) (pic : Picture) (s : State) : State :=
  let tiles := presentTiles sh (s.lane l)
  linkBoundary l pic tiles (if (s.lane l).link.state = .locked then litTiles tiles else (s.lane l).overlay.tileMap) s

/-- The counts and positions of the lane after it presented P: the queue heads consumed, the last real
frame, the starve run, link grace, and P one on (R15, R24, R25, R65, R66, R69). -/
def advanceLane (sh : Show) (real : Bool) (x : Lane) : Lane :=
  { consumeTracks sh x.p x with
    lastReal := if real then some x.p else x.lastReal
    starveRun := if real then 0 else x.starveRun + 1
    linkGrace := if linkGood x then 0 else x.linkGrace + 1
    p := x.p + 1 }

/-- What the advance of P leads to: completion, or a lane timer past its limit, link grace before the
starve run (R17, R24, R25). -/
def afterAdvance (l : LaneId) (sh : Show) (s : State) : State :=
  let x := s.lane l
  if sh.total ≤ x.p then completeShow l s
  else if x.options.linkGrace < x.linkGrace then stopLane l .linkLost s
  else if x.options.starveLimit < x.starveRun then stopLane l .starved s
  else s

/-- The presenting of P by every block of the lane (R15). -/
def presentFrame (l : LaneId) (sh : Show) (s : State) : State :=
  let s1 := (journalReelStart l s).modLane l fun x => selectActive sh (storesAtReelStart x)
  let x := s1.lane l
  let pic := presentPicture x
  let real := decide (pic.kind = .real)
  let s2 := presentRecord l sh pic (s1.modLane l (setIndicatorIf (!real) .concealed))
  let s3 := s2.modLane l (presentSound (soundFor sh x .main x.p) (soundFor sh x .aux x.p))
  afterAdvance l sh ((cueScan l x.p sh.total s3).modLane l (advanceLane sh real))

/-! ## The boundary by lane state -/

/-- Whether a boundary in PLAYING takes the pending hold (R20). -/
def holdDue (x : Lane) : Bool :=
  match x.hold with
  | none => false
  | some h =>
    match h.when_ with
    | .now => true
    | .reelEnd r =>
      ((x.loaded.bind fun sh => nthReel sh (r + 1)).map fun q => decide (x.p = q.start)).getD false

/-- Whether the next boundary in PLAYING brings link grace above its limit (R25). -/
def graceDue (x : Lane) : Bool := !linkGood x && decide (x.options.linkGrace < x.linkGrace + 1)

/-- Whether the next presenting boundary brings the starve run above its limit (R24). -/
def starveDue (x : Lane) : Bool :=
  (realUnits x x.p).isNone && decide (x.options.starveLimit < x.starveRun + 1)

/-- A boundary that takes the pending hold: BLACK, then HELD; or, with link grace above its limit,
STOPPING with cause LINK_LOST and the hold not taken (R20, R25, log entry 12). -/
def holdBoundary (l : LaneId) (h : HoldRecord) (s : State) : State :=
  if graceDue (s.lane l) then stopLane l .linkLost (heldRecord l s)
  else takeHold l h (heldRecord l s)

/-- A boundary in PLAYING: a hold taken, a fault, or P presented (R15, R20, R29). A fault comes before
link grace, which is not counted there: DEDUCED, log entry 46. At it no REEL_START is written and no
succession made: DEDUCED, log entry 60. -/
def playingBoundary (l : LaneId) (s : State) : State :=
  let x := s.lane l
  match x.hold.filter fun _ => holdDue x with
  | some h => holdBoundary l h s
  | none =>
    match presentFault x, x.loaded with
    | some q, _ => faultLane l q.1 q.2.1 q.2.2 (heldRecord l s)
    | none, some sh => presentFrame l sh s
    | none, none => s

/-- A boundary in LOADING: the priming evaluation (R6). -/
def loadingBoundary (l : LaneId) (s : State) : State :=
  let s1 := (idleRecord l s).modLane l fun x => { x with waitingLicence := waitsForLicence s x }
  if lanePrimed s1 l then enterState l .ready .primed s1 else s1

/-- The hold limit timer advanced (R26). -/
def advanceHold (x : Lane) : Lane := { x with holdTimer := x.holdTimer + 1 }

/-- Whether the next boundary in HELD or SEEKING brings the hold limit timer to its limit (R26). -/
def holdLimitDue (x : Lane) : Bool := decide (x.holdLimit ≤ x.holdTimer + 1)

/-- A boundary in HELD: the hold limit timer (R26). The BLACK record goes out before the run end: DEDUCED,
log entry 63. -/
def heldBoundary (l : LaneId) (s : State) : State :=
  let s1 := (idleRecord l s).modLane l advanceHold
  if holdLimitDue (s.lane l) then stopLane l .holdExpired s1 else s1

/-- A boundary in SEEKING: the hold limit timer, then priming (R22, R26, log entry 31). The BLACK record goes
out before the run end: DEDUCED, log entry 63. -/
def seekingBoundary (l : LaneId) (s : State) : State :=
  let s1 := (idleRecord l s).modLane l advanceHold
  if holdLimitDue (s.lane l) then stopLane l .holdExpired s1
  else if essencePrimed (s1.lane l) then enterState l .held .primed s1
  else s1

/-- The work of a boundary by lane state (R15). -/
def boundaryWork (l : LaneId) (s : State) : State :=
  match (s.lane l).state with
  | .playing => playingBoundary l s
  | .loading => loadingBoundary l s
  | .held => heldBoundary l s
  | .seeking => seekingBoundary l s
  | .empty => idleRecord l s
  | .ready => idleRecord l s
  | .armed => idleRecord l s
  | .stopping => idleRecord l s
  | .ended => idleRecord l s
  | .fault => idleRecord l s

/-- The Lane Status Record at a boundary that began in the state `before`: of a lane that is not EMPTY
always, of an EMPTY lane where a field has changed since its last boundary, this boundary's own work included
(R176, log entry 76). From here on the changes are those since this boundary. -/
def boundaryStatus (l : LaneId) (before after : State) : State :=
  let s := noteChanges before after
  let t := if (s.lane l).state = .empty ∧ s.recordChanged.get l = false then s else writeLaneStatus l s
  { t with recordChanged := t.recordChanged.set l false }

/-- The lane boundary look at the lane's slot (R174, log entry 11). -/
def boundaryLook (l : LaneId) (agrees : Bool) (s : State) : State :=
  noteChanges s
    (if s.device = .running ∧ looksAtSlot (s.lane l).state = true then lookSlot agrees s (.lane l) else s)

/-- The start of a boundary: the period ends, the staged sections swap, residency waits are lifted
(R34, R56, R145, R147). -/
def beginBoundary (x : Lane) : Lane := liftWaits (swapStaged (endPeriod x))

/-- A frame boundary of a lane; none occurs in ACQUIRING (R15, R154, log entries 10, 11 and 29). An open
closing window counts the boundary before its record is sent, so that the eighth closes the window (R101). -/
def boundary (l : LaneId) (s : State) : State :=
  if s.clockUnit.source = .acquiring then s
  else
    let s1 := windowTick l (s.modLane l beginBoundary)
    boundaryLook l false (boundaryStatus l s ((boundaryWork l s1).modLane l rollPeriod))

/-! ## What a boundary is about to bring (log entry 9) -/

/-- Whether the next boundary in LOADING finds the lane primed (R6). -/
def primedDue (l : LaneId) (s : State) : Bool :=
  decide ((s.lane l).state = .loading) && lanePrimed s l

/-- Whether the next boundary in SEEKING finds the lane primed before its hold limit (R22). -/
def seekPrimedDue (l : LaneId) (s : State) : Bool :=
  decide ((s.lane l).state = .seeking) && essencePrimed (s.lane l) && !holdLimitDue (s.lane l)

/-- Whether the next boundary takes the pending hold (R20). -/
def holdTakenDue (l : LaneId) (s : State) : Bool :=
  decide ((s.lane l).state = .playing) && holdDue (s.lane l) && !graceDue (s.lane l)

/-- Whether the next boundary is a presenting one. -/
def presentDue (x : Lane) : Bool :=
  decide (x.state = .playing) && !holdDue x && (presentFault x).isNone

/-- Whether the next boundary completes the show (R17). -/
def completeDue (x : Lane) : Bool := (x.loaded.map fun sh => decide (sh.total ≤ x.p + 1)).getD false

/-- Whether the next boundary stops the lane with STARVED (R24). -/
def starveExpiryDue (l : LaneId) (s : State) : Bool :=
  presentDue (s.lane l) && starveDue (s.lane l) && !graceDue (s.lane l) && !completeDue (s.lane l)

/-- Whether the next boundary stops the lane with LINK_LOST (R25). -/
def graceExpiryDue (l : LaneId) (s : State) : Bool :=
  decide ((s.lane l).state = .playing) && graceDue (s.lane l) &&
    (holdDue (s.lane l) || (presentDue (s.lane l) && !completeDue (s.lane l)))

/-- Whether the next boundary stops the lane with HOLD_EXPIRED (R26). -/
def holdExpiryDue (l : LaneId) (s : State) : Bool :=
  (decide ((s.lane l).state = .held) || decide ((s.lane l).state = .seeking)) &&
    holdLimitDue (s.lane l)

/-- Whether the next boundary brings an open window's count to 8 (R101). -/
def windowDue (l : LaneId) (s : State) : Bool :=
  decide ((s.lane l).tally.phase = .closing) &&
    decide (Config.windowLength ≤ (s.lane l).tally.window + 1)

/-- A boundary that comes with the outcome a row names, and nothing when that outcome is not due (log
entry 9). -/
def boundaryIf (due : Bool) (l : LaneId) (s : State) : State := if due then boundary l s else s

/-! ## The millisecond tick (R149) -/

/-- A millisecond tick of a lane: the ramp, and the passage of a STOPPING lane to ENDED when it takes
the last output to mute, with the cause that STOPPING was entered with (R23, R149). -/
def tickLane (l : LaneId) (s : State) : State :=
  if s.clockUnit.source = .acquiring then s
  else
    let s1 := s.modLane l fun x => rampGains (endTick x)
    if (s1.lane l).state = .stopping ∧ everyMute (s1.lane l).sound.applied = true then
      enterState l .ended (s1.lane l).lastCause s1
    else s1

/-- Whether a millisecond tick takes a STOPPING lane to ENDED (R23). -/
def fadeDue (l : LaneId) (s : State) : Bool :=
  decide ((s.lane l).state = .stopping) &&
    everyMute
      (stepGains (s.lane l).options.fadeRate (s.lane l).sound.applied (s.lane l).sound.target)

/-- Whether the next second event fires an ARMED lane (R13). -/
def firingDue (l : LaneId) (s : State) : Bool :=
  startDue (s.lane l) (min Config.clockMax (s.licences.clock + 1))

end Sys2Proof.Machine
end

