-- ==== Sys2Proof/Machine/BoundaryCommands.lean ====
section
/-! DEFINITION. The meanings of the commands of the frame boundary and what comes about at one: one definition for each. Every one
answers a next state: no rule of the manual stops the part (NOTES.md, Stops). -/

namespace Sys2Proof.Machine

/-- FRAME_BOUNDARY (R15). -/
def execFrameBoundary (l : LaneId) (s : State) : Host.Outcome State Fault Refusal :=
  .next (boundary l s)

/-- PRIMED (R6): the frame boundary that brings it about, where it is due (log entry 9). -/
def execPrimed (l : LaneId) (s : State) : Host.Outcome State Fault Refusal :=
  .next (boundaryIf (primedDue l s) l s)

/-- SEEK_PRIMED (R22): the frame boundary that brings it about, where it is due (log entry 9). -/
def execSeekPrimed (l : LaneId) (s : State) : Host.Outcome State Fault Refusal :=
  .next (boundaryIf (seekPrimedDue l s) l s)

/-- HOLD_TAKEN (R20): the frame boundary that brings it about, where it is due (log entry 9). -/
def execHoldTaken (l : LaneId) (s : State) : Host.Outcome State Fault Refusal :=
  .next (boundaryIf (holdTakenDue l s) l s)

/-- STARVE_LIMIT_EXPIRY (R24): the frame boundary that brings it about, where it is due (log entry
9). -/
def execStarveLimitExpiry (l : LaneId) (s : State) : Host.Outcome State Fault Refusal :=
  .next (boundaryIf (starveExpiryDue l s) l s)

/-- LINK_GRACE_EXPIRY (R25): the frame boundary that brings it about, where it is due (log entry 9).
-/
def execLinkGraceExpiry (l : LaneId) (s : State) : Host.Outcome State Fault Refusal :=
  .next (boundaryIf (graceExpiryDue l s) l s)

/-- HOLD_LIMIT_EXPIRY (R26): the frame boundary that brings it about, where it is due (log entry 9).
-/
def execHoldLimitExpiry (l : LaneId) (s : State) : Host.Outcome State Fault Refusal :=
  .next (boundaryIf (holdExpiryDue l s) l s)

/-- CLOSING_WINDOW_EXPIRED (R101): the frame boundary that brings it about, where it is due (log
entry 9). -/
def execClosingWindowExpired (l : LaneId) (s : State) : Host.Outcome State Fault Refusal :=
  .next (boundaryIf (windowDue l s) l s)

/-- LINK_TEST_COMPLETE (R124): the frame boundary that brings it about, where it is due (log entry
9). -/
def execLinkTestComplete (l : LaneId) (s : State) : Host.Outcome State Fault Refusal :=
  .next (boundaryIf (testDue (s.lane l)) l s)

end Sys2Proof.Machine
end

