-- ==== Sys2Proof/Machine/ClockCommands.lean ====
section
/-! DEFINITION. The meanings of the commands of the clocks: second events, millisecond ticks, the booth reference: one definition for each. Every one
answers a next state: no rule of the manual stops the part (NOTES.md, Stops). -/

namespace Sys2Proof.Machine

/-- START_AT_FIRING (R13): the second event at which the lane fires, where it is due (log entry 9).
-/
def execStartAtFiring (l : LaneId) (s : State) : Host.Outcome State Fault Refusal :=
  .next (noteChanges s (if firingDue l s then tickSecond s else s))

/-- MILLISECOND_TICK (R149). -/
def execMillisecondTick (l : LaneId) (s : State) : Host.Outcome State Fault Refusal :=
  .next (noteChanges s (tickLane l s))

/-- FADE_COMPLETE (R23): the millisecond tick that mutes the last output of a STOPPING lane, where
it is due (log entry 9). -/
def execFadeComplete (l : LaneId) (s : State) : Host.Outcome State Fault Refusal :=
  .next (noteChanges s (if fadeDue l s then tickLane l s else s))

/-- SECOND_EVENT (R88). -/
def execSecondEvent (s : State) : Host.Outcome State Fault Refusal :=
  .next (noteChanges s (tickSecond s))

/-- REFERENCE_LOCK (R154, R156). -/
def execReferenceLock (s : State) : Host.Outcome State Fault Refusal :=
  .next (noteChanges s (referenceLocks s))

/-- REFERENCE_LOSS (R155, R156). -/
def execReferenceLoss (s : State) : Host.Outcome State Fault Refusal :=
  .next (noteChanges s (referenceGoes s))

/-- CLOCK_SWITCH_BACK (R156): the switch, where it is due (log entry 9). -/
def execClockSwitchBack (s : State) : Host.Outcome State Fault Refusal :=
  .next (noteChanges s (switchBack s))

end Sys2Proof.Machine
end

