-- ==== Sys2Proof/Machine/DeviceCommands.lean ====
section
/-! DEFINITION. The meanings of the commands of the register window, the device states and the Table Interface (R169 to R178): one definition for each. Every one
answers a next state: no rule of the manual stops the part (NOTES.md, Stops). -/

namespace Sys2Proof.Machine

/-- POWER_ON (R73, R107, R170): the part in RESET with its power-on values, the retained domain
checked. -/
def execPowerOn (kept : Bool) (elapsed : Nat) (s : State) : Host.Outcome State Fault Refusal :=
  .next (noteChanges s (powerUp kept elapsed s))

/-- DEVICE_RESET (R73, R107, R169, R170): the whole part in RESET, the retained domain kept. -/
def execDeviceReset (external : Bool) (s : State) : Host.Outcome State Fault Refusal :=
  .next (noteChanges s (resetDevice external s))

/-- RESET_WORK_COMPLETE (R154, R170): RESET left for WAIT_TABLE or WAIT_CLOCK. -/
def execResetWorkComplete (s : State) : Host.Outcome State Fault Refusal :=
  .next (noteChanges s (endReset s))

/-- CLOCK_SOURCE_SELECT (R154, R169, R170). -/
def execClockSourceSelect (external : Bool) (s : State) : Host.Outcome State Fault Refusal :=
  .next (noteChanges s (selectSource external s))

/-- TABLE_BASE_HI_WRITE (R169, R171). -/
def execTableBaseHiWrite (value : Word32) (acts : HostActs) (s : State) :
    Host.Outcome State Fault Refusal :=
  .next (noteChanges s (writeBaseHi value (applyActs acts s)))

/-- REGISTER_WRITE (R169): the write routed to the register at its offset. -/
def execRegisterWrite (offset : BitVec 5) (value : Word32) (acts : HostActs) (agrees : Bool) (s : State) :
    Host.Outcome State Fault Refusal :=
  .next (noteChanges s (writeRegister offset value agrees (applyActs acts s)))

/-- SUMMON (R174, R178). -/
def execSummon (mask : Word32) (acts : HostActs) (agrees : Bool) (s : State) :
    Host.Outcome State Fault Refusal :=
  .next (noteChanges s (summonWrite mask agrees (applyActs acts s)))

/-- ATTENTION_READ (R173). -/
def execAttentionRead (s : State) : Host.Outcome State Fault Refusal :=
  .next (noteChanges s (readAttention s))

/-- ATTENTION_MASK_WRITE (R173). -/
def execAttentionMaskWrite (value : Word32) (s : State) : Host.Outcome State Fault Refusal :=
  .next (noteChanges s (writeMask value s))

/-- MAINTENANCE_INPUT_CHANGE (R169, R170). -/
def execMaintenanceInputChange (asserted : Bool) (s : State) : Host.Outcome State Fault Refusal :=
  .next (noteChanges s (maintenanceTo asserted s))

/-- UNKNOWN_REQUEST_KIND (R175, step 2): a kind that its slot does not know is answered
UNKNOWN_REQUEST. With a kind that the slot knows the command changes nothing: DESIGN CHOICE, log entry 30. -/
def execUnknownRequestKind (slot : SlotId) (kind : Byte) (rq : Req) (s : State) :
    Host.Outcome State Fault Refusal :=
  .next (noteChanges s (if kindKnown slot kind.toNat then s else serve slot kind.toNat rq false s))

/-- JOURNAL_GAP (R178): the re-read of the read index while entries are withheld, with the GAP
entry. -/
def execJournalGap (s : State) : Host.Outcome State Fault Refusal :=
  .next (noteChanges s (gapCheck s))

/-- TABLE_ACCESS_FAILURE (R172): HALTED. -/
def execTableAccessFailure (dir : AccessDir) (area : HaltArea) (s : State) :
    Host.Outcome State Fault Refusal :=
  .next (noteChanges s (accessFailed dir area s))

end Sys2Proof.Machine
end

