-- ==== Sys2Proof/Machine/FetchCommands.lean ====
section
/-! DEFINITION. The meanings of the commands of the fetch engine: one definition for each. Every one
answers a next state: no rule of the manual stops the part (NOTES.md, Stops). -/

namespace Sys2Proof.Machine

/-- FETCH_GRANT (R53 to R57). -/
def execFetchGrant (s : State) : Host.Outcome State Fault Refusal :=
  .next (noteChanges s (engineGrant s))

/-- FETCH_COMPLETION (R61 to R63). -/
def execFetchCompletion (agrees : Bool) (plain : List Byte) (s : State) :
    Host.Outcome State Fault Refusal :=
  .next (noteChanges s (completeEssence agrees plain s))

/-- SUBTITLE_CHUNK_COMPLETION (R70, R71, R128 to R131). -/
def execSubtitleChunkCompletion (agrees : Bool) (plain : List Byte) (s : State) :
    Host.Outcome State Fault Refusal :=
  .next (noteChanges s (completeSubtitle agrees plain s))

end Sys2Proof.Machine
end

