-- ==== Sys2Proof/Machine/InputCommands.lean ====
section
/-! DEFINITION. The meanings of the commands of the building inputs: one definition for each. Every one
answers a next state: no rule of the manual stops the part (NOTES.md, Stops). -/

namespace Sys2Proof.Machine

/-- INPUT_TICK (R165). -/
def execInputTick (contacts : BitVec 8) (s : State) : Host.Outcome State Fault Refusal :=
  .next (noteChanges s (inputTickAll contacts s))

/-- INPUT_DEBOUNCE_ACCEPT (R165, R166): the input tick at which the input reaches its debounce (log
entry 9). -/
def execInputDebounceAccept (i : InputId) (contacts : BitVec 8) (s : State) :
    Host.Outcome State Fault Refusal :=
  .next (noteChanges s (if debounceDue s i.val contacts then inputTickAll contacts s else s))

/-- CHATTER_LEFT (R166): the input tick at which the input leaves CHATTERING (log entry 9). -/
def execChatterLeft (i : InputId) (contacts : BitVec 8) (s : State) :
    Host.Outcome State Fault Refusal :=
  .next (noteChanges s (if chatterLeftDue s i.val contacts then inputTickAll contacts s else s))

end Sys2Proof.Machine
end

