-- ==== Sys2Proof/Machine/LaneCommands.lean ====
section
/-! DEFINITION. The meanings of the commands of the lane requests: one definition for each. Every one
answers a next state: no rule of the manual stops the part (NOTES.md, Stops). -/

namespace Sys2Proof.Machine

/-- LOAD_SHOW (R4, R5), taken from the lane's slot and answered there (R175): kind 1 of the
catalogue. -/
def execLoadShow (l : LaneId) (rq : Req) (s : State) : Host.Outcome State Fault Refusal :=
  .next (noteChanges s (serve (.lane l) 1 rq false s))

/-- UNLOAD (R7), taken from the lane's slot and answered there (R175): kind 2 of the catalogue. -/
def execUnload (l : LaneId) (rq : Req) (s : State) : Host.Outcome State Fault Refusal :=
  .next (noteChanges s (serve (.lane l) 2 rq false s))

/-- REWIND (R8), taken from the lane's slot and answered there (R175): kind 3 of the catalogue. -/
def execRewind (l : LaneId) (rq : Req) (s : State) : Host.Outcome State Fault Refusal :=
  .next (noteChanges s (serve (.lane l) 3 rq false s))

/-- LANE_RESET (R9), taken from the lane's slot and answered there (R175): kind 4 of the catalogue.
-/
def execLaneReset (l : LaneId) (rq : Req) (s : State) : Host.Outcome State Fault Refusal :=
  .next (noteChanges s (serve (.lane l) 4 rq false s))

/-- SET_LANE_OPTIONS (R3), taken from the lane's slot and answered there (R175): kind 5 of the
catalogue. -/
def execSetLaneOptions (l : LaneId) (rq : Req) (s : State) : Host.Outcome State Fault Refusal :=
  .next (noteChanges s (serve (.lane l) 5 rq false s))

/-- WRITE_SOUND_MAP (R143), taken from the lane's slot and answered there (R175): kind 6 of the
catalogue. -/
def execWriteSoundMap (l : LaneId) (rq : Req) (s : State) : Host.Outcome State Fault Refusal :=
  .next (noteChanges s (serve (.lane l) 6 rq false s))

/-- START (R10, R11), taken from the lane's slot and answered there (R175): kind 7 of the catalogue.
-/
def execStart (l : LaneId) (rq : Req) (s : State) : Host.Outcome State Fault Refusal :=
  .next (noteChanges s (serve (.lane l) 7 rq false s))

/-- START_AT (R12), taken from the lane's slot and answered there (R175): kind 8 of the catalogue.
-/
def execStartAt (l : LaneId) (rq : Req) (s : State) : Host.Outcome State Fault Refusal :=
  .next (noteChanges s (serve (.lane l) 8 rq false s))

/-- CANCEL_START (R14), taken from the lane's slot and answered there (R175): kind 9 of the
catalogue. -/
def execCancelStart (l : LaneId) (rq : Req) (s : State) : Host.Outcome State Fault Refusal :=
  .next (noteChanges s (serve (.lane l) 9 rq false s))

/-- HOLD (R18), taken from the lane's slot and answered there (R175): kind 10 of the catalogue. -/
def execHold (l : LaneId) (rq : Req) (s : State) : Host.Outcome State Fault Refusal :=
  .next (noteChanges s (serve (.lane l) 10 rq false s))

/-- CANCEL_HOLD (R19), taken from the lane's slot and answered there (R175): kind 11 of the
catalogue. -/
def execCancelHold (l : LaneId) (rq : Req) (s : State) : Host.Outcome State Fault Refusal :=
  .next (noteChanges s (serve (.lane l) 11 rq false s))

/-- RESUME (R21), taken from the lane's slot and answered there (R175): kind 12 of the catalogue. -/
def execResume (l : LaneId) (rq : Req) (s : State) : Host.Outcome State Fault Refusal :=
  .next (noteChanges s (serve (.lane l) 12 rq false s))

/-- STOP (R14, R23), taken from the lane's slot and answered there (R175): kind 13 of the catalogue.
-/
def execStop (l : LaneId) (rq : Req) (s : State) : Host.Outcome State Fault Refusal :=
  .next (noteChanges s (serve (.lane l) 13 rq false s))

/-- SEEK (R22), taken from the lane's slot and answered there (R175): kind 14 of the catalogue. -/
def execSeek (l : LaneId) (rq : Req) (s : State) : Host.Outcome State Fault Refusal :=
  .next (noteChanges s (serve (.lane l) 14 rq false s))

/-- SET_LEVEL (R33), taken from the lane's slot and answered there (R175): kind 15 of the catalogue.
-/
def execSetLevel (l : LaneId) (rq : Req) (s : State) : Host.Outcome State Fault Refusal :=
  .next (noteChanges s (serve (.lane l) 15 rq false s))

/-- TEST_INDICATORS (R32), taken from the lane's slot and answered there (R175): kind 16 of the
catalogue. -/
def execTestIndicators (l : LaneId) (rq : Req) (s : State) : Host.Outcome State Fault Refusal :=
  .next (noteChanges s (serve (.lane l) 16 rq false s))

/-- LINK_TEST (R122), taken from the lane's slot and answered there (R175): kind 17 of the
catalogue. -/
def execLinkTest (l : LaneId) (rq : Req) (s : State) : Host.Outcome State Fault Refusal :=
  .next (noteChanges s (serve (.lane l) 17 rq false s))

end Sys2Proof.Machine
end

