-- ==== Sys2Proof/Machine/LicenceCommands.lean ====
section
/-! DEFINITION. The meanings of the commands of the device requests: one definition for each. Every one
answers a next state: no rule of the manual stops the part (NOTES.md, Stops). -/

namespace Sys2Proof.Machine

/-- INSTALL_LICENCE (R78 to R80), taken from the device slot and answered there (R175): kind 18 of
the catalogue. -/
def execInstallLicence (rq : Req) (agrees : Bool) (s : State) : Host.Outcome State Fault Refusal :=
  .next (noteChanges s (serve .device 18 rq agrees s))

/-- REMOVE_LICENCE (R81), taken from the device slot and answered there (R175): kind 19 of the
catalogue. -/
def execRemoveLicence (rq : Req) (s : State) : Host.Outcome State Fault Refusal :=
  .next (noteChanges s (serve .device 19 rq false s))

/-- READ_LICENCE (R82), taken from the device slot and answered there (R175): kind 20 of the
catalogue. -/
def execReadLicence (rq : Req) (s : State) : Host.Outcome State Fault Refusal :=
  .next (noteChanges s (serve .device 20 rq false s))

/-- LIST_LICENCES (R83), taken from the device slot and answered there (R175): kind 21 of the
catalogue. -/
def execListLicences (rq : Req) (s : State) : Host.Outcome State Fault Refusal :=
  .next (noteChanges s (serve .device 21 rq false s))

/-- SET_CLOCK (R89), taken from the device slot and answered there (R175): kind 22 of the catalogue.
-/
def execSetClock (rq : Req) (s : State) : Host.Outcome State Fault Refusal :=
  .next (noteChanges s (serve .device 22 rq false s))

/-- ADJUST_CLOCK (R90), taken from the device slot and answered there (R175): kind 23 of the
catalogue. -/
def execAdjustClock (rq : Req) (s : State) : Host.Outcome State Fault Refusal :=
  .next (noteChanges s (serve .device 23 rq false s))

/-- READ_IDENTITY (R92), taken from the device slot and answered there (R175): kind 24 of the
catalogue. -/
def execReadIdentity (rq : Req) (s : State) : Host.Outcome State Fault Refusal :=
  .next (noteChanges s (serve .device 24 rq false s))

/-- FACTORY_CLEAR (R93), taken from the device slot and answered there (R175): kind 25 of the
catalogue. -/
def execFactoryClear (rq : Req) (s : State) : Host.Outcome State Fault Refusal :=
  .next (noteChanges s (serve .device 25 rq false s))

/-- SET_INPUTS (R168), taken from the device slot and answered there (R175): kind 26 of the
catalogue. -/
def execSetInputs (rq : Req) (s : State) : Host.Outcome State Fault Refusal :=
  .next (noteChanges s (serve .device 26 rq false s))

end Sys2Proof.Machine
end

