-- ==== Sys2Proof/Machine/LinkCommands.lean ====
section
/-! DEFINITION. The meanings of the commands of the projector links: one definition for each. Every one
answers a next state: no rule of the manual stops the part (NOTES.md, Stops). -/

namespace Sys2Proof.Machine

/-- LINE_FAULT_DETECTED (R108). -/
def execLineFaultDetected (l : LaneId) (kind : LineFault) (s : State) :
    Host.Outcome State Fault Refusal :=
  .next (noteChanges s (lineFault l kind s))

/-- LINE_GOOD (R108). -/
def execLineGood (l : LaneId) (s : State) : Host.Outcome State Fault Refusal :=
  .next (noteChanges s (lineIsGood l s))

/-- LOCK_ACHIEVED (R109). -/
def execLockAchieved (l : LaneId) (s : State) : Host.Outcome State Fault Refusal :=
  .next (noteChanges s (lockGained l s))

/-- LOCK_LOST (R109, R114, R124). -/
def execLockLost (l : LaneId) (s : State) : Host.Outcome State Fault Refusal :=
  .next (noteChanges s (lockGone l s))

/-- BAD_REPORT (R110): not decoded where no report is. -/
def execBadReport (l : LaneId) (s : State) : Host.Outcome State Fault Refusal :=
  .next (noteChanges s (if decodesReports (s.lane l).link then s.modLane l badReportLane else s))

/-- HEAD_IDENTITY_REPORT (R111). -/
def execHeadIdentityReport (l : LaneId) (identity : Word64) (s : State) :
    Host.Outcome State Fault Refusal :=
  .next (noteChanges s (takeIdentity l identity s))

/-- HEAD_STATUS_REPORT (R110, R112): discarded in TESTING. -/
def execHeadStatusReport (l : LaneId) (ready : Bool) (s : State) :
    Host.Outcome State Fault Refusal :=
  .next
    (noteChanges s
      (if decodesReports (s.lane l).link && !decide ((s.lane l).link.state = .testing) then
        modLink l (takeStatus ready) s
      else s))

/-- SHOWN_REPORT (R118, R119). -/
def execShownReport (l : LaneId) (seq : BitVec 16) (s : State) : Host.Outcome State Fault Refusal :=
  .next (noteChanges s (if decodesReports (s.lane l).link then takeShown l seq.toNat s else s))

/-- TEST_TALLY_REPORT (R110, R123): discarded outside TESTING. -/
def execTestTallyReport (l : LaneId) (seq : BitVec 16) (intact : Bool) (s : State) :
    Host.Outcome State Fault Refusal :=
  .next
    (noteChanges s
      (if (s.lane l).link.state = .testing then modLink l (takeTestTally seq.toNat intact) s else s))

end Sys2Proof.Machine
end

