-- ==== Sys2Proof/Machine/Dispatch.lean ====
section
/-! DEFINITION. The dispatch: each command to its meaning, one arm for each row of
spec/opcode_table.json. -/

namespace Sys2Proof.Machine

def exec (i : Instr) (s : State) : Host.Outcome State Fault Refusal :=
  match i with
  | .powerOn kept elapsed => Sys2Proof.Machine.execPowerOn kept elapsed s
  | .deviceReset external => Sys2Proof.Machine.execDeviceReset external s
  | .resetWorkComplete => Sys2Proof.Machine.execResetWorkComplete s
  | .clockSourceSelect external => Sys2Proof.Machine.execClockSourceSelect external s
  | .tableBaseHiWrite value acts => Sys2Proof.Machine.execTableBaseHiWrite value acts s
  | .registerWrite offset value acts agrees => Sys2Proof.Machine.execRegisterWrite offset value acts agrees s
  | .summon mask acts agrees => Sys2Proof.Machine.execSummon mask acts agrees s
  | .attentionRead => Sys2Proof.Machine.execAttentionRead s
  | .attentionMaskWrite value => Sys2Proof.Machine.execAttentionMaskWrite value s
  | .maintenanceInputChange asserted => Sys2Proof.Machine.execMaintenanceInputChange asserted s
  | .unknownRequestKind slot kind rq => Sys2Proof.Machine.execUnknownRequestKind slot kind rq s
  | .loadShow l rq => Sys2Proof.Machine.execLoadShow l rq s
  | .unload l rq => Sys2Proof.Machine.execUnload l rq s
  | .rewind l rq => Sys2Proof.Machine.execRewind l rq s
  | .laneReset l rq => Sys2Proof.Machine.execLaneReset l rq s
  | .setLaneOptions l rq => Sys2Proof.Machine.execSetLaneOptions l rq s
  | .writeSoundMap l rq => Sys2Proof.Machine.execWriteSoundMap l rq s
  | .start l rq => Sys2Proof.Machine.execStart l rq s
  | .startAt l rq => Sys2Proof.Machine.execStartAt l rq s
  | .startAtFiring l => Sys2Proof.Machine.execStartAtFiring l s
  | .cancelStart l rq => Sys2Proof.Machine.execCancelStart l rq s
  | .hold l rq => Sys2Proof.Machine.execHold l rq s
  | .cancelHold l rq => Sys2Proof.Machine.execCancelHold l rq s
  | .resume l rq => Sys2Proof.Machine.execResume l rq s
  | .stop l rq => Sys2Proof.Machine.execStop l rq s
  | .seek l rq => Sys2Proof.Machine.execSeek l rq s
  | .setLevel l rq => Sys2Proof.Machine.execSetLevel l rq s
  | .testIndicators l rq => Sys2Proof.Machine.execTestIndicators l rq s
  | .linkTest l rq => Sys2Proof.Machine.execLinkTest l rq s
  | .installLicence rq agrees => Sys2Proof.Machine.execInstallLicence rq agrees s
  | .removeLicence rq => Sys2Proof.Machine.execRemoveLicence rq s
  | .readLicence rq => Sys2Proof.Machine.execReadLicence rq s
  | .listLicences rq => Sys2Proof.Machine.execListLicences rq s
  | .setClock rq => Sys2Proof.Machine.execSetClock rq s
  | .adjustClock rq => Sys2Proof.Machine.execAdjustClock rq s
  | .readIdentity rq => Sys2Proof.Machine.execReadIdentity rq s
  | .factoryClear rq => Sys2Proof.Machine.execFactoryClear rq s
  | .setInputs rq => Sys2Proof.Machine.execSetInputs rq s
  | .frameBoundary l => Sys2Proof.Machine.execFrameBoundary l s
  | .primed l => Sys2Proof.Machine.execPrimed l s
  | .seekPrimed l => Sys2Proof.Machine.execSeekPrimed l s
  | .holdTaken l => Sys2Proof.Machine.execHoldTaken l s
  | .starveLimitExpiry l => Sys2Proof.Machine.execStarveLimitExpiry l s
  | .linkGraceExpiry l => Sys2Proof.Machine.execLinkGraceExpiry l s
  | .holdLimitExpiry l => Sys2Proof.Machine.execHoldLimitExpiry l s
  | .closingWindowExpired l => Sys2Proof.Machine.execClosingWindowExpired l s
  | .linkTestComplete l => Sys2Proof.Machine.execLinkTestComplete l s
  | .millisecondTick l => Sys2Proof.Machine.execMillisecondTick l s
  | .fadeComplete l => Sys2Proof.Machine.execFadeComplete l s
  | .secondEvent => Sys2Proof.Machine.execSecondEvent s
  | .inputTick contacts => Sys2Proof.Machine.execInputTick contacts s
  | .inputDebounceAccept n contacts => Sys2Proof.Machine.execInputDebounceAccept n contacts s
  | .chatterLeft n contacts => Sys2Proof.Machine.execChatterLeft n contacts s
  | .fetchGrant => Sys2Proof.Machine.execFetchGrant s
  | .fetchCompletion agrees plain => Sys2Proof.Machine.execFetchCompletion agrees plain s
  | .subtitleChunkCompletion agrees plain => Sys2Proof.Machine.execSubtitleChunkCompletion agrees plain s
  | .lineFaultDetected l kind => Sys2Proof.Machine.execLineFaultDetected l kind s
  | .lineGood l => Sys2Proof.Machine.execLineGood l s
  | .lockAchieved l => Sys2Proof.Machine.execLockAchieved l s
  | .lockLost l => Sys2Proof.Machine.execLockLost l s
  | .badReport l => Sys2Proof.Machine.execBadReport l s
  | .headIdentityReport l identity => Sys2Proof.Machine.execHeadIdentityReport l identity s
  | .headStatusReport l ready => Sys2Proof.Machine.execHeadStatusReport l ready s
  | .shownReport l seq => Sys2Proof.Machine.execShownReport l seq s
  | .testTallyReport l seq intact => Sys2Proof.Machine.execTestTallyReport l seq intact s
  | .referenceLock => Sys2Proof.Machine.execReferenceLock s
  | .referenceLoss => Sys2Proof.Machine.execReferenceLoss s
  | .clockSwitchBack => Sys2Proof.Machine.execClockSwitchBack s
  | .journalGap => Sys2Proof.Machine.execJournalGap s
  | .tableAccessFailure dir area => Sys2Proof.Machine.execTableAccessFailure dir area s

end Sys2Proof.Machine
end

