-- ==== Sys2Proof/Safety.lean ====
section
/-! DEFINITION. The words in which the statements speak: the invariants of the part that every step
keeps, what a command leaves unchanged, and the bytes of host memory that it may store to. -/

namespace Sys2Proof.Machine

/-- A property of every lane of a state. -/
abbrev everyLane (P : Lane → Prop) (s : State) : Prop :=
  P s.lanes.a ∧ P s.lanes.b ∧ P s.lanes.c ∧ P s.lanes.d

/-! ## Invariants -/

/-- Host memory keeps its canonical form (log entry 1). -/
abbrev memOk (s : State) : Prop := memWf s.host.mem

/-- The pending hold record, the lane timers, the start second and the waiting-licence flag stand only
in the lane states that the manual gives them (R6, R12, R18, R24 to R26). -/
abbrev laneFieldsOk (x : Lane) : Prop :=
  (x.state ≠ .playing → x.hold = none ∧ x.starveRun = 0 ∧ x.linkGrace = 0) ∧
    (x.state ≠ .held ∧ x.state ≠ .seeking → x.holdTimer = 0) ∧
    (x.state ≠ .armed → x.startSecond = none) ∧
    (x.state ≠ .loading → x.waitingLicence = false)

/-- The entries of an awaiting-confirmation list carry consecutive sequence numbers, and the sequence
counter follows the newest (R117). -/
def consecutive : List Awaiting → Nat → Prop
  | [], _ => True
  | [e], next => nextSeq e.seq = next
  | e :: f :: rest, next => nextSeq e.seq = f.seq ∧ consecutive (f :: rest) next

/-- The list holds at most 8 entries of consecutive sequence numbers, and none while the link is not
LOCKED (R117). -/
abbrev listOk (x : Lane) : Prop :=
  x.link.awaiting.length ≤ Config.awaitingDepth ∧ consecutive x.link.awaiting x.link.seq ∧
    (x.link.state ≠ .locked → x.link.awaiting = [])

/-- A CLOSING tally has an entry of its run left in the list: without one it closes (R101). -/
abbrev windowOk (x : Lane) : Prop :=
  x.tally.phase = .closing → hasMark x.link.awaiting = true

/-- A store's cue records are judged only after its header (R128, R129), and the four stores hold no more
than the 4,194,304 bytes of bitmap memory (R130). -/
abbrev storesOk (x : Lane) : Prop :=
  (∀ pl ∈ allPlaces, (getStore x.overlay pl).recordsJudged = true →
    (getStore x.overlay pl).headerJudged = true) ∧
    x.overlay.current1.heldBytes + x.overlay.current2.heldBytes + x.overlay.next1.heldBytes +
      x.overlay.next2.heldBytes ≤ 4194304

/-- A gain that is mute or lies in −890 to +120 (R149). -/
def gainOk : Gain → Bool
  | .mute => true
  | .level v => decide (-890 ≤ v) && decide (v ≤ 120)

/-- Every target and applied gain of a lane is mute or in range, and every output sample is a 24-bit
value (R149). -/
abbrev soundOk (x : Lane) : Prop :=
  (∀ g ∈ x.sound.applied, gainOk g = true) ∧ (∀ g ∈ x.sound.target, gainOk g = true) ∧
    ∀ ys ∈ x.sound.out, ∀ y ∈ ys, sampleMin ≤ y ∧ y ≤ sampleMax

/-- The essence queues with what is in flight for them hold at most 48 entries (R49, R51). -/
abbrev queuesOk (s : State) : Prop := ∀ l e, queueLoad s l e ≤ Config.queueDepth

/-- The reasons that a device state can carry (R170 to R172). -/
def reasonFits : DeviceState → DeviceReason → Bool
  | .reset, r => decide (r = .none)
  | .waitClock, r => decide (r = .none)
  | .waitTable, r => !decide (r = .haltRead) && !decide (r = .haltWrite)
  | .running, r => decide (r = .none)
  | .halted, r => decide (r = .haltRead) || decide (r = .haltWrite)

/-- The reason fits the device state, a failed area stands only in HALTED, and a stored TABLE_BASE_HI
write waits only in WAIT_CLOCK (R169 to R172). -/
abbrev deviceFieldsOk (s : State) : Prop :=
  reasonFits s.device s.reason = true ∧ (s.haltArea.isSome = true ↔ s.device = .halted) ∧
    (s.hiStored = true → s.device = .waitClock)

/-- A lane's lists have the lengths that its Lane Status Record lays out (R94, R142, R29). -/
abbrev laneShapeOk (x : Lane) : Prop :=
  x.sound.trims.length = 24 ∧ x.sound.target.length = 24 ∧ x.sound.applied.length = 24 ∧
    (x.sound.stagedTrims.all fun t => decide (t.length = 24)) = true ∧
    x.tally.entries.length ≤ 8 ∧
    (x.faultRecord.all fun r => decide (r.licences.length ≤ 8)) = true

/-- The lists that the records lay out have the manual's lengths, and the write index lies in the ring
(R164, R177, R179): every record that the part writes then stays within its area. -/
abbrev shapeOk (s : State) : Prop :=
  s.inputs.length = 8 ∧ s.journal.writeIndex < 256 ∧ everyLane laneShapeOk s

/-- No two records of the Licence Table have the same licence id (R74). -/
abbrev recordsDistinct (records : List (Option Licence)) : Prop :=
  (records.filterMap fun r => r.map Licence.id).Nodup

/-- No key id is held in two key slots (R75). -/
abbrev keysDistinct (keys : List (Option KeySlot)) : Prop :=
  (keys.filterMap fun k => k.map KeySlot.keyId).Nodup

/-- Whether a lane's tally holds a licence RESERVED (R86). -/
def holdsReserved (x : Lane) (id : Nat) : Bool :=
  x.tally.entries.any fun e => decide (e.licence = id) && decide (e.status = .reserved)

/-- The number of lanes whose tally holds a licence RESERVED (R86). -/
def lanesReserving (s : State) (id : Nat) : Nat :=
  (allLanes.filter fun l => holdsReserved (s.lane l) id).length

/-- What a lane's tally is beside its lane: ABSENT in EMPTY, BUILT from LOADING to ARMED, RUNNING in PLAYING,
HELD and SEEKING, CLOSING or CLOSED in STOPPING, ENDED and FAULT; every entry PENDING in BUILT, none RESERVED
outside RUNNING and CLOSING; its licences each once, installed, and the loaded show's own (R5, R74, R94 to
R96, R100, R102). -/
abbrev tallyFits (records : List (Option Licence)) (x : Lane) : Prop :=
  (x.state = .empty → x.tally.phase = .absent) ∧
    (x.state = .loading ∨ x.state = .ready ∨ x.state = .armed → x.tally.phase = .built) ∧
    (x.state = .playing ∨ x.state = .held ∨ x.state = .seeking → x.tally.phase = .running) ∧
    (x.state = .stopping ∨ x.state = .ended ∨ x.state = .fault →
      x.tally.phase = .closing ∨ x.tally.phase = .closed) ∧
    (x.tally.phase = .absent → x.tally.entries = []) ∧
    (x.tally.phase = .built → ∀ e ∈ x.tally.entries, e.status = .pending) ∧
    (x.tally.phase ≠ .running → x.tally.phase ≠ .closing →
      ∀ e ∈ x.tally.entries, e.status ≠ .reserved) ∧
    (x.tally.entries.map TallyEntry.licence).Nodup ∧
    ∀ e ∈ x.tally.entries, (findLicence records e.licence).isSome = true ∧
      (x.loaded.map fun sh => sh.reels.any (reelUses e.licence)) = some true

/-- The Licence Table: licence ids and key ids each once, the in_flight of each licence the number of lanes
whose tally holds it RESERVED (R86), counted + in_flight never above a non-zero allowance (R85), and the
booth clock and every window in booth clock seconds (R74, R88, R179). -/
abbrev licencesOk (s : State) : Prop :=
  recordsDistinct s.licences.records ∧ keysDistinct s.licences.keys ∧
    (∀ x, some x ∈ s.licences.records → x.inFlight = lanesReserving s x.id ∧
      (x.allowance ≠ 0 → x.counted + x.inFlight ≤ x.allowance) ∧
      x.notBefore < 2 ^ 40 ∧ x.notAfter < 2 ^ 40) ∧
    s.licences.clock < 2 ^ 40 ∧ everyLane (tallyFits s.licences.records) s

/-! ## What a command leaves -/

/-- A lane apart from the update count of its Lane Status Record (R176). -/
def bare (x : Lane) : Lane := { x with statusCount := 0 }

/-- The lanes other than `l` are unchanged. -/
abbrev lanesKept (l : LaneId) (s t : State) : Prop := ∀ m, m ≠ l → t.lane m = s.lane m

/-- The device state, the registers but ATTENTION, and the maintenance level are unchanged. -/
abbrev registersKept (s t : State) : Prop :=
  t.device = s.device ∧ t.reason = s.reason ∧ t.haltArea = s.haltArea ∧ t.tableLo = s.tableLo ∧
    t.tableHi = s.tableHi ∧ t.hiStored = s.hiStored ∧ t.attentionMask = s.attentionMask ∧
    t.summonFlags = s.summonFlags ∧ t.readData = s.readData ∧ t.maintenance = s.maintenance

/-- The building inputs, the fetch engine and the waiting commands are unchanged. -/
abbrev unitsKept (s t : State) : Prop :=
  t.inputs = s.inputs ∧ t.inputTicks = s.inputTicks ∧ t.engine = s.engine ∧ t.pending = s.pending

/-- The Clock Unit is unchanged but for a switch back of its source (R156). -/
abbrev clockKept (s t : State) : Prop :=
  t.clockUnit.external = s.clockUnit.external ∧ t.clockUnit.refLocked = s.clockUnit.refLocked ∧
    (s.clockUnit.source ≠ .holdover → t.clockUnit.source = s.clockUnit.source)

/-- Everything outside lane `l` but the Licence Table, the journal, ATTENTION and host memory is
unchanged, the clock source apart from a switch back. -/
abbrev restKept (l : LaneId) (s t : State) : Prop :=
  lanesKept l s t ∧ registersKept s t ∧ unitsKept s t ∧ clockKept s t

/-- An address outside a list of areas (address and size). -/
abbrev outside (areas : List (Nat × Nat)) (a : Nat) : Prop :=
  ∀ r ∈ areas, a < r.1 ∨ r.1 + r.2 ≤ a

/-- Every byte of host memory outside the areas reads as before, and the failing ranges stand. -/
abbrev memKept (areas : List (Nat × Nat)) (s t : State) : Prop :=
  (∀ a, outside areas a → memRead t.host.mem a = memRead s.host.mem a) ∧
    t.host.readFails = s.host.readFails ∧ t.host.writeFails = s.host.writeFails

/-- The slot's area (R174). -/
def slotArea (s : State) (n : SlotId) : Nat × Nat := (slotAddr s n, 64)

/-- The area of a lane's Lane Status Record (R176). -/
def statusArea (s : State) (l : LaneId) : Nat × Nat := (laneStatusAddr s l, laneStatusSize)

/-- The areas that a journal entry and a Device Status Record write touch: the header's write index and
withheld count, the Device Status Record, the ring (R176 to R178). -/
def reportAreas (s : State) : List (Nat × Nat) :=
  [(tableAddr s + 4, 4), (deviceStatusAddr s, deviceStatusSize), (journalAddr s 0, 8192)]

/-- The areas that a request of a lane's slot may touch. -/
def requestAreas (s : State) (l : LaneId) : List (Nat × Nat) :=
  slotArea s (.lane l) :: statusArea s l :: reportAreas s

/-- The areas that a lane event outside the slots may touch. -/
def eventAreas (s : State) (l : LaneId) : List (Nat × Nat) := statusArea s l :: reportAreas s

/-- The cue table part words of a lane (R157): entries 0 to 31, 8 bytes each. -/
def partAreas (x : Lane) : List (Nat × Nat) :=
  match cueTableOf x with
  | none => []
  | some t => (List.range 32).map fun i => (partAddr t i, 8)

/-- The areas that a device request may touch besides its buffer: its slot, the reports, every Lane
Status Record and every lane's cue table part words. -/
def deviceAreas (s : State) : List (Nat × Nat) :=
  slotArea s .device :: reportAreas s ++ allLanes.map (statusArea s) ++
    allLanes.flatMap fun l => partAreas (s.lane l)

/-- Neither a journal entry nor a Device Status Record write was made. -/
abbrev unreported (s t : State) : Prop := t.journal = s.journal ∧ t.statusCount = s.statusCount

/-- The show, P, the queues, the wanted records, the overlay, the marks, the last real frame and the fetch
generation are unchanged. -/
abbrev materialKept (x y : Lane) : Prop :=
  y.loaded = x.loaded ∧ y.p = x.p ∧ y.tracks = x.tracks ∧ y.subWanted = x.subWanted ∧
    y.overlay = x.overlay ∧ y.scanner = x.scanner ∧ y.lastReal = x.lastReal ∧
    y.generation = x.generation

/-- The options, the fader level, the contact outputs and the fault record are unchanged. -/
abbrev settingsKept (x y : Lane) : Prop :=
  y.options = x.options ∧ y.level = x.level ∧ y.contacts = x.contacts ∧ y.faultRecord = x.faultRecord

/-- The sound map with its staged sections and the clip count are unchanged. -/
abbrev mapKept (x y : Lane) : Prop :=
  y.sound.stage = x.sound.stage ∧ y.sound.routing = x.sound.routing ∧ y.sound.trims = x.sound.trims ∧
    y.sound.stagedRouting = x.sound.stagedRouting ∧ y.sound.stagedTrims = x.sound.stagedTrims ∧
    y.sound.clipCount = x.sound.clipCount

/-- The pending hold record is absent and the three lane timers stand at 0. -/
abbrev timersClear (x : Lane) : Prop :=
  x.hold = none ∧ x.starveRun = 0 ∧ x.linkGrace = 0 ∧ x.holdTimer = 0

/-- The outputs' targets are those of a lane that is playing, or not (R148). -/
abbrev aimedFor (playing : Bool) (x : Lane) : Prop :=
  x.sound.target = targetGains x.level x.sound.trims playing

/-! ## Licences -/

/-- Whether a tally is one that closing at once closes: RUNNING or CLOSING (R103, R104). -/
def tallyOpen (t : Tally) : Bool := decide (t.phase = .running) || decide (t.phase = .closing)

/-- The records with one showing of each RESERVED licence of a tally returned (R86, R102). -/
def recordsReleased (t : Tally) (records : List (Option Licence)) : List (Option Licence) :=
  (reservedLicences t).foldl (fun r id => changeLicence r id returnShowing) records

/-- The records with one showing of each licence of a list reserved (R85). -/
def recordsReserved (ids : List Nat) (records : List (Option Licence)) : List (Option Licence) :=
  ids.foldl (fun r id => changeLicence r id takeShowing) records

/-- The Licence Table when an open tally of a lane is closed at once (R103, R104). -/
def licencesReleased (x : Lane) (t : LicenceTable) : LicenceTable :=
  if tallyOpen x.tally then { t with records := recordsReleased x.tally t.records } else t

/-- The records with every derived state evaluated against a clock (R76, R77). -/
def recordsEvaluated (valid : Bool) (clock : Nat) (records : List (Option Licence)) :
    List (Option Licence) :=
  records.map fun r => r.map fun x => { x with state := derivedState valid clock x }

/-- The Licence Table grants a lane one showing of a licence (R85, tests 1 to 5). -/
abbrev grants (l : LaneId) (head : Option Word64) (x : Licence) : Prop :=
  x.state ≠ .clockUnknown ∧ x.state ≠ .waiting ∧ x.state ≠ .closed ∧ admitsLane x l = true ∧
    permitsHead x head = true ∧
    x.counted + x.inFlight < (if x.allowance = 0 then 65535 else x.allowance)

/-- Preconditions 2 to 6 of R10. -/
abbrev mayStart (l : LaneId) (s : State) : Prop :=
  emergencyBlocks s l = false ∧ (s.lane l).sound.stage = .complete ∧ (s.lane l).link.state = .locked ∧
    (s.lane l).link.headStatus = .ready ∧
    ∀ e ∈ (s.lane l).tally.entries, ∀ x, findLicence s.licences.records e.licence = some x →
      grants l (s.lane l).link.headId x

/-- A link as power-on and Device Reset leave it, its line judged at once (R107, R108, log entry 25). -/
abbrev linkAtReset (line : Option LineFault) (k : Link) : Prop :=
  k.line = line ∧ k.state = (if line = none then .training else .down) ∧ k.faultKind = line ∧
    k.lockFlag = false ∧ k.headId = none ∧ k.headStatus = .unknown ∧ k.frameHeld = false ∧
    k.seq = 0 ∧ k.awaiting = [] ∧ k.errorCount = 0 ∧ k.unseen = 0 ∧ k.late = 0 ∧
    k.test = ⟨0, 0, 0, []⟩ ∧ k.heldTest = ⟨.none, 0, 0⟩ ∧
    k.forward = (if line = none then .training false else .nothing)

/-- The sound map, the gains, the clip count and the period as power-on and Lane Reset leave them: the empty
list stands for source samples of zero (R142, R147). -/
abbrev soundAtReset (x : Sound) : Prop :=
  x.stage = .noSection ∧ x.routing = List.replicate 24 .none ∧
    x.trims = List.replicate 24 ⟨0, false⟩ ∧ x.stagedRouting = none ∧ x.stagedTrims = none ∧
    x.target = List.replicate 24 .mute ∧ x.applied = List.replicate 24 .mute ∧ x.clipCount = 0 ∧
    x.period = List.replicate 24 []

/-- What a run start makes of a lane (R11, R96, R150, R157). -/
abbrev runBegun (x y : Lane) : Prop :=
  y.state = .playing ∧ timersClear y ∧ y.startSecond = none ∧ y.lastCause = .none ∧
    y.lastReal = none ∧ y.p = x.p ∧ y.loaded = x.loaded ∧ y.tracks = x.tracks ∧
    y.subWanted = x.subWanted ∧ y.overlay = x.overlay ∧ y.link = x.link ∧
    y.generation = x.generation ∧ y.indicators = x.indicators ∧
    y.tally =
      { x.tally with
        phase := .running
        window := 0
        endCause := .none
        entries := x.tally.entries.map fun e =>
          if e.status = .pending then { e with status := .reserved } else e } ∧
    y.scanner.marks = List.replicate 32 .clear ∧ aimedFor true y ∧
    y.sound.applied = y.sound.target ∧ mapKept x y ∧ settingsKept x y

/-- The state of a store asked for a reel and a subtitle track of a show (R127). -/
def askedState (sh : Show) (reel : Nat) (t : Subtitle) : StoreState :=
  match (nthReel sh reel).bind fun r => r.subtitles.get t with
  | none => .none
  | some plan => if plan.chunks = 0 then .lost else .fetching

/-- The four stores are asked for a reel and the reel after it (R127). -/
abbrev storesAsked (sh : Show) (reel : Nat) (o : Overlay) : Prop :=
  o.current1.state = askedState sh reel .one ∧ o.current2.state = askedState sh reel .two ∧
    o.next1.state = askedState sh (reel + 1) .one ∧ o.next2.state = askedState sh (reel + 1) .two

/-- An essence track flushed to its first position from a reel on (R64). -/
def flushedTrack (sh : Show) (e : Essence) (reel : Nat) : EssenceTrack :=
  ⟨[], firstPosition sh e reel, false, none⟩

/-- The three essence tracks flushed to their first positions from a reel on (R64). -/
def flushedTracks (sh : Show) (reel : Nat) : PerEssence EssenceTrack :=
  ⟨flushedTrack sh .picture reel, flushedTrack sh .main reel, flushedTrack sh .aux reel⟩

/-! ## Answers (R175) -/

/-- The slot holds the answer, and its ATTENTION bit is set. -/
abbrev answered (n : SlotId) (kind : Nat) (rq : Req) (a : Answer) (s t : State) : Prop :=
  memReadBytes t.host.mem (slotAddr s n) 64 = answerBytes kind rq a ∧
    t.attention &&& attentionBit (slotIndex n) ≠ 0

/-- The parameter block as the part copies it, the slot standing TAKEN (R175, steps 1 and 3). -/
def blockCopy (n : SlotId) (rq : Req) (s : State) : Except Answer (List Byte) :=
  readBlock (markTaken n s).host rq

/-- A request of a lane's slot that reaches its owner: in RUNNING, its block copied (R174, R175). -/
abbrev reaches (n : SlotId) (rq : Req) (s : State) : Prop :=
  s.device = .running ∧ ∃ b, blockCopy n rq s = .ok b

/-- A request of a lane's slot served: the slot holds the answer, everything outside the lane stands, and
host memory changes only in the request's areas and those named besides. -/
abbrev laneServed (l : LaneId) (kind : Nat) (rq : Req) (a : Answer) (more : List (Nat × Nat))
    (s t : State) : Prop :=
  answered (.lane l) kind rq a s t ∧ restKept l s t ∧
    (shapeOk s → memKept (requestAreas s l ++ more) s t)

/-- A request of the device slot served: the slot holds the answer, the registers stand, the fetch engine
and the waiting commands too, and host memory changes only in the request's areas and those named. -/
abbrev deviceServed (kind : Nat) (rq : Req) (a : Answer) (more : List (Nat × Nat))
    (s t : State) : Prop :=
  answered .device kind rq a s t ∧ registersKept s t ∧ t.engine = s.engine ∧ t.pending = s.pending ∧
    (shapeOk s → memKept (deviceAreas s ++ more) s t)

/-- A lane request refused: the answer stands in the slot, and the lane and the Licence Table are as they
were. -/
abbrev laneRefused (l : LaneId) (kind : Nat) (rq : Req) (a : Answer) (s t : State) : Prop :=
  bare (t.lane l) = bare (s.lane l) ∧ t.licences = s.licences ∧ laneServed l kind rq a [] s t

/-- A device request refused: the answer stands in the slot, and the Licence Table, the lanes, the inputs
and the Clock Unit are as they were. -/
abbrev deviceRefused (kind : Nat) (rq : Req) (a : Answer) (s t : State) : Prop :=
  t.licences = s.licences ∧ t.lanes = s.lanes ∧ t.inputs = s.inputs ∧ t.clockUnit = s.clockUnit ∧
    deviceServed kind rq a [] s t

/-- The checks that Load Show makes on every reel, in the order of R4, each with its refusal. -/
def reelChecks (raw : RawShow) : List ((RawReel → Bool) × Reason) :=
  [(fun r => (rawTrack r 0).isSome, .noPicture), (kindsAgree, .trackKind),
    (fun r => (presentTracks r).all fun d => decide (d.rate = raw.rate), .editRate),
    (rangeOk, .range), (sampleRateOk (rawSampleRate raw.reels), .sampleRate), (channelsOk, .channels),
    (eyesOk, .eyes)]

/-- The first of a list that fails a test stands at a place. -/
abbrev firstBad {α : Type} (ok : α → Bool) (xs : List α) (i : Nat) : Prop :=
  i < xs.length ∧ (∀ x, xs[i]? = some x → ok x = false) ∧
    ∀ j < i, ∀ x, xs[j]? = some x → ok x = true

/-- The reason with which the Licence Table refuses a lane a licence: the first failing test of R85. -/
abbrev reservationRefused (l : LaneId) (head : Option Word64) (x : Licence) (why : Reason) : Prop :=
  why =
      (if x.state = .clockUnknown then .clock
      else if x.state = .waiting ∨ x.state = .closed then .notOpen
      else if admitsLane x l = false then .lane
      else if permitsHead x head = false then .headNotPermitted
      else .allowance) ∧
    ¬ grants l head x

/-- The first licence of a tally, in tally order, that the Licence Table refuses, with its reason (R85). -/
abbrev startRefusedFor (l : LaneId) (s : State) (id : Nat) (why : Reason) : Prop :=
  ∃ before e after x, (s.lane l).tally.entries = before ++ e :: after ∧ e.licence = id ∧
    findLicence s.licences.records id = some x ∧
    reservationRefused l (s.lane l).link.headId x why ∧
    ∀ f ∈ before, ∀ y, findLicence s.licences.records f.licence = some y →
      grants l (s.lane l).link.headId y

/-- The terms that check 2 of R78 asks of a package. -/
abbrev termsHold (k : Package) : Prop :=
  1 ≤ k.issue ∧ 1 ≤ k.percent ∧ k.percent ≤ 100 ∧ 1 ≤ k.laneMask ∧ k.laneMask ≤ 15 ∧
    k.headCount ≤ 4 ∧ 1 ≤ k.keyCount ∧ k.keyCount ≤ 16 ∧ k.notBefore < k.notAfter ∧
    (∀ e ∈ k.keys, e.1 ≠ 0) ∧ (k.keys.map Prod.fst).Nodup

/-- Whether a key slot of a licence other than `id` holds a key id (R78, check 6). -/
def heldElsewhere (keys : List (Option KeySlot)) (id keyId : Nat) : Bool :=
  keys.any fun k => k.any fun v => decide (v.keyId = keyId) && decide (v.licence ≠ id)

/-- Whether the table has a record and the key slots that a package needs, its own old slots counted as
free (R78, check 7). -/
abbrev hasRoom (t : LicenceTable) (k : Package) : Prop :=
  ((findLicence t.records k.id).isSome = true ∨ none ∈ t.records) ∧
    k.keys.length ≤
      (t.keys.filter fun y => (y.map fun v => decide (v.licence = k.id)).getD true).length

/-- Whether a lane request of a kind is accepted in a lane as it stands, the refusals with STATE apart
from which each kind's own rule refuses with another code (R3 to R33, R122, R143). -/
def acceptedIn (kind : Nat) (x : Lane) : Bool :=
  match kind with
  | 1 => decide (x.state = .empty) && !decide (x.link.state = .testing)
  | 2 => !decide (x.state = .empty)
  | 3 => decide (x.state = .ended) && !decide (x.link.state = .testing)
  | 5 => decide (x.state = .empty) || decide (x.state = .ready) || decide (x.state = .ended)
  | 6 => !decide (x.state = .fault) &&
      (!(decide (x.state = .playing) || decide (x.state = .held) || decide (x.state = .seeking) ||
        decide (x.state = .stopping)) || x.options.liveUpdate)
  | 7 => decide (x.state = .ready)
  | 8 => decide (x.state = .ready)
  | 9 => decide (x.state = .armed)
  | 10 => decide (x.state = .playing)
  | 11 => decide (x.state = .playing) && x.hold.isSome
  | 12 => decide (x.state = .held)
  | 13 => decide (x.state = .playing) || decide (x.state = .held) || decide (x.state = .seeking) ||
      decide (x.state = .armed)
  | 14 => decide (x.state = .held)
  | 15 => !decide (x.state = .empty)
  | 17 => (decide (x.state = .empty) || decide (x.state = .ended)) && !decide (x.link.state = .testing)
  | _ => true

/-! ## The Lane Status Record (R176, R179) -/

/-- A field of a record: its offset, its size in bytes and its value. -/
structure RecordField where
  offset : Nat
  size : Nat
  value : Nat
deriving DecidableEq, Repr

/-- A frame field: FFFFFFFFH without a value (R179). -/
def frameOr (f : Option Nat) : Nat := f.getD 0xFFFFFFFF

/-- The value of a signed two-byte field (R179). -/
def signed16 (v : Int) : Nat := (v % 65536).toNat

/-- The fields of an essence track at an offset of the record. -/
def trackFields (o : Nat) (s : State) (l : LaneId) (e : Essence) : List RecordField :=
  let t := (s.lane l).tracks.get e
  let through := releasedThrough s l e
  [⟨o, 1, ((waitReason s l e).map WaitReason.ctorIdx).getD 255⟩, ⟨o + 1, 1, t.queue.length⟩,
    ⟨o + 2, 1, (t.fetch.map Position.reel).getD 0⟩,
    ⟨o + 4, 4, frameOr (t.fetch.map Position.frame)⟩,
    ⟨o + 8, 1, (through.map Position.reel).getD 0⟩,
    ⟨o + 12, 4, frameOr (through.map Position.frame)⟩]

/-- The fields of a wanted record at an offset of the record. -/
def wantedFields (o : Nat) (w : Option Wanted) : List RecordField :=
  [⟨o, 1, flag w.isSome⟩, ⟨o + 1, 1, flag (w.any Wanted.announced)⟩,
    ⟨o + 2, 1, (w.map Wanted.reel).getD 0⟩, ⟨o + 4, 4, frameOr (w.map Wanted.frame)⟩]

/-- The fields of a cue store place at an offset of the record; a place in NONE shows reel 0 (log entry
34). -/
def storeFields (o : Nat) (st : Store) : List RecordField :=
  [⟨o, 1, if st.state = .none then 0 else st.reel⟩, ⟨o + 1, 1, st.state.ctorIdx⟩,
    ⟨o + 2, 1, st.loss.ctorIdx⟩, ⟨o + 4, 2, st.cues.length⟩, ⟨o + 6, 2, st.malformed⟩,
    ⟨o + 8, 2, st.overCap⟩, ⟨o + 10, 2, st.outsideReel⟩, ⟨o + 12, 2, st.forMemory⟩,
    ⟨o + 16, 4, st.heldBytes⟩]

/-- The fields of the link. -/
def linkFields (k : Link) : List RecordField :=
  [⟨0x148, 1, k.state.ctorIdx⟩, ⟨0x149, 1, lineFaultCode k.faultKind⟩, ⟨0x14A, 1, flag k.lockFlag⟩,
    ⟨0x14B, 1, k.headStatus.ctorIdx⟩, ⟨0x14C, 1, k.errorCount⟩, ⟨0x14D, 1, k.awaiting.length⟩,
    ⟨0x14E, 1, k.heldTest.result.ctorIdx⟩, ⟨0x14F, 1, flag k.headId.isSome⟩,
    ⟨0x150, 8, (k.headId.map BitVec.toNat).getD 0⟩, ⟨0x158, 2, k.seq⟩,
    ⟨0x15A, 2, (k.awaiting.head?.map Awaiting.seq).getD 0⟩,
    ⟨0x15C, 2, (k.awaiting.getLast?.map Awaiting.seq).getD 0⟩, ⟨0x160, 2, k.unseen⟩,
    ⟨0x162, 2, k.late⟩, ⟨0x164, 2, k.test.left⟩, ⟨0x166, 1, k.test.settle⟩,
    ⟨0x168, 2, k.test.errors⟩, ⟨0x16A, 2, k.heldTest.errors⟩, ⟨0x16C, 2, k.heldTest.sent⟩]

/-- The fields of the tally. -/
def tallyFields (t : Tally) : List RecordField :=
  [⟨0x170, 1, t.phase.ctorIdx⟩, ⟨0x171, 1, t.endCause.ctorIdx⟩, ⟨0x172, 1, t.window⟩,
    ⟨0x173, 1, t.entries.length⟩] ++
    t.entries.zipIdx.flatMap fun e =>
      [⟨0x178 + 16 * e.2, 4, e.1.licence⟩, ⟨0x17C + 16 * e.2, 4, e.1.total⟩,
        ⟨0x180 + 16 * e.2, 4, e.1.threshold⟩, ⟨0x184 + 16 * e.2, 3, e.1.confirmed⟩,
        ⟨0x187 + 16 * e.2, 1, e.1.status.ctorIdx⟩]

/-- The fields of the fault record; without one the two frame fields hold FFFFFFFFH (log entry 34). -/
def faultFields : Option FaultRecord → List RecordField
  | none => [⟨0x204, 4, 0xFFFFFFFF⟩, ⟨0x208, 4, 0xFFFFFFFF⟩]
  | some f =>
    [⟨0x200, 1, 1⟩, ⟨0x201, 1, f.cause.ctorIdx⟩, ⟨0x202, 1, f.track.ctorIdx⟩,
      ⟨0x203, 1, f.licences.length⟩, ⟨0x204, 4, f.p⟩, ⟨0x208, 4, f.frame⟩,
      ⟨0x20C, 4, f.snapshot.toNat⟩] ++
      f.licences.zipIdx.map fun e => ⟨0x210 + 4 * e.2, 4, e.1⟩

/-- The fields of the pending hold record. -/
def holdFields : Option HoldRecord → List RecordField
  | none => []
  | some h =>
    [⟨0x20, 1, 1⟩, ⟨0x21, 1, h.cause.ctorIdx⟩, ⟨0x22, 1, holdWhenCode h.when_⟩,
      ⟨0x23, 1, holdReel h.when_⟩, ⟨0x24, 1, h.merged⟩]

/-- The fields of the Sound Renderer. -/
def soundFields (x : Sound) : List RecordField :=
  [⟨0x35, 1, mapStateCode x.stage⟩,
    ⟨0x36, 1, flag x.stagedRouting.isSome + 2 * flag x.stagedTrims.isSome⟩, ⟨0x38, 2, x.clipCount⟩,
    ⟨0x260, 4, (x.trims.zipIdx.map fun e => if e.1.mute then 2 ^ e.2 else 0).sum⟩] ++
    (x.applied.zipIdx.map fun e =>
      ⟨0x40 + 2 * e.2, 2, match e.1 with | .mute => 0x8000 | .level v => signed16 v⟩) ++
    x.trims.zipIdx.map fun e => ⟨0x230 + 2 * e.2, 2, signed16 e.1.trim⟩

/-- The fields of a lane's own registers; without a show N, the current reel and the reel count are 0 (log
entry 48). -/
def laneFields (x : Lane) : List RecordField :=
  [⟨0x00, 4, x.statusCount⟩, ⟨0x04, 1, x.state.ctorIdx⟩, ⟨0x05, 1, x.lastCause.ctorIdx⟩,
    ⟨0x06, 1, flag x.waitingLicence + 2 * flag x.scanner.readError +
      4 * flag (routingWritten x.sound.stage)⟩,
    ⟨0x08, 4, x.p⟩, ⟨0x0C, 4, (x.loaded.map Show.total).getD 0⟩,
    ⟨0x10, 1, (x.loaded.map fun sh => currentReel sh x.p).getD 0⟩,
    ⟨0x11, 1, (x.loaded.map fun sh => sh.reels.length).getD 0⟩, ⟨0x12, 1, laneEditRate x⟩,
    ⟨0x14, 4, laneSampleRate x⟩, ⟨0x18, 8, x.startSecond.getD 0⟩, ⟨0x28, 2, x.starveRun⟩,
    ⟨0x2A, 2, x.linkGrace⟩, ⟨0x2C, 4, x.holdTimer⟩, ⟨0x30, 2, x.indicators.current.toNat⟩,
    ⟨0x32, 2, x.indicators.held.toNat⟩, ⟨0x34, 1, x.level⟩, ⟨0x3C, 4, frameOr x.lastReal⟩,
    ⟨0x70, 1, x.contacts.toNat⟩, ⟨0x71, 1, x.scanner.writePending.countP id⟩,
    ⟨0x140, 4, freeBitmap x.overlay⟩, ⟨0x144, 2, x.overlay.tileMap.length⟩,
    ⟨0x146, 1, x.overlay.active.one⟩, ⟨0x147, 1, x.overlay.active.two⟩]

/-- Every field of a lane's Lane Status Record with its value, as Record Layouts gives them (R176). -/
def laneRecordFields (s : State) (l : LaneId) : List RecordField :=
  let x := s.lane l
  laneFields x ++ holdFields x.hold ++ soundFields x.sound ++ linkFields x.link ++
    tallyFields x.tally ++ faultFields x.faultRecord ++ trackFields 0x80 s l .picture ++
    trackFields 0x90 s l .main ++ trackFields 0xA0 s l .aux ++ wantedFields 0xB0 x.tracks.picture.wanted ++
    wantedFields 0xB8 x.tracks.main.wanted ++ wantedFields 0xC0 x.tracks.aux.wanted ++
    wantedFields 0xC8 x.subWanted.one ++ wantedFields 0xD0 x.subWanted.two ++
    storeFields 0xE0 x.overlay.current1 ++ storeFields 0xF8 x.overlay.current2 ++
    storeFields 0x110 x.overlay.next1 ++ storeFields 0x128 x.overlay.next2

/-- The 1,024 bytes show the lane: each field holds its value, in as many bytes as it has, and every byte
without a field is 0 (R176, R179; log entry 62). -/
abbrev laneRecordShows (s : State) (l : LaneId) (bs : List Byte) : Prop :=
  (∀ f ∈ laneRecordFields s l, field bs f.offset f.size = f.value % 256 ^ f.size) ∧
    ∀ i < 1024, (∀ f ∈ laneRecordFields s l, i < f.offset ∨ f.offset + f.size ≤ i) →
      bs.getD i 0 = 0

/-- The lane's Lane Status Record in host memory shows the lane (R176). -/
abbrev statusShows (s : State) (l : LaneId) : Prop :=
  laneRecordShows s l (memReadBytes s.host.mem (laneStatusAddr s l) 1024)

/-! ## Building inputs -/

/-- What an accepted active level makes of the lanes: those outside the mask stand; an EMERGENCY input ends
a running lane at once, returns an ARMED lane to READY and sets the emergency pattern; a HOLD input makes
or merges a NOW hold in PLAYING; a NONE or REPORT input does nothing (R18, R27, R163, R167). -/
abbrev lanesActed (set : InputSettings) (s t : State) : Prop :=
  (set.function = .none ∨ set.function = .report → t.lanes = s.lanes) ∧
    ∀ l,
      (set.mask.getLsbD (laneIndex l) = false → t.lane l = s.lane l) ∧
        (set.mask.getLsbD (laneIndex l) = true → set.function = .emergency →
          (t.lane l).contacts =
              ((s.lane l).contacts &&& ~~~(s.lane l).options.emergencyMask) |||
                ((s.lane l).options.emergencyValue &&& (s.lane l).options.emergencyMask) ∧
            (inRunStates (s.lane l).state = true →
              (t.lane l).state = .ended ∧ (t.lane l).lastCause = .emergency ∧
                timersClear (t.lane l) ∧ everyMute (t.lane l).sound.applied = true) ∧
            ((s.lane l).state = .armed →
              (t.lane l).state = .ready ∧ (t.lane l).startSecond = none) ∧
            (inRunStates (s.lane l).state = false → (s.lane l).state ≠ .armed →
              (t.lane l).state = (s.lane l).state)) ∧
        (set.mask.getLsbD (laneIndex l) = true → set.function = .hold →
          ((s.lane l).state ≠ .playing → t.lane l = s.lane l) ∧
            ((s.lane l).state = .playing →
              ∃ h, t.lane l = { s.lane l with hold := some h } ∧
                ((s.lane l).hold = none → h = ⟨.inputHold, .now, 0⟩) ∧
                ∀ g, (s.lane l).hold = some g → h = ⟨g.cause, .now, min 255 (g.merged + 1)⟩))

/-- The state with the journal `n` entries further, as an entry written next carries it. -/
def entriesOn (n : Nat) (s : State) : State :=
  { s with journal := { s.journal with seq := (s.journal.seq + n) % 2 ^ 32 } }

/-- The journal entry `n` places after the write index of `s` is the one given (R177). -/
abbrev journaled (n : Nat) (e : JournalEntry) (s t : State) : Prop :=
  memReadBytes t.host.mem (journalAddr s ((s.journal.writeIndex + n) % 256)) 32 =
    entryBytes (entriesOn n s) e

/-- The ring has room for `n` entries by the read index last read, and nothing is withheld (R177). -/
abbrev ringRoom (n : Nat) (s : State) : Prop :=
  s.device = .running ∧ s.journal.withheld = 0 ∧
    ∀ k < n, (s.journal.writeIndex + 1 + k) % 256 ≠ s.journal.readIndex

/-- The changes that input `i` hands on reach the journal, an INPUT entry each but for a NONE input, and,
where the active level is accepted, its lanes (R167). -/
abbrev handedOn (i : Nat) (set : InputSettings) (es : List FilterEvent) (s t : State) : Prop :=
  ((∀ e ∈ es, acceptsActive e = false) → t.lanes = s.lanes ∧ t.licences = s.licences) ∧
    (s.device ≠ .halted → (∃ e ∈ es, acceptsActive e = true) → lanesActed set s t) ∧
    (shapeOk s → ringRoom es.length s → set.function ≠ .none →
      ∀ k e, es[k]? = some e →
        journaled k
          ⟨.input, none, 0,
            [i, set.function.ctorIdx, e.change.ctorIdx, e.before.ctorIdx, e.after.ctorIdx]⟩ s t) ∧
    (set.function = .none → t.journal = s.journal)

/-- The stable count of an input once its contact is sampled; the first sample after a restart or a reset
begins it (R165, R168, log entry 22). -/
def sampledCount (closed : Bool) (x : Input) : Nat :=
  if x.filter.fresh then 0
  else if readContact x.settings.polarity closed = x.filter.raw then min 1000 (x.filter.stable + 1) else 0

/-- An input whose contact has been sampled, its level and its history standing (R165). -/
def sampledInput (closed : Bool) (x : Input) : Input :=
  { x with
    filter :=
      { x.filter with
        raw := readContact x.settings.polarity closed
        stable := sampledCount closed x
        fresh := false } }

/-- An input tick only samples the input: in CHATTERING its stable count stays short of 1,000, and otherwise
it stays short of the debounce or the level is the raw sample already (R165, R166). -/
abbrev onlySampled (closed : Bool) (x : Input) : Prop :=
  (x.filter.chattering = true → sampledCount closed x < 1000) ∧
    (x.filter.chattering = false →
      sampledCount closed x < x.settings.debounce ∨
        levelOf (readContact x.settings.polarity closed) = x.filter.level)

/-- What an input tick makes of every input: the raw sample is its contact, its settings stand, and an input
that is only sampled is nothing but that (R165, R166). -/
abbrev inputsSampled (contacts : BitVec 8) (s t : State) : Prop :=
  t.inputs.length = 8 ∧ t.inputTicks = s.inputTicks + 1 ∧
    ∀ (i : Nat) (x : Input), s.inputs[i]? = some x →
      (∃ y, t.inputs[i]? = some y ∧ y.settings = x.settings ∧ y.filter.fresh = false ∧
        y.filter.raw = readContact x.settings.polarity (contacts.getLsbD i)) ∧
      (onlySampled (contacts.getLsbD i) x →
        t.inputs[i]? = some (sampledInput (contacts.getLsbD i) x))

/-! ## Boundaries -/

/-- The commands that are frame boundaries, those that come with an outcome among them (log entry 9). -/
def isBoundary : Instr → Bool
  | .frameBoundary _ => true
  | .primed _ => true
  | .seekPrimed _ => true
  | .holdTaken _ => true
  | .starveLimitExpiry _ => true
  | .linkGraceExpiry _ => true
  | .holdLimitExpiry _ => true
  | .closingWindowExpired _ => true
  | .linkTestComplete _ => true
  | _ => false

/-- The lane's LINK_STATE entry with its words is journaled, where the ring has room and the tally is not
CLOSING, whose TALLY_CLOSED entry would come first (R108, R109, R177, log entry 56). -/
abbrev linkJournaled (l : LaneId) (words : List Nat) (s t : State) : Prop :=
  shapeOk s → ringRoom 1 s → (s.lane l).tally.phase ≠ .closing →
    journaled 0 ⟨.linkState, some l, (s.lane l).p, words⟩ s t

/-- What the work of a lane's boundary leaves: everything outside the lane, and host memory outside the
lane's event areas and its cue table part words. -/
abbrev boundaryKept (l : LaneId) (s u : State) : Prop :=
  restKept l s u ∧ (shapeOk s → memKept (eventAreas s l ++ partAreas (s.lane l)) s u)

/-- The lane stops with a cause, as Stop gives: STOPPING while an output sounds, else ENDED (R23). -/
abbrev stopsWith (cause : Cause) (x y : Lane) : Prop :=
  y.state = (if everyMute x.sound.applied then .ended else .stopping) ∧ y.lastCause = cause ∧
    timersClear y ∧ y.sound.applied = x.sound.applied ∧ aimedFor false y ∧
    (x.tally.phase = .running →
      (y.tally.phase = .closing ∨ y.tally.phase = .closed) ∧ y.tally.endCause = cause)

/-- A boundary in PLAYING that takes no hold and finds no fault: it presents P (R15, R20, R29). -/
abbrev presents (x : Lane) : Prop :=
  x.state = .playing ∧ holdDue x = false ∧ presentFault x = none

/-- Whether an entry of the cue table is judged at P in a show of `n` frames: armed, not being edited, its
mark clear, its position reached and inside the show (R159). -/
def cueJudged (p n : Nat) (w : HostWord) (m : Mark) : Bool :=
  w.armed && !w.editing && decide (m = .clear) && decide (w.position ≤ p) && decide (w.position < n)

/-- Whether a judged entry fires: its position is P, or it may be late (R160). -/
def cueFires (p n : Nat) (w : HostWord) (m : Mark) : Bool :=
  cueJudged p n w m && (decide (w.position = p) || w.lateOk)

/-- The mark of an entry after the scan of a boundary that presents P (R159, R160). -/
def markAfter (p n : Nat) (w : HostWord) (m : Mark) : Mark :=
  if cueFires p n w m then .fired p w.position
  else if cueJudged p n w m then .missed p w.position else m

/-- The contact outputs after a scan: the entries that fire set theirs, in index order (R160). -/
def contactsAfter (p n : Nat) (marks : List Mark) (ws : List HostWord) (c : BitVec 8) : BitVec 8 :=
  ((List.range 32).zip ws).foldl
    (fun c e =>
      if cueFires p n e.2 (marks.getD e.1 .clear) then (c &&& ~~~e.2.mask) ||| (e.2.value &&& e.2.mask)
      else c) c

/-- A store freshly asked for a reel and a subtitle track of a show (R127). -/
def freshStore (sh : Show) (reel : Nat) (t : Subtitle) : Store :=
  { noStore with
    reel := reel
    state := askedState sh reel t
    loss := if askedState sh reel t = .lost then .noChunks else .none }

/-- A wanted record after the store of a reel is given up: gone where it names that reel (R71, R133). -/
def wantedAfter (reel : Nat) (w : Option Wanted) : Option Wanted :=
  w.filter fun v => decide (v.reel ≠ reel)

/-- The stores of a presenting boundary of reel `i`, whose first frame it is where `first` holds: the next
stores become the current ones and the reel after is asked for, where the current ones serve the reel
before; else the four stand. A boundary lifts their residency waits (R56, R71, R133). -/
abbrev storesMoved (sh : Show) (i : Nat) (first : Prop) (x y : Lane) : Prop :=
  let served := x.overlay.current1.reel
  (first ∧ 2 ≤ i ∧ served + 1 = i →
    y.overlay.current1 = { x.overlay.next1 with waiting := false } ∧
      y.overlay.current2 = { x.overlay.next2 with waiting := false } ∧
      y.overlay.next1 = freshStore sh (i + 1) .one ∧ y.overlay.next2 = freshStore sh (i + 1) .two ∧
      y.subWanted = ⟨wantedAfter served x.subWanted.one, wantedAfter served x.subWanted.two⟩ ∧
      (y.overlay.next1.state = .lost ∨ y.overlay.next2.state = .lost →
        y.indicators.held &&& indicatorBit .subtitleLost ≠ 0)) ∧
    (¬ (first ∧ 2 ≤ i ∧ served + 1 = i) →
      (∀ pl, getStore y.overlay pl = { getStore x.overlay pl with waiting := false }) ∧
        y.subWanted = x.subWanted)

/-- The current store of a subtitle track. -/
def currentStore (o : Overlay) : Subtitle → Store
  | .one => o.current1
  | .two => o.current2

/-- The palettes that a frame record carries while the flags stand as given: of each track whose flag is
set and whose current store is DECODED (R138). -/
def palettesSent (o : Overlay) (due : Subtitle → Bool) :
    List (Subtitle × List (Nat × Nat × Nat)) :=
  [Subtitle.one, Subtitle.two].filterMap fun t =>
    if due t = true ∧ (currentStore o t).state = .decoded then some (t, (currentStore o t).palette)
    else none

/-- A boundary with the palette flags as given: a frame record carries the palettes due and leaves both
flags clear; where none is sent the flags stay (R138). -/
abbrev palettesHandled (due : Subtitle → Bool) (x y : Lane) : Prop :=
  (x.link.state = .locked →
    (∃ r, y.link.forward = .frame r ∧ r.palettes = palettesSent y.overlay due) ∧
      y.overlay.palettePending = ⟨false, false⟩) ∧
    (x.link.state ≠ .locked → ∀ t, y.overlay.palettePending.get t = due t)

/-- The cues of a track's current store that are visible at a track frame of a reel (R42, R134). -/
def visibleCount (st : Store) (r : Reel) (f : Nat) : Nat :=
  if st.state = .decoded then
    st.cues.countP fun c =>
      decide (r.entry ≤ f) && decide (f < r.entry + r.duration) && decide (c.inFrame ≤ f) &&
        decide (f < c.outFrame)
  else 0

/-- A sample that its multiplier takes past the 24-bit range (R152). -/
def overRange (v : Int) (m : Nat) : Bool :=
  decide ((v * (m : Int) + 524288).fdiv 1048576 < -8388608) ||
    decide (8388607 < (v * (m : Int) + 524288).fdiv 1048576)

/-- The samples of all outputs that saturate over the next `n` sample instants (R152). -/
def saturatedIn (n : Nat) (x : Sound) : Nat :=
  ((x.period.zip x.applied).map fun e =>
    ((e.1.drop x.periodPos).take n).countP fun v => overRange v (multiplier e.2)).sum

/-- The clip count and CLIP over the next `n` sample instants: one for each saturated sample, held at 65,535
(R152). -/
abbrev clipsCounted (n : Nat) (x y : Lane) : Prop :=
  y.sound.clipCount = min 65535 (x.sound.clipCount + saturatedIn n x.sound) ∧
    (saturatedIn n x.sound ≠ 0 → y.indicators.held &&& indicatorBit .clip ≠ 0)

/-- The next `n` sample instants of lane `x` played, as lane `y` holds them: in each slot the output sample of
the output's source sample of the period at the multiplier of its applied gain, zero past the period's samples
(R147, R151 to R153). -/
abbrev samplesPlayed (n : Nat) (x y : Lane) : Prop :=
  (n ≠ 0 → y.sound.outLen = n) ∧
    ∀ k j xs g, x.sound.period[k]? = some xs → x.sound.applied[k]? = some g → j < n →
      playedSlot y (k / 8 + 1) (k % 8) j =
        ⟨decide (k % 8 = 0),
          BitVec.ofInt 32 (outputSample (xs.getD (x.sound.periodPos + j) 0) (multiplier g) * 256)⟩

/-- The next `n` sample instants of lane `x` played, and carried by the lines of `y` (R147, R151 to R153). -/
abbrev linesPlayed (n : Nat) (x y : Lane) : Prop :=
  samplesPlayed n x y ∧
    (n ≠ 0 → ∀ line slot j, lineSlot y line slot j = playedSlot y line slot j)

/-- The sample instants that lane `x` played last, kept in lane `y` while the lines of `y` carry zero (R150,
R153, log entry 20). -/
abbrev linesCut (x y : Lane) : Prop :=
  y.sound.out = x.sound.out ∧ y.sound.outLen = x.sound.outLen ∧
    ∀ line slot j, (lineSlot y line slot j).word = 0

/-- A tally entry with one confirmation more, COUNTED where that reaches its threshold (R98, R99). -/
def confirmedEntry (n : TallyEntry) : TallyEntry :=
  { n with
    confirmed := n.confirmed + 1
    status := if n.threshold ≤ n.confirmed + 1 then .counted else .reserved }

/-- The store in a place is LOST with a reason: its cues and its memory are gone and SUBTITLE_LOST is set
(R128). -/
abbrev storeLost (loss : StoreLoss) (pl : Place) (x : Lane) : Prop :=
  (getStore x.overlay pl).state = .lost ∧ (getStore x.overlay pl).loss = loss ∧
    (getStore x.overlay pl).cues = [] ∧ (getStore x.overlay pl).heldBytes = 0 ∧
    x.indicators.held &&& indicatorBit .subtitleLost ≠ 0

/-- The cues that a store `kept` keeps of the container bytes `bytes`, judged in lane `x` (R129, R130): with
the drop counts they make up the cue count; each is a record of the container in range, visible in the
store's reel, in increasing order of number, and their bitmaps fit the free bitmap memory. -/
abbrev cuesKept (x : Lane) (bytes : List Byte) (kept : Store) : Prop :=
  kept.malformed + kept.overCap + kept.outsideReel + kept.forMemory + kept.cues.length = field bytes 4 2 ∧
    kept.cues.Pairwise (fun c d => c.number < d.number) ∧
    (∀ c ∈ kept.cues, ∃ i < field bytes 4 2, c = cueOfRecord (laneEditRate x) (cueRecord bytes i) ∧
      cueInRange (containerLength bytes - bitmapStart bytes) (cueRecord bytes i) = true ∧
      ∃ r, (x.loaded.bind fun sh => nthReel sh kept.reel) = some r ∧
        cueNever r c.inFrame c.outFrame = false) ∧
    kept.heldBytes = (kept.cues.map fun c => c.w * c.h).sum ∧ kept.heldBytes ≤ freeBitmap x.overlay

/-- What a chunk's content makes of its store, of `chunks` chunks, in place `pl`: `x` is the lane before, `y`
after (R70, R128 to R131). -/
abbrev chunkTaken (chunks : Nat) (content : List Byte) (pl : Place) (x y : Lane) : Prop :=
  let st := getStore x.overlay pl
  let kept := getStore y.overlay pl
  let bytes := st.received ++ content
  let last := chunks ≤ st.fetchChunk + 1
  let start := 104 + 32 * field bytes 4 2
  kept.fetchChunk = st.fetchChunk + 1 ∧ kept.reel = st.reel ∧
    (bytes.length < 104 → st.headerJudged = false →
      (¬ last → kept = { st with received := bytes, fetchChunk := st.fetchChunk + 1 }) ∧
        (last → storeLost .container pl y)) ∧
    (104 ≤ bytes.length → st.headerJudged = false → field bytes 0 4 < start →
      storeLost .container pl y) ∧
    (st.headerJudged = true ∨ (104 ≤ bytes.length ∧ start ≤ field bytes 0 4) →
      (field bytes 0 4 < bytes.length → storeLost .container pl y) ∧
        (bytes.length ≤ field bytes 0 4 →
          (last → bytes.length < field bytes 0 4 → storeLost .container pl y) ∧
            (st.headerJudged = false → ¬ last ∨ bytes.length = field bytes 0 4 →
              kept.palette = (List.range 16).map fun i =>
                (field bytes (8 + 6 * i) 2 % 4096, field bytes (10 + 6 * i) 2 % 4096,
                  field bytes (12 + 6 * i) 2 % 4096)) ∧
            (¬ last →
              kept.state = .fetching ∧ kept.received = bytes ∧ kept.headerJudged = true ∧
                (bytes.length < start → kept.cues = st.cues ∧ kept.recordsJudged = st.recordsJudged) ∧
                (start ≤ bytes.length → st.recordsJudged = false →
                  x.loaded.bind (fun sh => nthReel sh st.reel) ≠ none →
                  kept.recordsJudged = true ∧ cuesKept x bytes kept ∧
                    (0 < kept.forMemory → y.indicators.held &&& indicatorBit .subtitleLost ≠ 0))) ∧
            (last → bytes.length = field bytes 0 4 → start ≤ bytes.length →
              x.loaded.bind (fun sh => nthReel sh st.reel) ≠ none →
              kept.state = .decoded ∧ kept.received = [] ∧
                (∀ c ∈ kept.cues,
                  c.bitmap = (bytes.drop (start + c.bitmapOffset)).take (c.w * c.h)) ∧
                (st.recordsJudged = false →
                  cuesKept x bytes { kept with cues := kept.cues.map fun c => { c with bitmap := [] } }) ∧
                (pl = .current1 → y.overlay.palettePending.one = true) ∧
                (pl = .current2 → y.overlay.palettePending.two = true))))

/-- The record that a LOCKED link sends outside presentation: BLACK with the shutter closed, without
units (R115). -/
abbrev sentBlack (x y : Lane) : Prop :=
  ∃ r, y.link.forward = .frame r ∧ r.seq = x.link.seq ∧ r.kind = .black ∧ r.shutterOpen = false ∧
    r.units = []

/-- The lane requests by kind (R175, catalogue of requests). -/
def laneRequests (l : LaneId) (rq : Req) : List (Nat × Instr) :=
  [(1, .loadShow l rq), (2, .unload l rq), (3, .rewind l rq), (4, .laneReset l rq),
    (5, .setLaneOptions l rq), (6, .writeSoundMap l rq), (7, .start l rq), (8, .startAt l rq),
    (9, .cancelStart l rq), (10, .hold l rq), (11, .cancelHold l rq), (12, .resume l rq),
    (13, .stop l rq), (14, .seek l rq), (15, .setLevel l rq), (16, .testIndicators l rq),
    (17, .linkTest l rq)]

/-- The device requests by kind (R175, catalogue of requests). -/
def deviceRequests (rq : Req) (agrees : Bool) : List (Nat × Instr) :=
  [(18, .installLicence rq agrees), (19, .removeLicence rq), (20, .readLicence rq),
    (21, .listLicences rq), (22, .setClock rq), (23, .adjustClock rq), (24, .readIdentity rq),
    (25, .factoryClear rq), (26, .setInputs rq)]

/-- The commands that are one lane's own: its requests, its boundaries, its millisecond ticks, its line
and its reports. -/
def laneOf : Instr → Option LaneId
  | .loadShow l _ => some l
  | .unload l _ => some l
  | .rewind l _ => some l
  | .laneReset l _ => some l
  | .setLaneOptions l _ => some l
  | .writeSoundMap l _ => some l
  | .start l _ => some l
  | .startAt l _ => some l
  | .cancelStart l _ => some l
  | .hold l _ => some l
  | .cancelHold l _ => some l
  | .resume l _ => some l
  | .stop l _ => some l
  | .seek l _ => some l
  | .setLevel l _ => some l
  | .testIndicators l _ => some l
  | .linkTest l _ => some l
  | .frameBoundary l => some l
  | .primed l => some l
  | .seekPrimed l => some l
  | .holdTaken l => some l
  | .starveLimitExpiry l => some l
  | .linkGraceExpiry l => some l
  | .holdLimitExpiry l => some l
  | .closingWindowExpired l => some l
  | .linkTestComplete l => some l
  | .millisecondTick l => some l
  | .fadeComplete l => some l
  | .lineFaultDetected l _ => some l
  | .lineGood l => some l
  | .lockAchieved l => some l
  | .lockLost l => some l
  | .badReport l => some l
  | .headIdentityReport l _ => some l
  | .headStatusReport l _ => some l
  | .shownReport l _ => some l
  | .testTallyReport l _ _ => some l
  | _ => none

end Sys2Proof.Machine
end

