-- ==== Sys2Proof/WellFormed.lean ====
section
/-! DEFINITION. Which commands can reach the part: a register write names one of the seven registers, an
unknown request kind is unknown to its slot, and bytes that the host stores lie in the 64-bit address
space. The meanings are defined on every command, well-formed or not (log entry 30). -/

namespace Sys2Proof

/-- The offsets of the register window (R169, Record Layouts, Registers). -/
def registerOffsets : List (BitVec 5) := [0x00, 0x04, 0x08, 0x0C, 0x10, 0x14, 0x18]

/-- Whether what the host has done lies in the address space. -/
def actsWellFormed (acts : HostActs) : Bool :=
  acts.stores.all fun st => decide (st.1 + st.2.length ≤ 2 ^ 64)

/-- Whether a request kind is one that its slot does not know: kinds 1 to 17 are lane requests, 18 to
26 device requests (R175, Record Layouts). -/
def kindUnknown (slot : SlotId) (kind : Nat) : Bool :=
  match slot with
  | .lane _ => decide (kind = 0) || decide (17 < kind)
  | .device => decide (kind < 18) || decide (26 < kind)

/-- Whether a command can reach the part. -/
def Instr.wellFormed : Instr → Bool
  | .registerWrite offset _ acts _ => registerOffsets.contains offset && actsWellFormed acts
  | .tableBaseHiWrite _ acts => actsWellFormed acts
  | .summon _ acts _ => actsWellFormed acts
  | .unknownRequestKind slot kind _ => kindUnknown slot kind.toNat
  | .powerOn kept elapsed => kept || decide (elapsed = 0)
  | .deviceReset _ => true
  | .resetWorkComplete => true
  | .clockSourceSelect _ => true
  | .attentionRead => true
  | .attentionMaskWrite _ => true
  | .maintenanceInputChange _ => true
  | .loadShow _ _ => true
  | .unload _ _ => true
  | .rewind _ _ => true
  | .laneReset _ _ => true
  | .setLaneOptions _ _ => true
  | .writeSoundMap _ _ => true
  | .start _ _ => true
  | .startAt _ _ => true
  | .startAtFiring _ => true
  | .cancelStart _ _ => true
  | .hold _ _ => true
  | .cancelHold _ _ => true
  | .resume _ _ => true
  | .stop _ _ => true
  | .seek _ _ => true
  | .setLevel _ _ => true
  | .testIndicators _ _ => true
  | .linkTest _ _ => true
  | .installLicence _ _ => true
  | .removeLicence _ => true
  | .readLicence _ => true
  | .listLicences _ => true
  | .setClock _ => true
  | .adjustClock _ => true
  | .readIdentity _ => true
  | .factoryClear _ => true
  | .setInputs _ => true
  | .frameBoundary _ => true
  | .primed _ => true
  | .seekPrimed _ => true
  | .holdTaken _ => true
  | .starveLimitExpiry _ => true
  | .linkGraceExpiry _ => true
  | .holdLimitExpiry _ => true
  | .closingWindowExpired _ => true
  | .linkTestComplete _ => true
  | .millisecondTick _ => true
  | .fadeComplete _ => true
  | .secondEvent => true
  | .inputTick _ => true
  | .inputDebounceAccept _ _ => true
  | .chatterLeft _ _ => true
  | .fetchGrant => true
  | .fetchCompletion _ _ => true
  | .subtitleChunkCompletion _ _ => true
  | .lineFaultDetected _ _ => true
  | .lineGood _ => true
  | .lockAchieved _ => true
  | .lockLost _ => true
  | .badReport _ => true
  | .headIdentityReport _ _ => true
  | .headStatusReport _ _ => true
  | .shownReport _ _ => true
  | .testTallyReport _ _ _ => true
  | .referenceLock => true
  | .referenceLoss => true
  | .clockSwitchBack => true
  | .journalGap => true
  | .tableAccessFailure _ _ => true

end Sys2Proof
end

