-- ==== Sys2Proof/Certificates/Slice0/Obligations.lean ====
section
/-! DEFINITION. The statements for the provers: each a proposition about the model, with the rule of the
manual that it formalises in its docstring. -/

open Sys2Proof Sys2Proof.Machine

/-! ## The block as a whole -/

/-- A step runs the command at the front of the queue with the queue's rest, and on an empty queue the block
idles (the model's choice, log entry 8). -/
def Obligations.StepRunsTheFrontCommand : Prop :=
  (∀ (c : Instr) (rest : List Instr) (s : State),
    step { s with pending := c :: rest } = exec c { s with pending := rest }) ∧
    ∀ s : State, s.pending = [] → step s = .next s

/-- Every command answers a next state and leaves the queue of waiting commands alone. The queue is the
model's own (log entry 8). -/
def Obligations.EveryCommandKeepsTheQueue : Prop :=
  ∀ (c : Instr) (s : State), ∃ t, exec c s = .next t ∧ t.pending = s.pending

/-- The values that R1, R3, R33, R73, R107, R142, R154, R164, R169, R170 and R173 give after a power-on
whose retained domain held nothing: of R107 every value of the link, its line carrying no signal (log entry
25), and of R142 the whole sound map, the gains and the clip count; the tally is ABSENT (R94). That the state
after reset is such a power-on is the model's choice (log entry 7), and so are the empty queue (log entry 8)
and the canonical memory (log entry 1).

The state after reset meets every invariant that the statements below say a step keeps. -/
def Obligations.ResetHoldsTheManualsValues : Prop :=
  (State.reset.device = .reset ∧ State.reset.reason = .none ∧ State.reset.haltArea = none ∧
    State.reset.tableLo = 0 ∧ State.reset.tableHi = 0 ∧ State.reset.attention = 0 ∧
    State.reset.attentionMask = 0 ∧ State.reset.summonFlags = 0 ∧
    State.reset.clockUnit.external = false ∧ State.reset.clockUnit.source = .internal ∧
    State.reset.engine.flight = none ∧ State.reset.pending = [] ∧
    (∀ l, (State.reset.lane l).state = .empty ∧ (State.reset.lane l).loaded = none ∧
      (State.reset.lane l).p = 0 ∧ timersClear (State.reset.lane l) ∧
      (State.reset.lane l).lastCause = .none ∧ (State.reset.lane l).level = 70 ∧
      (State.reset.lane l).indicators = ⟨0, 0, 0⟩ ∧ (State.reset.lane l).faultRecord = none ∧
      (State.reset.lane l).options = ⟨24, .tolerant, 120, 48, 30, 1, false, 0, 0⟩ ∧
      soundAtReset (State.reset.lane l).sound ∧
      linkAtReset (some .noSignal) (State.reset.lane l).link ∧
      (State.reset.lane l).tally.phase = .absent ∧ (State.reset.lane l).tally.entries = [] ∧
      (State.reset.lane l).contacts = 0) ∧
    (∀ i < 8, State.reset.inputs[i]?.map Input.settings = some ⟨.report, 0, .activeClosed, 20⟩ ∧
      State.reset.inputs[i]?.map (fun x => x.filter.level) = some .unknown) ∧
    recordsInUse State.reset.licences = 0 ∧ slotsInUse State.reset.licences = 0 ∧
    State.reset.licences.clock = 0 ∧ State.reset.licences.clockValid = false ∧
    State.reset.licences.adjustDay = none ∧ State.reset.licences.adjustLeft = 600 ∧
    State.reset.licences.retainedLost = true) ∧
  (memOk State.reset ∧ shapeOk State.reset ∧ everyLane laneFieldsOk State.reset ∧
    everyLane listOk State.reset ∧ everyLane windowOk State.reset ∧ everyLane soundOk State.reset ∧
    queuesOk State.reset ∧ everyLane storesOk State.reset ∧ deviceFieldsOk State.reset ∧
    licencesOk State.reset)

/-! ## Invariants that every step keeps -/

/-- Host memory keeps its canonical form (the model's, log entry 1).

The lists that the records lay out keep the manual's lengths, and the journal's write index stays in its
ring (R94, R142, R164, R177, R179). -/
def Obligations.StepsKeepMemoryAndRecordShapes : Prop :=
  (∀ s t : State, memOk s → step s = .next t → memOk t) ∧
  (∀ s t : State, shapeOk s → step s = .next t → shapeOk t)

/-- The pending hold record and the starve and link grace timers stand in PLAYING only, the hold limit timer
in HELD and SEEKING, the start second in ARMED, the waiting-licence flag in LOADING (R6, R12, R18, R24 to
R26). -/
def Obligations.StepsKeepLaneFieldsInTheirStates : Prop :=
  ∀ s t : State, everyLane laneFieldsOk s → step s = .next t → everyLane laneFieldsOk t

/-- The awaiting-confirmation list of every lane holds at most 8 entries of consecutive sequence numbers,
the newest just below the sequence counter, and none while the link is not LOCKED (R114, R117).

A CLOSING tally always has an entry of its run left in the list (R101). -/
def Obligations.StepsKeepAwaitingListsConsecutive : Prop :=
  (∀ s t : State, everyLane listOk s → step s = .next t → everyLane listOk t) ∧
  (∀ s t : State, everyLane windowOk s → step s = .next t → everyLane windowOk t)

/-- Every applied gain lies in −890 to +120 or is mute, and every output sample is a 24-bit value (R149). -/
def Obligations.StepsKeepGainsAndSamplesInRange : Prop :=
  ∀ s t : State, everyLane soundOk s → step s = .next t → everyLane soundOk t

/-- An essence queue with the transaction in flight for it never exceeds 48 entries (R49, R51).

The four cue stores of a lane hold no more than its 4,194,304 bytes of bitmap memory (R130), and the cue
records of a store are judged only once its header is (R128, R129). -/
def Obligations.StepsKeepEssenceQueuesBounded : Prop :=
  (∀ s t : State, queuesOk s → step s = .next t → queuesOk t) ∧
  (∀ s t : State, everyLane storesOk s → step s = .next t → everyLane storesOk t)

/-- The reason always fits the device state, a failed area stands exactly in HALTED, and a stored
TABLE_BASE_HI write waits only in WAIT_CLOCK (R169 to R172).

The Licence Table keeps its account: no licence id and no key id stands twice (R74, R75), the in_flight of
each licence is the number of lanes whose tally holds it RESERVED (R86), counted + in_flight never exceeds a
non-zero allowance (R85), and the booth clock and the windows stay below 2^40 (R74, R88, R179). The tallies
keep what this rests on, the phase that the lane's state gives among it (R94 to R104). -/
def Obligations.StepsKeepTheReasonFitting : Prop :=
  (∀ s t : State, deviceFieldsOk s → step s = .next t → deviceFieldsOk t) ∧
  (∀ s t : State, licencesOk s → step s = .next t → licencesOk t)

/-- A command of one lane changes nothing of the other lanes, of the registers but ATTENTION, of the
building inputs, of the fetch engine, nor of the clock source but for a switch back, and of host memory only
the lane's slot, its status record, the reports and its cue table's part words. -/
def Obligations.LaneCommandsLeaveTheRestAlone : Prop :=
  ∀ (c : Instr) (l : LaneId) (s t : State), laneOf c = some l → exec c s = .next t →
    restKept l s t ∧ (shapeOk s → memKept (requestAreas s l ++ partAreas (s.lane l)) s t)

/-! ## Arithmetic -/

/-- R137: the transmitted alpha of a faded alpha under the ordered dither, the colour untouched; every
transmitted alpha lies in 0..15, and over any 16 consecutive sequence numbers the 16 values sent for a pixel
of constant faded alpha sum to min(a, 240). -/
def Obligations.DitherSumsToTheFadedAlpha : Prop :=
  ∀ (cues : List PlacedCue) (a x y s : Nat), a ≤ 255 →
    [[0, 8, 2, 10], [12, 4, 14, 6], [3, 11, 1, 9], [15, 7, 13, 5]][y % 4]?.bind (·[x % 4]?) =
        some (ditherEntry x y) ∧
      (∀ n, ditherAlpha a (ditherEntry x y) n =
          if (ditherEntry x y + n % 16) % 16 < a % 16 then min 15 (a / 16 + 1) else a / 16) ∧
      (∀ n, ditherAlpha a (ditherEntry x y) n ≤ 15) ∧
      ((List.range 16).map fun i => ditherAlpha a (ditherEntry x y) ((s + i) % 65536)).sum = min a 240 ∧
      sentPixel cues s x y =
        ((composePixel cues x y).1, ditherAlpha (composePixel cues x y).2 (ditherEntry x y) s)

/-- R43: the fade lengths in frames, and their proportional clamp to a cue's duration: lengths that fit are
kept; others take the whole duration between them, the fade-in in its proportion rounded down. A cue keeps
the fitted lengths when it is decoded. -/
def Obligations.FittedFadesFillTheCue : Prop :=
  (∀ d inTime outTime rate : Nat, inTime ≤ 86400000 → outTime ≤ 86400000 → rate ≤ 60 →
    let fi := msToFrames inTime rate
    let fo := msToFrames outTime rate
    let fit := fitFades d fi fo
    fi ≤ 5184000 ∧ fo ≤ 5184000 ∧ (fi + fo ≤ d → fit = (fi, fo)) ∧
      (d < fi + fo → fit.1 * (fi + fo) ≤ fi * d ∧ fi * d < (fit.1 + 1) * (fi + fo) ∧
        fit.1 + fit.2 = d) ∧
      fit.1 + fit.2 ≤ d ∧ fit.1 ≤ fi) ∧
  ∀ (rate : Nat) (c : CueRecord),
    ((cueOfRecord rate c).fadeIn, (cueOfRecord rate c).fadeOut) =
      fitFades ((cueOfRecord rate c).outFrame - (cueOfRecord rate c).inFrame)
        (msToFrames c.fadeIn rate) (msToFrames c.fadeOut rate)

/-- R151: each entry of the table T is 4,194,304 × 10^(−r/200) rounded half up, and the multiplier of a gain
is T[r] halved q times, 0 for a mute output. A sample is scaled by it, rounded half up and saturated to 24
bits (in R152).

At a fade rate of at least 1, an applied gain in range reaches its target within 1,010 millisecond ticks and
stays there (R26, R149). -/
def Obligations.GainsScaleSamplesAndFadesFinish : Prop :=
  ((∀ r < 60,
    (2 * gainTable.getD r 0 - 1) ^ 200 * 10 ^ r ≤ (2 * 4194304) ^ 200 ∧
      (2 * 4194304) ^ 200 < (2 * gainTable.getD r 0 + 1) ^ 200 * 10 ^ r) ∧
    (∀ v : Int, -890 ≤ v → v ≤ 120 →
      multiplier (.level v) =
        gainTable.getD ((120 - v).toNat % 60) 0 / 2 ^ ((120 - v).toNat / 60)) ∧
    multiplier .mute = 0 ∧
    ∀ (x : Int) (m : Nat), -8388608 ≤ x → x ≤ 8388607 → m ≤ 4194304 →
      outputSample x m =
        max (-8388608) (min 8388607 ((x * (m : Int) + 524288).fdiv 1048576))) ∧
  (∀ (g n : Nat) (a w : Gain), 1 ≤ g → 1010 ≤ n → gainOk a = true → gainOk w = true →
    (fun v => stepGain g v w)^[n] a = w)

/-- R36 to R38: in a show copy whose reels have D ≥ 1, every show frame below the show length lies in
exactly one reel, and its reel and track frame lead back to it. -/
def Obligations.ShowFramesRoundTrip : Prop :=
  ∀ (sh : Show) (rs : List Reel) (p : Nat), sh.reels = placeReels 0 rs → (∀ r ∈ rs, 1 ≤ r.duration) →
    p < totalFrames rs →
    ∃ i r, reelOf sh p = some (i, r) ∧ nthReel sh i = some r ∧ r.start ≤ p ∧
      p < r.start + r.duration ∧ r.entry ≤ trackFrame r p ∧
      trackFrame r p < r.entry + r.duration ∧ positionFrame sh ⟨i, trackFrame r p⟩ = p ∧
      ∀ j q, nthReel sh j = some q → q.start ≤ p → p < q.start + q.duration → j = i

/-- R46: the threshold T of a tally entry is K percent of its frame total F rounded up, so T is at least 1
for a show frame to count, never above F, and F confirmations always reach it; and R76: the derived state of
a licence is the first of the table whose condition holds. -/
def Obligations.ThresholdsAndDerivedStates : Prop :=
  (∀ f k : Nat, 1 ≤ k → k ≤ 100 →
    f * k ≤ 100 * countThreshold f k ∧ 100 * countThreshold f k < f * k + 100 ∧
      countThreshold f k ≤ f ∧ (1 ≤ f → 1 ≤ countThreshold f k)) ∧
    ∀ (valid : Bool) (clock : Nat) (x : Licence),
      (derivedState valid clock x = .clockUnknown ↔ valid = false) ∧
        (derivedState valid clock x = .waiting ↔ valid = true ∧ clock < x.notBefore) ∧
        (derivedState valid clock x = .closed ↔
          valid = true ∧ x.notBefore ≤ clock ∧ x.notAfter ≤ clock) ∧
        (derivedState valid clock x = .spent ↔
          valid = true ∧ x.notBefore ≤ clock ∧ clock < x.notAfter ∧ x.allowance ≠ 0 ∧
            x.allowance ≤ x.counted) ∧
        derivedState valid clock x ≠ .removed

/-! ## Resets and the device states -/

/-- Power-on (R1, R73, R170): the part stands in RESET with every lane as R1 gives it, and the retained
domain is kept, its clock run on and every in_flight at 0, or lost. Every derived state is evaluated.

Device Reset (R1, R35, R73, R147, R154, R170): every lane and register as after power-on, the frame period
and the millisecond tick in progress completing at their lengths, the lines at zero with the samples played
before standing (log entry 20), the selection as written, the retained domain kept but for every in_flight,
which returns to 0.

The link is as R107 gives it, every value of it, on the line as the model holds it (log entry 25), the inputs
as R164 gives them, and the journal state is gone (R178). The model's choices in it: fields without a reset
value (log entries 7, 20 and 53), the clock source during the reset work (log entry 21), the raw sample of an
input (log entry 22), and the reference's locked flag (log entry 27). -/
def Obligations.ResetsRestoreThePart : Prop :=
  (∀ (kept : Bool) (elapsed : Nat) (s : State),
    ∃ t, exec (.powerOn kept elapsed) s = .next t ∧ t.device = .reset ∧ t.reason = .none ∧
      t.attention = 0 ∧ t.attentionMask = 0 ∧ t.summonFlags = 0 ∧ t.tableLo = 0 ∧ t.tableHi = 0 ∧
      t.clockUnit.external = false ∧ t.clockUnit.source = .internal ∧ t.engine.flight = none ∧
      t.inputs = List.replicate 8 initialInput ∧
      (∀ l, t.lane l = { initialLane with link := (t.lane l).link } ∧
        linkAtReset (s.lane l).link.line (t.lane l).link) ∧
      t.journal = ⟨0, 0, 0, 0⟩ ∧
      (kept = true →
        t.licences.clock = min (2 ^ 40 - 1) (s.licences.clock + elapsed) ∧
          t.licences.clockValid = s.licences.clockValid ∧ t.licences.keys = s.licences.keys ∧
          t.licences.adjustDay = s.licences.adjustDay ∧
          t.licences.adjustLeft = s.licences.adjustLeft ∧ t.licences.retainedLost = false ∧
          t.licences.records =
            recordsEvaluated s.licences.clockValid t.licences.clock
              (s.licences.records.map fun r => r.map fun x => { x with inFlight := 0 })) ∧
      (kept = false →
        t.licences.clock = 0 ∧ t.licences.clockValid = false ∧
          t.licences.records = List.replicate 64 none ∧ t.licences.keys = List.replicate 256 none ∧
          t.licences.adjustDay = none ∧ t.licences.adjustLeft = 600 ∧
          t.licences.retainedLost = true) ∧
      t.licences.deviceKeyId = s.licences.deviceKeyId ∧ t.host = s.host ∧ t.pending = s.pending) ∧
  (∀ (external : Bool) (s : State),
    ∃ t, exec (.deviceReset external) s = .next t ∧ t.device = .reset ∧ t.reason = .none ∧
      t.attention = 0 ∧ t.attentionMask = 0 ∧ t.summonFlags = 0 ∧ t.tableLo = 0 ∧ t.tableHi = 0 ∧
      t.clockUnit.external = external ∧
      t.clockUnit.source = (if external then .acquiring else .internal) ∧
      t.clockUnit.refLocked = s.clockUnit.refLocked ∧
      t.engine.flight = none ∧ t.inputs = List.replicate 8 initialInput ∧
      (∀ l, t.lane l =
          { initialLane with
            link := (t.lane l).link
            sound :=
              { initialSound with
                periodPos := (s.lane l).sound.periodPos
                periodLen := (s.lane l).sound.periodLen
                tickPos := (s.lane l).sound.tickPos
                tickLen := (s.lane l).sound.tickLen
                out := (s.lane l).sound.out
                outLen := (s.lane l).sound.outLen } } ∧
        linesCut (s.lane l) (t.lane l) ∧
        linkAtReset (s.lane l).link.line (t.lane l).link) ∧
      t.journal = ⟨0, 0, 0, 0⟩ ∧
      t.licences =
        { s.licences with
          records :=
            recordsEvaluated s.licences.clockValid s.licences.clock
              (s.licences.records.map fun r => r.map fun x => { x with inFlight := 0 }) } ∧
      t.maintenance = s.maintenance ∧ t.host = s.host ∧ t.pending = s.pending)

/-- The end of the reset work (R154, R170): WAIT_TABLE with the source INTERNAL or EXTERNAL, or WAIT_CLOCK
with the source ACQUIRING while the selected reference is not locked; ATTENTION bit 6. -/
def Obligations.ResetWorkEndsInAWait : Prop :=
  ∀ s : State, s.device = .reset → s.hiStored = false →
    ∃ t, exec .resetWorkComplete s = .next t ∧
      (s.clockUnit.external = false → t.device = .waitTable ∧ t.clockUnit.source = .internal) ∧
      (s.clockUnit.external = true → s.clockUnit.refLocked = true →
        t.device = .waitTable ∧ t.clockUnit.source = .external) ∧
      (s.clockUnit.external = true → s.clockUnit.refLocked = false →
        t.device = .waitClock ∧ t.clockUnit.source = .acquiring) ∧
      t.attention = s.attention ||| attentionBit 6 ∧ t.reason = s.reason ∧ t.lanes = s.lanes ∧
      t.licences = s.licences ∧ t.host = s.host ∧ t.inputs = s.inputs ∧ t.pending = s.pending

/-- The Booth Table accepted by a write of TABLE_BASE_HI in WAIT_TABLE (R171): RUNNING with the reason NONE
and ATTENTION bit 6, the journal begun, the write index and the withheld count at 0 in the header. The
update counts begin at 0 (R176): each Lane Status Record has been written once, and the Device Status Record
twice, the second time at the entry to RUNNING, which it tells (log entry 33).

A Lane Status Record then shows its lane, every field of it (R176, R179), and so it does after each frame
boundary of a lane that is not EMPTY (the look at the slot comes last, log entry 11). The model's choices in
it: log entries 34, 48 and 62. At a frame boundary of an EMPTY lane the record is written where a field of it
has changed since the lane's last boundary, and it is not where none has (R176); every other command notes
the fields that it changes, at its end (log entry 76).

A Booth Table that fails a check of R171 leaves the device in WAIT_TABLE with the reason of the first check
that fails; outside WAIT_TABLE and WAIT_CLOCK a write of TABLE_BASE_HI is ignored, and in WAIT_CLOCK it is
stored (R169). -/
def Obligations.TableAcceptanceRunsOrFailsByName : Prop :=
  (∀ (v : Word32) (acts : HostActs) (s : State) (bs : List Byte),
    s.device = .waitTable →
    wide s.tableLo v % 4096 = 0 →
    hostRead (hostActs s.host acts) (wide s.tableLo v) 64 = some bs →
    field bs 0 2 = 1 → field bs 8 2 = 0 →
    (∀ w ∈ [(4, 4), (0x200, 256), (0x400, 1024), (0x800, 1024), (0xC00, 1024), (0x1000, 1024)],
      accessFails (hostActs s.host acts).writeFails (wide s.tableLo v + w.1) w.2 = false) →
    shapeOk s →
    ∃ t, exec (.tableBaseHiWrite v acts) s = .next t ∧ t.device = .running ∧ t.reason = .none ∧
      t.tableHi = v ∧ t.tableLo = s.tableLo ∧ t.attention = s.attention ||| attentionBit 6 ∧
      t.journal = ⟨0, 0, 0, 0⟩ ∧ memReadBytes t.host.mem (tableAddr t + 4) 4 = zeros 4 ∧
      memReadBytes t.host.mem (deviceStatusAddr t + 4) 1 = [3] ∧ t.statusCount = 4 ∧
      memReadBytes t.host.mem (deviceStatusAddr t) 4 = [4, 0, 0, 0] ∧
      (∀ l, bare (t.lane l) = bare (s.lane l) ∧ (t.lane l).statusCount = 2 ∧
        memReadBytes t.host.mem (laneStatusAddr t l) 4 = [2, 0, 0, 0] ∧
        memReadBytes t.host.mem (laneStatusAddr t l + 4) 1 = le 1 (s.lane l).state.ctorIdx ∧
        statusShows t l) ∧
      t.licences = s.licences ∧ t.clockUnit = s.clockUnit ∧ t.inputs = s.inputs ∧
      t.engine = s.engine ∧ t.pending = s.pending) ∧
  (∀ (v : Word32) (acts : HostActs) (s : State),
    (s.device = .waitTable →
      ∃ t, exec (.tableBaseHiWrite v acts) s = .next t ∧
        (wide s.tableLo v % 4096 ≠ 0 → t.device = .waitTable ∧ t.reason = .align) ∧
        (wide s.tableLo v % 4096 = 0 →
          hostRead (hostActs s.host acts) (wide s.tableLo v) 64 = none →
          t.device = .waitTable ∧ t.reason = .read) ∧
        (wide s.tableLo v % 4096 = 0 →
          (∃ bs, hostRead (hostActs s.host acts) (wide s.tableLo v) 64 = some bs ∧
            (field bs 0 2 ≠ 1 ∨ field bs 8 2 ≠ 0)) →
          t.device = .waitTable ∧ t.reason = .layout) ∧
        (wide s.tableLo v % 4096 = 0 →
          (∃ bs, hostRead (hostActs s.host acts) (wide s.tableLo v) 64 = some bs ∧
            field bs 0 2 = 1 ∧ field bs 8 2 = 0) →
          (∃ w ∈ [(4, 4), (0x200, 256), (0x400, 1024), (0x800, 1024), (0xC00, 1024), (0x1000, 1024)],
            accessFails (hostActs s.host acts).writeFails (wide s.tableLo v + w.1) w.2 = true) →
          t.device = .waitTable ∧ t.reason = .write) ∧
        (t.device = .waitTable ∨ t.device = .running) ∧ t.licences = s.licences) ∧
      (s.device = .waitClock →
        exec (.tableBaseHiWrite v acts) s =
          .next { s with host := hostActs s.host acts, tableHi := v, hiStored := true }) ∧
      (s.device = .reset ∨ s.device = .running ∨ s.device = .halted →
        exec (.tableBaseHiWrite v acts) s = .next { s with host := hostActs s.host acts })) ∧
  (∀ (l : LaneId) (s : State), s.clockUnit.source ≠ .acquiring → s.device = .running → shapeOk s →
    (s.lane l).state ≠ .empty →
    ∃ u, exec (.frameBoundary l) s = .next (boundaryLook l false u) ∧ statusShows u l ∧
      u.recordChanged.get l = false) ∧
  (∀ (l : LaneId) (s : State), s.clockUnit.source ≠ .acquiring → s.device = .running → shapeOk s →
    (s.lane l).state = .empty →
    ∃ u, exec (.frameBoundary l) s = .next u ∧ u.recordChanged.get l = false ∧
      (s.recordChanged.get l = true ∨ laneStatusBody u l ≠ laneStatusBody s l →
        (u.lane l).statusCount = ((s.lane l).statusCount + 2) % 2 ^ 32 ∧ statusShows u l) ∧
      (s.recordChanged.get l = false → laneStatusBody u l = laneStatusBody s l →
        (u.lane l).statusCount = (s.lane l).statusCount ∧ memKept (reportAreas s) s u)) ∧
  (∀ (c : Instr) (l : LaneId) (s t : State), isBoundary c = false → exec c s = .next t →
    (t.recordChanged.get l = true ↔
      s.recordChanged.get l = true ∨ laneStatusBody t l ≠ laneStatusBody s l))

/-- A write of the register window (R169): TABLE_BASE_LO is kept in the waits and ignored elsewhere, the
other writable registers act as their own rows do, and DEVICE_STATE and ATTENTION ignore it. That every
other offset ignores it is the model's choice (log entry 30). -/
def Obligations.RegisterWritesReachTheirRegister : Prop :=
  ∀ (v : Word32) (acts : HostActs) (agrees : Bool) (s : State),
    exec (.registerWrite 0x00 v acts agrees) s =
        .next
          { s with
            host := hostActs s.host acts
            tableLo :=
              if s.device = .waitClock ∨ s.device = .waitTable then v else s.tableLo } ∧
      exec (.registerWrite 0x04 v acts agrees) s = exec (.tableBaseHiWrite v acts) s ∧
      (v.getLsbD 0 = true →
        exec (.registerWrite 0x08 v acts agrees) s =
          exec (.deviceReset (v.getLsbD 1)) { s with host := hostActs s.host acts }) ∧
      (v.getLsbD 0 = false →
        exec (.registerWrite 0x08 v acts agrees) s =
          exec (.clockSourceSelect (v.getLsbD 1)) { s with host := hostActs s.host acts }) ∧
      exec (.registerWrite 0x10 v acts agrees) s = exec (.summon v acts agrees) s ∧
      exec (.registerWrite 0x18 v acts agrees) s =
        exec (.attentionMaskWrite v) { s with host := hostActs s.host acts } ∧
      ∀ offset : BitVec 5, offset ∉ [0x00, 0x04, 0x08, 0x10, 0x18] →
        exec (.registerWrite offset v acts agrees) s =
          .next { s with host := hostActs s.host acts }

/-- R173: a read of ATTENTION returns the bits set and clears them, and the interrupt line then falls; a
write of ATTENTION_MASK sets the seven enables, and nothing else changes by either.

A change of the maintenance input's level (R169, R170): the level is shown, ATTENTION bit 6 is set and the
Device Status Record is rewritten in RUNNING, its update count two higher (R176, log entry 19); a level
already shown changes nothing. -/
def Obligations.AttentionAndMaintenanceAreShown : Prop :=
  (∀ (v : Word32) (s : State),
    (∃ t, exec .attentionRead s = .next t ∧
      t = { s with attention := 0, readData := s.attention.setWidth 32 } ∧ interruptLine t = false) ∧
    ∃ t, exec (.attentionMaskWrite v) s = .next t ∧ t = { s with attentionMask := v.setWidth 7 } ∧
      (interruptLine t = true ↔ s.attention &&& v.setWidth 7 ≠ 0)) ∧
  (∀ (b : Bool) (s : State),
    (s.maintenance = b → exec (.maintenanceInputChange b) s = .next s) ∧
      (s.maintenance ≠ b →
        ∃ t, exec (.maintenanceInputChange b) s = .next t ∧ t.maintenance = b ∧
          t.attention = s.attention ||| attentionBit 6 ∧
          (s.device ≠ .running → t.host = s.host ∧ t.statusCount = s.statusCount) ∧
          (s.device = .running → t.statusCount = (s.statusCount + 2) % 2 ^ 32) ∧
          (shapeOk s → memKept [(deviceStatusAddr s, deviceStatusSize)] s t) ∧
          t.device = s.device ∧ t.lanes = s.lanes ∧ t.licences = s.licences ∧
          t.clockUnit = s.clockUnit ∧ t.journal = s.journal ∧ t.inputs = s.inputs ∧
          t.engine = s.engine ∧ t.pending = s.pending))

/-- HALTED (R172): a failed access of the Booth Table in RUNNING halts the device with the direction and the
area; running lanes end at once with cause EMERGENCY, an ARMED lane is READY, every contact output opens,
and nothing more is written to host memory. Every line carries zero (R153), and the samples played before stand
(log entry 20). In any other device state nothing happens. -/
def Obligations.FailedTableAccessHalts : Prop :=
  ∀ (dir : AccessDir) (area : HaltArea) (s : State),
    (s.device = .running →
      ∃ t, exec (.tableAccessFailure dir area) s = .next t ∧ t.device = .halted ∧
        t.reason = (match dir with | .read => .haltRead | .write => .haltWrite) ∧
        t.haltArea = some area ∧ t.attention = s.attention ||| attentionBit 6 ∧
        (∀ l, linesCut (s.lane l) (t.lane l)) ∧
        (∀ l, (t.lane l).contacts = 0 ∧ (t.lane l).p = (s.lane l).p ∧
          (t.lane l).sound.period = silence ∧
          (t.lane l).loaded = (s.lane l).loaded ∧ (t.lane l).tracks = (s.lane l).tracks ∧
          (inRunStates (s.lane l).state = true →
            (t.lane l).state = .ended ∧ (t.lane l).lastCause = .emergency ∧ timersClear (t.lane l) ∧
              (t.lane l).sound.applied = List.replicate 24 .mute ∧ (t.lane l).tally.phase ≠ .running) ∧
          ((s.lane l).state = .armed → (t.lane l).state = .ready ∧ (t.lane l).startSecond = none) ∧
          (inRunStates (s.lane l).state = false → (s.lane l).state ≠ .armed →
            bare (t.lane l) =
              bare
                { s.lane l with
                  contacts := 0
                  sound :=
                    { (s.lane l).sound with period := silence, silenced := true } })) ∧
        t.host = s.host ∧ t.journal = s.journal ∧ t.inputs = s.inputs ∧ t.engine = s.engine ∧
        t.pending = s.pending) ∧
      (s.device ≠ .running → exec (.tableAccessFailure dir area) s = .next s)

/-! ## The Clock Unit -/

/-- A change of the clock source selection (R154, R169): INTERNAL at once; from INTERNAL, EXTERNAL when the
reference is locked and HOLDOVER when it is not, in every device state.

The reference's lock and loss (R154 to R156): a loss in EXTERNAL passes to HOLDOVER; a lock in HOLDOVER is
followed by the switch back to EXTERNAL at once when no lane runs; a lane's state is never touched. That
CLOCK_SWITCH_BACK is the switch run where it is due is log entry 9.

In WAIT_CLOCK a lock, or the selection of the internal source, leads to WAIT_TABLE, and a stored
TABLE_BASE_HI is then accepted as a write of it is (R154, R170, R171). In RESET a lock sets the flag and
leaves the source ACQUIRING: that the source is ACQUIRING there until the reset work ends is the model's
inference (log entry 21).

While the reference is locked in HOLDOVER, the command by which the last running lane leaves makes the
switch back (R156). -/
def Obligations.ClockSourceFollowsSelectionAndReference : Prop :=
  (∀ s : State,
    (s.device ≠ .waitClock →
      ∃ t, exec (.clockSourceSelect false) s = .next t ∧ t.clockUnit.external = false ∧
        t.clockUnit.source = .internal ∧ t.clockUnit.refLocked = s.clockUnit.refLocked ∧
        (s.clockUnit.source = .internal →
          t = { s with clockUnit := { s.clockUnit with external := false } }) ∧
        t.device = s.device ∧ t.lanes = s.lanes ∧ t.licences = s.licences ∧ t.inputs = s.inputs ∧
        t.pending = s.pending ∧
        (shapeOk s → memKept [(deviceStatusAddr s, deviceStatusSize)] s t)) ∧
    ∃ t, exec (.clockSourceSelect true) s = .next t ∧ t.clockUnit.external = true ∧
      t.clockUnit.refLocked = s.clockUnit.refLocked ∧
      (s.clockUnit.source = .internal →
        t.clockUnit.source = if s.clockUnit.refLocked then .external else .holdover) ∧
      (s.clockUnit.source ≠ .internal → t.clockUnit.source = s.clockUnit.source) ∧
      t.device = s.device ∧ t.lanes = s.lanes ∧ t.licences = s.licences ∧ t.inputs = s.inputs ∧
      t.pending = s.pending ∧
      (shapeOk s → memKept [(deviceStatusAddr s, deviceStatusSize)] s t)) ∧
  (∀ s : State,
    (s.clockUnit.refLocked = true →
      ∃ t, exec .referenceLoss s = .next t ∧ t.clockUnit.refLocked = false ∧
        t.clockUnit.source =
          (if s.clockUnit.source = .external then .holdover else s.clockUnit.source) ∧
        t.clockUnit.external = s.clockUnit.external ∧ t.lanes = s.lanes ∧ t.device = s.device ∧
        t.licences = s.licences ∧ t.inputs = s.inputs ∧ t.pending = s.pending ∧
        (shapeOk s → memKept (reportAreas s) s t)) ∧
    (s.clockUnit.refLocked = false → s.clockUnit.source ≠ .acquiring →
      ∃ t, exec .referenceLock s = .next t ∧ t.clockUnit.refLocked = true ∧
        t.clockUnit.source =
          (if s.clockUnit.source = .holdover ∧ anyLaneRunning s = false then .external
          else s.clockUnit.source) ∧
        t.clockUnit.external = s.clockUnit.external ∧ t.lanes = s.lanes ∧ t.device = s.device ∧
        t.licences = s.licences ∧ t.inputs = s.inputs ∧ t.pending = s.pending ∧
        (shapeOk s → memKept (reportAreas s) s t)) ∧
    (s.clockUnit.source = .holdover → s.clockUnit.refLocked = true → anyLaneRunning s = false →
      ∃ t, exec .clockSwitchBack s = .next t ∧ t.clockUnit.source = .external ∧
        t.clockUnit.refLocked = true ∧ t.clockUnit.external = s.clockUnit.external ∧
        t.lanes = s.lanes ∧ t.device = s.device ∧ t.licences = s.licences ∧ t.inputs = s.inputs ∧
        t.pending = s.pending ∧ (shapeOk s → memKept (reportAreas s) s t))) ∧
  (∀ (u : ClockUnit) (c : Instr) (s : State),
    (c = .clockSourceSelect false ∧ u = ⟨false, .internal, s.clockUnit.refLocked⟩) ∨
        (c = .referenceLock ∧ s.clockUnit.refLocked = false ∧ s.clockUnit.source = .acquiring ∧
          u = ⟨s.clockUnit.external, .external, true⟩) →
    let left :=
      { s with
        device := .waitTable
        clockUnit := u
        attention := s.attention ||| attentionBit 6
        hiStored := false }
    s.device = .waitClock →
      (s.hiStored = false → exec c s = .next left) ∧
        (s.hiStored = true → exec c s = exec (.tableBaseHiWrite s.tableHi HostActs.none) left)) ∧
  (∀ s : State, s.device = .reset → s.clockUnit.refLocked = false → s.clockUnit.source = .acquiring →
    exec .referenceLock s =
      .next { s with clockUnit := { s.clockUnit with refLocked := true } }) ∧
  (∀ (c : Instr) (s t : State), s.clockUnit.source = .holdover → s.clockUnit.refLocked = true →
    anyLaneRunning s = true → exec c s = .next t → anyLaneRunning t = false → t.device ≠ .reset →
    t.clockUnit.source = .external)

/-! ## The Table Interface -/

/-- R175, steps 1, 3, 5 and 6, and the slot judgement of step 2: in RUNNING a kind that its slot does not
know is answered UNKNOWN_REQUEST; nothing else of the part changes but what an answer writes. Outside
RUNNING no slot is served.

R175, step 3: a request whose parameter block is longer than 8,192 bytes is answered PARAM with
BLOCK_LENGTH, and one whose block cannot be read PARAM with READ_ERROR, whatever its kind; its owner sees
nothing of it. Outside RUNNING no request of any kind is taken (R174). -/
def Obligations.UnservableRequestsAreAnswered : Prop :=
  (∀ (n : SlotId) (kind : Byte) (rq : Req) (s : State), kindUnknown n kind.toNat = true →
    (s.device = .running →
      ∃ t, exec (.unknownRequestKind n kind rq) s = .next t ∧
        answered n kind.toNat rq ⟨.unknownRequest, .none, 0, []⟩ s t ∧
        (∀ l, bare (t.lane l) = bare (s.lane l)) ∧ registersKept s t ∧ unitsKept s t ∧
        t.licences = s.licences ∧ t.clockUnit = s.clockUnit ∧ unreported s t ∧
        (shapeOk s →
          memKept (slotArea s n :: (match n with | .lane l => [statusArea s l] | .device => [])) s t)) ∧
      (s.device ≠ .running → exec (.unknownRequestKind n kind rq) s = .next s)) ∧
  (∀ (l : LaneId) (rq : Req) (agrees : Bool) (kind : Nat) (c : Instr) (n : SlotId) (s : State),
    ((kind, c) ∈ laneRequests l rq ∧ n = .lane l) ∨ ((kind, c) ∈ deviceRequests rq agrees ∧ n = .device) →
    (s.device ≠ .running → exec c s = .next s) ∧
      (s.device = .running → 8192 < rq.blockLen.toNat →
        ∃ t, exec c s = .next t ∧ answered n kind rq ⟨.param, .blockLength, 0, []⟩ s t ∧
          (∀ m, bare (t.lane m) = bare (s.lane m)) ∧ t.licences = s.licences ∧
          t.inputs = s.inputs ∧ unreported s t) ∧
      (s.device = .running → rq.blockLen.toNat ≤ 8192 → rq.blockLen.toNat ≠ 0 →
        accessFails s.host.readFails rq.blockAddr.toNat rq.blockLen.toNat = true →
        ∃ t, exec c s = .next t ∧ answered n kind rq ⟨.param, .readError, 0, []⟩ s t ∧
          (∀ m, bare (t.lane m) = bare (s.lane m)) ∧ t.licences = s.licences ∧
          t.inputs = s.inputs ∧ unreported s t))

/-- A summon of one slot (R174): in RUNNING with no other flag set and nothing withheld, a POSTED request of
a known kind is taken exactly as its own row says, and a slot in any other state is left alone; in the two
waits the flags stay set; in RESET and HALTED the write is ignored (log entry 23). -/
def Obligations.SummonTakesThePostedRequest : Prop :=
  ∀ (n : SlotId) (agrees : Bool) (s : State),
    let bytes := memReadBytes s.host.mem (slotAddr s n) 64
    let mask := BitVec.ofNat 32 (2 ^ slotIndex n)
    (s.device = .running → s.summonFlags = 0 → s.journal.withheld = 0 →
      (∀ kind rq c, postedRequest bytes = some (kind, rq) →
        ((∃ l, n = .lane l ∧ (kind, c) ∈ laneRequests l rq) ∨
          (n = .device ∧ (kind, c) ∈ deviceRequests rq agrees)) →
        ∃ t, exec (.summon mask HostActs.none agrees) s = .next t ∧ exec c s = .next t ∧
          t.summonFlags = 0) ∧
      (postedRequest bytes = none → exec (.summon mask HostActs.none agrees) s = .next s)) ∧
      (s.device = .waitClock ∨ s.device = .waitTable →
        exec (.summon mask HostActs.none agrees) s =
          .next { s with summonFlags := s.summonFlags ||| mask.setWidth 5 }) ∧
      (s.device = .reset ∨ s.device = .halted → exec (.summon mask HostActs.none agrees) s = .next s)

/-- An entry offered to the journal (R177, R178): with room by the read index last read and nothing withheld
it is written at the write index, its 32 bytes as Record Layouts gives them, and the index and the sequence
rise; a ring that is full when its read index is read again withholds it and counts it; outside RUNNING it
is dropped. Where the re-read finds room the entry is written so, and where entries are withheld a GAP entry
with their count goes before it, which may leave it no room.

The re-read of the journal's read index while entries are withheld (R177, R178): with room, a GAP entry
carrying the count is written and the count returns to 0, in the header too (log entry 19); a ring still
full keeps it. Nothing of the lanes, the licences or the units changes. -/
def Obligations.JournalWritesWithholdsAndReportsGaps : Prop :=
  (∀ (e : JournalEntry) (s : State), shapeOk s →
    (s.device = .running → s.journal.withheld = 0 →
      (s.journal.writeIndex + 1) % 256 ≠ s.journal.readIndex →
      (offer e s).journal.writeIndex = (s.journal.writeIndex + 1) % 256 ∧
        (offer e s).journal.seq = (s.journal.seq + 1) % 2 ^ 32 ∧ (offer e s).journal.withheld = 0 ∧
        (offer e s).attention &&& attentionBit 5 ≠ 0 ∧
        memReadBytes (offer e s).host.mem (journalAddr s s.journal.writeIndex) 32 = entryBytes s e ∧
        memReadBytes (offer e s).host.mem (tableAddr s + 4) 2 =
          le 2 ((s.journal.writeIndex + 1) % 256)) ∧
      (s.device = .running →
        (s.journal.withheld ≠ 0 ∨ (s.journal.writeIndex + 1) % 256 = s.journal.readIndex) →
        (s.journal.writeIndex + 1) % 256 =
          fromLe (memReadBytes s.host.mem (tableAddr s + 8) 2) % 256 →
        (offer e s).journal.writeIndex = s.journal.writeIndex ∧
          (offer e s).journal.seq = s.journal.seq ∧
          (offer e s).journal.withheld = min 65535 (s.journal.withheld + 1) ∧
          (offer e s).attention = s.attention) ∧
      (s.device = .running →
        (s.journal.withheld ≠ 0 ∨ (s.journal.writeIndex + 1) % 256 = s.journal.readIndex) →
        let read := fromLe (memReadBytes s.host.mem (tableAddr s + 8) 2) % 256
        (s.journal.writeIndex + 1) % 256 ≠ read →
        (offer e s).journal.readIndex = read ∧
          (s.journal.withheld = 0 →
            (offer e s).journal.writeIndex = (s.journal.writeIndex + 1) % 256 ∧
              (offer e s).journal.seq = (s.journal.seq + 1) % 2 ^ 32 ∧
              (offer e s).journal.withheld = 0 ∧ journaled 0 e s (offer e s)) ∧
          (s.journal.withheld ≠ 0 →
            journaled 0 ⟨.gap, none, 0, [s.journal.withheld]⟩ s (offer e s) ∧
              ((s.journal.writeIndex + 2) % 256 ≠ read →
                (offer e s).journal.writeIndex = (s.journal.writeIndex + 2) % 256 ∧
                  (offer e s).journal.seq = (s.journal.seq + 2) % 2 ^ 32 ∧
                  (offer e s).journal.withheld = 0 ∧ journaled 1 e s (offer e s)) ∧
              ((s.journal.writeIndex + 2) % 256 = read →
                (offer e s).journal.writeIndex = (s.journal.writeIndex + 1) % 256 ∧
                  (offer e s).journal.seq = (s.journal.seq + 1) % 2 ^ 32 ∧
                  (offer e s).journal.withheld = 1))) ∧
      (s.device ≠ .running → offer e s = s)) ∧
  (∀ s : State, shapeOk s → s.device = .running → s.journal.withheld ≠ 0 →
    ∃ t, exec .journalGap s = .next t ∧
      t.journal.readIndex = fromLe (memReadBytes s.host.mem (tableAddr s + 8) 2) % 256 ∧
      ((s.journal.writeIndex + 1) % 256 = t.journal.readIndex →
        t = { s with journal := { s.journal with readIndex := t.journal.readIndex } }) ∧
      ((s.journal.writeIndex + 1) % 256 ≠ t.journal.readIndex →
        t.journal.withheld = 0 ∧ t.journal.writeIndex = (s.journal.writeIndex + 1) % 256 ∧
          t.journal.seq = (s.journal.seq + 1) % 2 ^ 32 ∧ t.attention &&& attentionBit 5 ≠ 0 ∧
          memReadBytes t.host.mem (journalAddr s s.journal.writeIndex) 32 =
            entryBytes s ⟨.gap, none, 0, [s.journal.withheld]⟩ ∧
          memReadBytes t.host.mem (tableAddr s + 6) 2 = [0, 0]) ∧
      t.lanes = s.lanes ∧ t.licences = s.licences ∧ registersKept s t ∧ unitsKept s t ∧
      t.clockUnit = s.clockUnit ∧ memKept (reportAreas s) s t)

/-- A lane request that the lane's state does not accept is refused with STATE, and the lane is unchanged
(the table of lane requests in Lane Operation, R3 to R33, R122, R143); a Start At whose second is out of
range is refused with PARAM (R12), before its state is judged (log entry 15). -/
def Obligations.UnacceptedRequestsLeaveTheLane : Prop :=
  (∀ (l : LaneId) (rq : Req) (kind : Nat) (c : Instr) (s : State), (kind, c) ∈ laneRequests l rq →
    reaches (.lane l) rq s → acceptedIn kind (s.lane l) = false →
    (kind = 8 → wide rq.w0 rq.w1 ≤ 2 ^ 40 - 1) →
    ∃ t, exec c s = .next t ∧ bare (t.lane l) = bare (s.lane l) ∧ t.licences = s.licences ∧
      t.clockUnit = s.clockUnit ∧ unreported s t ∧
      laneServed l kind rq ⟨.state, .none, 0, []⟩ [] s t) ∧
  (∀ (l : LaneId) (rq : Req) (s : State), reaches (.lane l) rq s → 2 ^ 40 - 1 < wide rq.w0 rq.w1 →
    ∃ t, exec (.startAt l rq) s = .next t ∧ unreported s t ∧
      laneRefused l 8 rq ⟨.param, .none, 0, []⟩ s t)

/-! ## Loading, unloading, rewinding, resetting -/

/-- Load Show (R5): a show that passes every check puts the lane in LOADING with P at 0, its tally BUILT
with every licence PENDING, each track at its first position, and the stores of reels 1 and 2 asked for; the
answer carries N, the reel count and the number of licences.

A show that fails a check (R4) is refused with the first that fails, in order, and the lane stays EMPTY: the
reads and the reel count (in the order of log entry 14), the edit rate, the seven checks of every reel, N,
the keys, the number of licences, and the lane masks. The model's own in it: the reel that SAMPLE_RATE names
(log entry 59), that the other refusals name the lowest reel, or the first licence, that fails (log entry 78),
and that KEY_UNKNOWN gives its reel in the result index and 0 in result word 0 (log entry 18). -/
def Obligations.LoadShowEntersLoading : Prop :=
  (∀ (l : LaneId) (rq : Req) (s : State) (sh : Show), reaches (.lane l) rq s →
    (s.lane l).state = .empty → (s.lane l).link.state ≠ .testing →
    loadableShow (markTaken (.lane l) s) l (wide rq.w0 rq.w1) = .ok sh →
    ∃ t, exec (.loadShow l rq) s = .next t ∧ (t.lane l).state = .loading ∧
      (t.lane l).loaded = some sh ∧ (t.lane l).p = 0 ∧ timersClear (t.lane l) ∧
      (t.lane l).lastCause = (s.lane l).lastCause ∧ (t.lane l).tally.phase = .built ∧
      (t.lane l).tally.entries =
        (showLicences sh.reels).map (fun id =>
          ⟨id, totalFrames (sh.reels.filter (reelUses id)),
            (totalFrames (sh.reels.filter (reelUses id)) *
              ((findLicence s.licences.records id).map Licence.percent).getD 100 + 99) / 100,
            0, .pending⟩) ∧
      (t.lane l).tracks = flushedTracks sh 1 ∧ (t.lane l).subWanted = ⟨none, none⟩ ∧
      (t.lane l).lastReal = none ∧ storesAsked sh 1 (t.lane l).overlay ∧
      (t.lane l).overlay.tileMap = (s.lane l).overlay.tileMap ∧
      (t.lane l).generation = (s.lane l).generation ∧ (t.lane l).link = (s.lane l).link ∧
      settingsKept (s.lane l) (t.lane l) ∧ mapKept (s.lane l) (t.lane l) ∧
      (t.lane l).sound.applied = (s.lane l).sound.applied ∧ t.licences = s.licences ∧
      laneServed l 1 rq
        ⟨.ok, .none, 0, [sh.total, sh.reels.length, (showLicences sh.reels).length]⟩ [] s t) ∧
  (∀ (l : LaneId) (rq : Req) (s : State), reaches (.lane l) rq s → (s.lane l).state = .empty →
    (s.lane l).link.state ≠ .testing →
    ∃ t, exec (.loadShow l rq) s = .next t ∧
      let host := (markTaken (.lane l) s).host
      let list := wide rq.w0 rq.w1
      let refused := fun (a : Answer) => laneRefused l 1 rq a s t
      (hostRead host list 32 = none → refused ⟨.param, .readError, 0, []⟩) ∧
        (∀ bs, hostRead host list 32 = some bs →
          (field bs 1 1 = 0 ∨ 64 < field bs 1 1 → refused ⟨.param, .reelCount, 0, []⟩) ∧
            ∀ i, 1 ≤ field bs 1 1 → field bs 1 1 ≤ 64 →
              readReels host list (field bs 1 1) 1 = .error i →
              refused ⟨.param, .readError, i, []⟩) ∧
        ∀ raw, readShow host list = .ok raw →
          let sh := showOfRaw s.licences.keys raw
          let checks := reelChecks raw
          (raw.rate ∉ [24, 25, 30, 48, 50, 60] → refused ⟨.param, .editRate, 0, []⟩) ∧
            (raw.rate ∈ [24, 25, 30, 48, 50, 60] →
              (∀ k ok why i, checks[k]? = some (ok, why) →
                (∀ q ∈ checks.take k, ∀ r ∈ raw.reels, q.1 r = true) → firstBad ok raw.reels i →
                refused ⟨.param, why, i + 1, []⟩) ∧
              ((∀ q ∈ checks, ∀ r ∈ raw.reels, q.1 r = true) →
                (16777215 < sh.total → refused ⟨.param, .length, 0, []⟩) ∧
                (sh.total ≤ 16777215 →
                  (∀ i, firstBad (keysKnown s.licences.keys) raw.reels i →
                    refused ⟨.licence, .keyUnknown, i + 1, []⟩) ∧
                  ((∀ r ∈ raw.reels, keysKnown s.licences.keys r = true) →
                    (8 < (showLicences sh.reels).length →
                      refused ⟨.param, .licenceCount, 0, []⟩) ∧
                    ∀ i id, (showLicences sh.reels).length ≤ 8 →
                      firstBad
                        (fun j => (findLicence s.licences.records j).any fun x => admitsLane x l)
                        (showLicences sh.reels) i →
                      (showLicences sh.reels)[i]? = some id →
                      refused ⟨.licence, .lane, 0, [id]⟩)))))

/-- Unload (R7, R103): the lane is EMPTY with its show, queues, wanted records and stores gone, its tally
closed at once with every RESERVED entry released, its sound mute at once with period samples of zero
(R147); the settings, the sound map, the tile map and the link but for its list and unseen count stay. The
tally is ABSENT; its run-end cause NONE and window count 0 are the model's choice (log entry 53), here and
at Lane Reset.

Lane Reset (R9): in every state the lane becomes EMPTY as after power-on, its options, level, sound map,
indicators, fault record and contacts at their reset values (R142, R147), its RESERVED entries released; the
link's error, unseen and late counts and its held test result are cleared, with the test error count (without
a test in progress too: log entry 65), and the rest of it stays but for its list (R107). After each the lines
carry zero, and the samples played before stand (log entry 20). -/
def Obligations.UnloadAndLaneResetEmptyTheLane : Prop :=
  (∀ (l : LaneId) (rq : Req) (s : State), reaches (.lane l) rq s → (s.lane l).state ≠ .empty →
    ∃ t, exec (.unload l rq) s = .next t ∧ (t.lane l).state = .empty ∧ (t.lane l).loaded = none ∧
      (t.lane l).p = 0 ∧ timersClear (t.lane l) ∧ (t.lane l).startSecond = none ∧
      (t.lane l).lastCause = .unload ∧ (t.lane l).tally = absentTally ∧
      (t.lane l).tracks = emptyTracks ∧ (t.lane l).subWanted = ⟨none, none⟩ ∧
      (t.lane l).lastReal = none ∧ (t.lane l).generation = (s.lane l).generation + 1 ∧
      (t.lane l).overlay.current1 = noStore ∧ (t.lane l).overlay.current2 = noStore ∧
      (t.lane l).overlay.next1 = noStore ∧ (t.lane l).overlay.next2 = noStore ∧
      (t.lane l).overlay.tileMap = (s.lane l).overlay.tileMap ∧
      (t.lane l).sound.applied = List.replicate 24 .mute ∧
      (t.lane l).sound.target = List.replicate 24 .mute ∧ settingsKept (s.lane l) (t.lane l) ∧
      (t.lane l).sound.period = List.replicate 24 [] ∧ mapKept (s.lane l) (t.lane l) ∧
      linesCut (s.lane l) (t.lane l) ∧
      (t.lane l).link =
        { (s.lane l).link with
          awaiting := (t.lane l).link.awaiting
          unseen := (t.lane l).link.unseen } ∧
      (tallyOpen (s.lane l).tally = false → (t.lane l).link = (s.lane l).link ∧
        (t.lane l).indicators = (s.lane l).indicators) ∧
      t.licences = licencesReleased (s.lane l) s.licences ∧
      laneServed l 2 rq ⟨.ok, .none, 0, []⟩ [] s t) ∧
  (∀ (l : LaneId) (rq : Req) (s : State), reaches (.lane l) rq s →
    ∃ t, exec (.laneReset l rq) s = .next t ∧ (t.lane l).state = .empty ∧
      (t.lane l).loaded = none ∧ (t.lane l).p = 0 ∧ timersClear (t.lane l) ∧
      (t.lane l).startSecond = none ∧ (t.lane l).lastCause = .none ∧
      (t.lane l).options = ⟨24, .tolerant, 120, 48, 30, 1, false, 0, 0⟩ ∧ (t.lane l).level = 70 ∧
      (t.lane l).indicators = ⟨0, 0, 0⟩ ∧ (t.lane l).faultRecord = none ∧ (t.lane l).contacts = 0 ∧
      (t.lane l).tally = absentTally ∧ (t.lane l).tracks = emptyTracks ∧
      (t.lane l).subWanted = ⟨none, none⟩ ∧ (t.lane l).lastReal = none ∧
      (t.lane l).generation = (s.lane l).generation + 1 ∧
      (t.lane l).overlay.current1 = noStore ∧ (t.lane l).overlay.current2 = noStore ∧
      (t.lane l).overlay.next1 = noStore ∧ (t.lane l).overlay.next2 = noStore ∧
      soundAtReset (t.lane l).sound ∧ linesCut (s.lane l) (t.lane l) ∧
      (t.lane l).link =
        { (s.lane l).link with
          awaiting := (t.lane l).link.awaiting
          errorCount := 0
          unseen := 0
          late := 0
          test := { (s.lane l).link.test with errors := 0 }
          heldTest := ⟨.none, 0, 0⟩ } ∧
      t.licences = licencesReleased (s.lane l) s.licences ∧
      laneServed l 4 rq ⟨.ok, .none, 0, []⟩ [] s t)

/-- Rewind (R8, R104): from ENDED the same show is prepared again from its first frame, with its tally
rebuilt, its queues flushed to the first positions and its stores asked for anew; the last cause and the
settings stay. -/
def Obligations.RewindPreparesTheShowAgain : Prop :=
  ∀ (l : LaneId) (rq : Req) (s : State) (sh : Show), reaches (.lane l) rq s →
    (s.lane l).state = .ended → (s.lane l).link.state ≠ .testing → (s.lane l).loaded = some sh →
    ∃ t, exec (.rewind l rq) s = .next t ∧ (t.lane l).state = .loading ∧
      (t.lane l).loaded = some sh ∧ (t.lane l).p = 0 ∧ timersClear (t.lane l) ∧
      (t.lane l).lastCause = (s.lane l).lastCause ∧ (t.lane l).tally.phase = .built ∧
      (t.lane l).tally.entries =
        (s.lane l).tally.entries.map (fun e => { e with status := .pending, confirmed := 0 }) ∧
      (t.lane l).tracks = flushedTracks sh 1 ∧ (t.lane l).subWanted = ⟨none, none⟩ ∧
      (t.lane l).lastReal = none ∧ (t.lane l).generation = (s.lane l).generation + 1 ∧
      storesAsked sh 1 (t.lane l).overlay ∧
      (t.lane l).overlay.tileMap = (s.lane l).overlay.tileMap ∧
      settingsKept (s.lane l) (t.lane l) ∧ mapKept (s.lane l) (t.lane l) ∧
      (t.lane l).link.state = (s.lane l).link.state ∧
      t.licences = licencesReleased (s.lane l) s.licences ∧
      laneServed l 3 rq ⟨.ok, .none, 0, []⟩ [] s t

/-! ## Settings -/

/-- Set Lane Options (R3): every numeric value is clamped into its range and all options take their new
values together; a code that names no mode is refused and no option changes. -/
def Obligations.SetLaneOptionsClamps : Prop :=
  ∀ (l : LaneId) (rq : Req) (s : State), reaches (.lane l) rq s →
    (s.lane l).state = .empty ∨ (s.lane l).state = .ready ∨ (s.lane l).state = .ended →
    (rq.w1.toNat ≤ 1 → rq.w6.toNat ≤ 1 →
      ∃ t o, exec (.setLaneOptions l rq) s = .next t ∧ bare (t.lane l) = bare { s.lane l with options := o } ∧
        o.primeDepth = max 8 (min 48 rq.w0.toNat) ∧
        o.integrity = (if rq.w1.toNat = 0 then .tolerant else .strict) ∧
        o.starveLimit = max 1 (min 600 rq.w2.toNat) ∧ o.linkGrace = max 1 (min 600 rq.w3.toNat) ∧
        o.holdLimit = max 1 (min 240 rq.w4.toNat) ∧ o.fadeRate = max 1 (min 50 rq.w5.toNat) ∧
        o.liveUpdate = decide (rq.w6.toNat = 1) ∧ o.emergencyMask = rq.w7.extractLsb' 0 8 ∧
        o.emergencyValue = rq.w7.extractLsb' 8 8 ∧ t.licences = s.licences ∧
        t.clockUnit = s.clockUnit ∧ unreported s t ∧
        laneServed l 5 rq
          ⟨.ok, .none, 0,
            [o.primeDepth + 2 ^ 8 * o.integrity.ctorIdx + 2 ^ 16 * o.holdLimit + 2 ^ 24 * o.fadeRate,
              o.starveLimit + 2 ^ 16 * o.linkGrace, rq.w6.toNat,
              o.emergencyMask.toNat + 2 ^ 8 * o.emergencyValue.toNat]⟩ [] s t) ∧
      (1 < rq.w1.toNat ∨ 1 < rq.w6.toNat →
        ∃ t, exec (.setLaneOptions l rq) s = .next t ∧ bare (t.lane l) = bare (s.lane l) ∧
          t.licences = s.licences ∧ unreported s t ∧
          laneServed l 5 rq ⟨.param, .mode, 0, []⟩ [] s t)

/-- Set Level (R33, R148) sets the clamped level and re-forms the targets; Test Indicators (R32) answers the
hold values, as one mask word (log entry 18), and clears them. Neither changes anything else of the lane. -/
def Obligations.LevelAndIndicatorRequests : Prop :=
  ∀ (l : LaneId) (rq : Req) (s : State), reaches (.lane l) rq s →
    ((s.lane l).state ≠ .empty →
      ∃ t, exec (.setLevel l rq) s = .next t ∧
        bare (t.lane l) =
          bare
            { s.lane l with
              level := min 100 rq.w0.toNat
              sound :=
                { (s.lane l).sound with
                  target :=
                    targetGains (min 100 rq.w0.toNat) (s.lane l).sound.trims
                      (decide ((s.lane l).state = .playing)) } } ∧
        t.licences = s.licences ∧ t.clockUnit = s.clockUnit ∧ unreported s t ∧
        laneServed l 15 rq ⟨.ok, .none, 0, [min 100 rq.w0.toNat]⟩ [] s t) ∧
      ∃ t, exec (.testIndicators l rq) s = .next t ∧
        bare (t.lane l) =
          bare { s.lane l with indicators := { (s.lane l).indicators with held := 0 } } ∧
        t.licences = s.licences ∧ t.clockUnit = s.clockUnit ∧ unreported s t ∧
        laneServed l 16 rq ⟨.ok, .none, 0, [(s.lane l).indicators.held.toNat]⟩ [] s t

/-- Write Sound Map, ROUTING (R143 to R145): a valid section takes effect at once outside the run states,
discarding a staged copy and moving the map state on, and is staged in them; a source code that names
nothing is refused with the lowest output at fault, counted from 1 (log entry 26).

Write Sound Map, TRIMS (R143 to R145): after ROUTING, the trims clamped into −200 to +60 take effect at once
outside the run states, completing the map, and are staged in them; before ROUTING it is refused SEQUENCE.
Another section code, or a block of another length, is refused PARAM SECTION.

At the lane's next frame boundary, in whatever state it stands, the staged sections replace the active ones
and the targets are re-formed (R145, R148), and a frame period of the lane's length begins (R34, R147). It is
stated before the look at the lane's slot, which the model puts after the boundary's own work (log entry 11). -/
def Obligations.SoundMapSectionsAreAppliedOrStaged : Prop :=
  (∀ (l : LaneId) (rq : Req) (s : State) (b : List Byte), s.device = .running →
    blockCopy (.lane l) rq s = .ok b → acceptedIn 6 (s.lane l) = true → rq.w0 = 0 → b.length = 24 →
    ((∀ i < 24, (sourceOf (field b i 1)).isSome = true) →
      ∃ t r, exec (.writeSoundMap l rq) s = .next t ∧ r.length = 24 ∧
        (∀ i < 24, r[i]? = sourceOf (field b i 1)) ∧
        (inRunStates (s.lane l).state = true →
          (t.lane l).sound.stagedRouting = some r ∧
            (t.lane l).sound.routing = (s.lane l).sound.routing ∧
            (t.lane l).sound.stage = (s.lane l).sound.stage) ∧
        (inRunStates (s.lane l).state = false →
          (t.lane l).sound.stagedRouting = none ∧ (t.lane l).sound.routing = r ∧
            (t.lane l).sound.stage =
              (if (s.lane l).sound.stage = .complete then .complete else .routing)) ∧
        bare (t.lane l) =
          bare { s.lane l with
            sound :=
              { (s.lane l).sound with
                stagedRouting := (t.lane l).sound.stagedRouting
                routing := (t.lane l).sound.routing
                stage := (t.lane l).sound.stage
                target := targetGains (s.lane l).level (s.lane l).sound.trims
                  (decide ((s.lane l).state = .playing)) } } ∧
        t.licences = s.licences ∧ unreported s t ∧
        laneServed l 6 rq
          ⟨.ok, .none, 0,
            [(if (t.lane l).sound.stage = .complete then 1 else 0) + 2 ^ 8 *
                (if (t.lane l).sound.stage = .noSection then 0 else 1),
              if inRunStates (s.lane l).state then 1 else 0, 0]⟩ [] s t) ∧
      ∀ i < 24, sourceOf (field b i 1) = none → (∀ j < i, (sourceOf (field b j 1)).isSome = true) →
        ∃ t, exec (.writeSoundMap l rq) s = .next t ∧ bare (t.lane l) = bare (s.lane l) ∧
          laneServed l 6 rq ⟨.param, .source, i + 1, []⟩ [] s t) ∧
  (∀ (l : LaneId) (rq : Req) (s : State) (b : List Byte), s.device = .running →
    blockCopy (.lane l) rq s = .ok b → acceptedIn 6 (s.lane l) = true → rq.w0 = 1 → b.length = 96 →
    ((s.lane l).sound.stage ≠ .noSection →
      ∃ t r, exec (.writeSoundMap l rq) s = .next t ∧ r.length = 24 ∧
        (∀ i < 24, r[i]? =
          some ⟨max (-200) (min 60 (fieldInt b (4 * i) 2)), (b.getD (4 * i + 2) 0).getLsbD 0⟩) ∧
        (inRunStates (s.lane l).state = true →
          (t.lane l).sound.stagedTrims = some r ∧ (t.lane l).sound.trims = (s.lane l).sound.trims ∧
            (t.lane l).sound.stage = (s.lane l).sound.stage) ∧
        (inRunStates (s.lane l).state = false →
          (t.lane l).sound.stagedTrims = none ∧ (t.lane l).sound.trims = r ∧
            (t.lane l).sound.stage = .complete) ∧
        aimedFor (decide ((s.lane l).state = .playing)) (t.lane l) ∧
        (t.lane l).sound.applied = (s.lane l).sound.applied ∧
        (t.lane l).sound.routing = (s.lane l).sound.routing ∧
        (t.lane l).state = (s.lane l).state ∧ materialKept (s.lane l) (t.lane l) ∧
        settingsKept (s.lane l) (t.lane l) ∧ t.licences = s.licences ∧ unreported s t ∧
        laneServed l 6 rq
          ⟨.ok, .none, 0,
            [(if (t.lane l).sound.stage = .complete then 1 else 0) + 2 ^ 8,
              if inRunStates (s.lane l).state then 1 else 0,
              ((List.range 24).filter fun i =>
                decide (fieldInt b (4 * i) 2 < -200) || decide (60 < fieldInt b (4 * i) 2)).length]⟩
          [] s t) ∧
      ((s.lane l).sound.stage = .noSection →
        ∃ t, exec (.writeSoundMap l rq) s = .next t ∧ bare (t.lane l) = bare (s.lane l) ∧
          laneServed l 6 rq ⟨.sequence, .none, 0, []⟩ [] s t)) ∧
  (∀ (l : LaneId) (rq : Req) (s : State) (b : List Byte), s.device = .running →
    blockCopy (.lane l) rq s = .ok b → acceptedIn 6 (s.lane l) = true →
    ¬ (rq.w0 = 0 ∧ b.length = 24) → ¬ (rq.w0 = 1 ∧ b.length = 96) →
    ∃ t, exec (.writeSoundMap l rq) s = .next t ∧ unreported s t ∧
      laneRefused l 6 rq ⟨.param, .section_, 0, []⟩ s t) ∧
  (∀ (l : LaneId) (s : State), s.clockUnit.source ≠ .acquiring →
    ∃ u, exec (.frameBoundary l) s = .next (boundaryLook l false u) ∧
      (u.lane l).sound.routing = (s.lane l).sound.stagedRouting.getD (s.lane l).sound.routing ∧
      (u.lane l).sound.trims = (s.lane l).sound.stagedTrims.getD (s.lane l).sound.trims ∧
      (u.lane l).sound.stagedRouting = none ∧ (u.lane l).sound.stagedTrims = none ∧
      (u.lane l).sound.stage = (s.lane l).sound.stage ∧
      aimedFor (decide ((u.lane l).state = .playing)) (u.lane l) ∧
      (u.lane l).sound.periodPos = 0 ∧ (u.lane l).sound.periodLen = lanePeriod (s.lane l) ∧
      boundaryKept l s u)

/-! ## Starting, holding, seeking, stopping -/

/-- Start, and Start At for a second that is not after the clock (R10 to R12): with every precondition
holding the run starts, one showing of every licence of the tally reserved.

A precondition that fails (R10) refuses either with the first that fails, in order: INPUT_ACTIVE, SOUND_MAP,
LINK, HEAD, and LICENCE with the first licence of the tally that the Licence Table refuses and its reason
(R85). The lane stays READY and nothing is reserved. A Start At with the clock invalid is refused CLOCK
(R12). That the run's tally begins with the run-end cause NONE and the window count 0 is the model's choice
(log entry 54). -/
def Obligations.StartBeginsTheRun : Prop :=
  (∀ (l : LaneId) (rq : Req) (s : State), reaches (.lane l) rq s → (s.lane l).state = .ready →
    mayStart l s →
    (∃ t, exec (.start l rq) s = .next t ∧ runBegun (s.lane l) (t.lane l) ∧
      t.licences =
        { s.licences with
          records := recordsReserved (tallyLicences (s.lane l).tally) s.licences.records } ∧
      laneServed l 7 rq ⟨.ok, .none, 0, []⟩ (partAreas (s.lane l)) s t) ∧
    (wide rq.w0 rq.w1 ≤ 2 ^ 40 - 1 → s.licences.clockValid = true →
      wide rq.w0 rq.w1 ≤ s.licences.clock →
      ∃ t, exec (.startAt l rq) s = .next t ∧ runBegun (s.lane l) (t.lane l) ∧
        t.licences =
          { s.licences with
            records := recordsReserved (tallyLicences (s.lane l).tally) s.licences.records } ∧
        laneServed l 8 rq ⟨.ok, .none, 0, []⟩ (partAreas (s.lane l)) s t)) ∧
  (∀ (l : LaneId) (rq : Req) (s : State) (kind : Nat) (c : Instr), reaches (.lane l) rq s →
    (s.lane l).state = .ready →
    (kind = 7 ∧ c = .start l rq) ∨
        (kind = 8 ∧ c = .startAt l rq ∧ s.licences.clockValid = true ∧
          wide rq.w0 rq.w1 ≤ s.licences.clock ∧ wide rq.w0 rq.w1 ≤ 2 ^ 40 - 1) →
    ∃ t, exec c s = .next t ∧
      let refused := fun (a : Answer) => laneRefused l kind rq a s t ∧ unreported s t
      (emergencyBlocks s l = true → refused ⟨.inputActive, .none, 0, []⟩) ∧
        (emergencyBlocks s l = false →
          ((s.lane l).sound.stage ≠ .complete → refused ⟨.soundMap, .none, 0, []⟩) ∧
          ((s.lane l).sound.stage = .complete →
            ((s.lane l).link.state ≠ .locked → refused ⟨.link, .none, 0, []⟩) ∧
            ((s.lane l).link.state = .locked →
              ((s.lane l).link.headStatus ≠ .ready → refused ⟨.head, .none, 0, []⟩) ∧
              ((s.lane l).link.headStatus = .ready →
                ∀ id why, startRefusedFor l s id why →
                  refused ⟨.licence, why, 0, [id]⟩))))) ∧
  (∀ (l : LaneId) (rq : Req) (s : State), reaches (.lane l) rq s → (s.lane l).state = .ready →
    s.licences.clockValid = false → wide rq.w0 rq.w1 ≤ 2 ^ 40 - 1 →
    ∃ t, exec (.startAt l rq) s = .next t ∧ laneRefused l 8 rq ⟨.clock, .none, 0, []⟩ s t)

/-- Start At for a second after the clock arms the lane (R12); Cancel Start, and Stop in ARMED, return it to
READY with the start second forgotten (R14). -/
def Obligations.StartAtArmsAndCancelStartDisarms : Prop :=
  ∀ (l : LaneId) (rq : Req) (s : State), reaches (.lane l) rq s →
    ((s.lane l).state = .ready → s.licences.clockValid = true →
      s.licences.clock < wide rq.w0 rq.w1 → wide rq.w0 rq.w1 ≤ 2 ^ 40 - 1 →
      ∃ t, exec (.startAt l rq) s = .next t ∧ (t.lane l).state = .armed ∧
        (t.lane l).startSecond = some (wide rq.w0 rq.w1) ∧ timersClear (t.lane l) ∧
        (t.lane l).lastCause = (s.lane l).lastCause ∧ materialKept (s.lane l) (t.lane l) ∧
        settingsKept (s.lane l) (t.lane l) ∧ mapKept (s.lane l) (t.lane l) ∧
        (t.lane l).sound.applied = (s.lane l).sound.applied ∧
        (t.lane l).tally = (s.lane l).tally ∧ (t.lane l).link = (s.lane l).link ∧
        t.licences = s.licences ∧ laneServed l 8 rq ⟨.ok, .none, 0, []⟩ [] s t) ∧
      ((s.lane l).state = .armed →
        ∀ kc ∈ [(9, Instr.cancelStart l rq), (13, Instr.stop l rq)],
          ∃ t, exec kc.2 s = .next t ∧ (t.lane l).state = .ready ∧ (t.lane l).startSecond = none ∧
            timersClear (t.lane l) ∧ (t.lane l).lastCause = (s.lane l).lastCause ∧
            materialKept (s.lane l) (t.lane l) ∧ settingsKept (s.lane l) (t.lane l) ∧
            mapKept (s.lane l) (t.lane l) ∧
            (t.lane l).sound.applied = (s.lane l).sound.applied ∧
            (t.lane l).tally = (s.lane l).tally ∧ (t.lane l).link = (s.lane l).link ∧
            t.licences = s.licences ∧ laneServed l kc.1 rq ⟨.ok, .none, 0, []⟩ [] s t)

/-- Hold (R18) makes the pending hold record or merges into it, and answers its cause, its "when", its
target reel and its merged count (log entry 18); Cancel Hold (R19) removes it; nothing else of the lane
changes. A hold that names neither NOW nor REEL_END is refused. -/
def Obligations.HoldsMakeMergeAndCancel : Prop :=
  ∀ (l : LaneId) (rq : Req) (s : State) (sh : Show), reaches (.lane l) rq s →
    (s.lane l).state = .playing → (s.lane l).loaded = some sh →
    (rq.w0.toNat ≤ 1 →
      ∃ t h, exec (.hold l rq) s = .next t ∧
        bare (t.lane l) = bare { s.lane l with hold := some h } ∧
        (rq.w0 = 0 → (s.lane l).hold = none → h = ⟨.operatorNow, .now, 0⟩) ∧
        (rq.w0 = 1 → (s.lane l).hold = none →
          h = ⟨.operatorReelEnd, .reelEnd (currentReel sh (s.lane l).p), 0⟩) ∧
        (∀ g, (s.lane l).hold = some g →
          h = ⟨g.cause, if rq.w0 = 0 then .now else g.when_, min 255 (g.merged + 1)⟩) ∧
        t.licences = s.licences ∧ t.clockUnit = s.clockUnit ∧ unreported s t ∧
        laneServed l 10 rq
          ⟨.ok, .none, 0,
            match h.when_ with
            | .now => [h.cause.ctorIdx, 0, 0, h.merged]
            | .reelEnd r => [h.cause.ctorIdx, 1, r, h.merged]⟩ [] s t) ∧
      (1 < rq.w0.toNat →
        ∃ t, exec (.hold l rq) s = .next t ∧ bare (t.lane l) = bare (s.lane l) ∧
          laneServed l 10 rq ⟨.param, .mode, 0, []⟩ [] s t) ∧
      ((s.lane l).hold ≠ none →
        ∃ t, exec (.cancelHold l rq) s = .next t ∧
          bare (t.lane l) = bare { s.lane l with hold := none } ∧ t.licences = s.licences ∧
          t.clockUnit = s.clockUnit ∧ unreported s t ∧
          laneServed l 11 rq ⟨.ok, .none, 0, []⟩ [] s t)

/-- Resume (R21, R66, R150): the lane plays on from P with its timers at 0, its gains mute at once to ramp
up, the last real frame forgotten and its tally untouched; an EMERGENCY input that counts as active refuses
it.

Seek (R22, R64, R162): P goes to the first frame of the sought reel, the queues are flushed to it, its
stores are asked for, the marks at or after it are cleared, the hold limit timer and the tally carry on; an
index outside the show is refused. -/
def Obligations.ResumePlaysOnAndSeekMovesToTheReel : Prop :=
  (∀ (l : LaneId) (rq : Req) (s : State), reaches (.lane l) rq s → (s.lane l).state = .held →
    (emergencyBlocks s l = false →
      ∃ t, exec (.resume l rq) s = .next t ∧ (t.lane l).state = .playing ∧
        (t.lane l).p = (s.lane l).p ∧ timersClear (t.lane l) ∧ (t.lane l).lastReal = none ∧
        (t.lane l).sound.applied = List.replicate 24 .mute ∧ aimedFor true (t.lane l) ∧
        (t.lane l).lastCause = (s.lane l).lastCause ∧ (t.lane l).tally = (s.lane l).tally ∧
        (t.lane l).loaded = (s.lane l).loaded ∧ (t.lane l).tracks = (s.lane l).tracks ∧
        (t.lane l).subWanted = (s.lane l).subWanted ∧ (t.lane l).overlay = (s.lane l).overlay ∧
        (t.lane l).link = (s.lane l).link ∧ (t.lane l).scanner = (s.lane l).scanner ∧
        settingsKept (s.lane l) (t.lane l) ∧ mapKept (s.lane l) (t.lane l) ∧
        t.licences = s.licences ∧ laneServed l 12 rq ⟨.ok, .none, 0, []⟩ [] s t) ∧
      (emergencyBlocks s l = true →
        ∃ t, exec (.resume l rq) s = .next t ∧ bare (t.lane l) = bare (s.lane l) ∧
          laneServed l 12 rq ⟨.inputActive, .none, 0, []⟩ [] s t)) ∧
  (∀ (l : LaneId) (rq : Req) (s : State) (sh : Show), reaches (.lane l) rq s →
    (s.lane l).state = .held → (s.lane l).loaded = some sh →
    (∀ r, nthReel sh rq.w0.toNat = some r →
      ∃ t, exec (.seek l rq) s = .next t ∧ (t.lane l).state = .seeking ∧ (t.lane l).p = r.start ∧
        (t.lane l).loaded = some sh ∧ (t.lane l).tracks = flushedTracks sh rq.w0.toNat ∧
        (t.lane l).subWanted = ⟨none, none⟩ ∧ (t.lane l).lastReal = none ∧
        (t.lane l).generation = (s.lane l).generation + 1 ∧
        storesAsked sh rq.w0.toNat (t.lane l).overlay ∧
        (t.lane l).overlay.tileMap = (s.lane l).overlay.tileMap ∧
        (t.lane l).holdTimer = (s.lane l).holdTimer ∧ (t.lane l).holdLimit = (s.lane l).holdLimit ∧
        (t.lane l).tally = (s.lane l).tally ∧ (t.lane l).lastCause = (s.lane l).lastCause ∧
        (t.lane l).scanner.marks =
          (s.lane l).scanner.marks.map
            (fun m => if markAtOrAfter r.start m then .clear else m) ∧
        (t.lane l).link = (s.lane l).link ∧ settingsKept (s.lane l) (t.lane l) ∧
        mapKept (s.lane l) (t.lane l) ∧ (t.lane l).sound.applied = (s.lane l).sound.applied ∧
        t.licences = s.licences ∧
        laneServed l 14 rq ⟨.ok, .none, 0, []⟩ (partAreas (s.lane l)) s t) ∧
      (nthReel sh rq.w0.toNat = none →
        ∃ t, exec (.seek l rq) s = .next t ∧ bare (t.lane l) = bare (s.lane l) ∧
          t.licences = s.licences ∧ laneServed l 14 rq ⟨.param, .reelIndex, 0, []⟩ [] s t))

/-- Stop in PLAYING, HELD and SEEKING (R23): the lane fades in STOPPING, or is ENDED at once when every
output is already mute, with cause OPERATOR, P frozen, the pending hold record gone and the run end told to
its tally. -/
def Obligations.StopFadesTheLane : Prop :=
  ∀ (l : LaneId) (rq : Req) (s : State), reaches (.lane l) rq s →
    (s.lane l).state = .playing ∨ (s.lane l).state = .held ∨ (s.lane l).state = .seeking →
    ∃ t, exec (.stop l rq) s = .next t ∧ stopsWith .operator (s.lane l) (t.lane l) ∧
      materialKept (s.lane l) (t.lane l) ∧ settingsKept (s.lane l) (t.lane l) ∧
      mapKept (s.lane l) (t.lane l) ∧ (t.lane l).link.state = (s.lane l).link.state ∧
      ((s.lane l).tally.phase = .running → hasMark (s.lane l).link.awaiting = true →
        (t.lane l).tally =
          { (s.lane l).tally with phase := .closing, window := 0, endCause := .operator } ∧
          t.licences = s.licences) ∧
      ((s.lane l).tally.phase = .running → hasMark (s.lane l).link.awaiting = false →
        (t.lane l).tally.phase = .closed ∧
          t.licences.records = recordsReleased (s.lane l).tally s.licences.records) ∧
      laneServed l 13 rq ⟨.ok, .none, 0, []⟩ [] s t

/-- Link Test on a LOCKED link of an EMPTY or ENDED lane (R122, R114): the link is TESTING with the count
and a settle of 8 ahead, no result held, its list dropped and its head status UNKNOWN; a count of 0 or above
65,535 is refused PARAM, an unlocked link LINK. That the error count and the frames sent that are held with
the result go to 0 too is log entry 64, and that the LINK_STATE entry carries the state left and the state
entered log entry 75. -/
def Obligations.LinkTestStartsOnALockedLink : Prop :=
  ∀ (l : LaneId) (rq : Req) (s : State), reaches (.lane l) rq s → acceptedIn 17 (s.lane l) = true →
    (1 ≤ rq.w0.toNat → rq.w0.toNat ≤ 65535 → (s.lane l).link.state = .locked →
      ∃ t, exec (.linkTest l rq) s = .next t ∧ (t.lane l).link.state = .testing ∧
        (t.lane l).link.test = ⟨rq.w0.toNat, 8, 0, []⟩ ∧
        (t.lane l).link.heldTest = ⟨.none, 0, 0⟩ ∧ (t.lane l).link.awaiting = [] ∧
        (t.lane l).link.headStatus = .unknown ∧ (t.lane l).link.seq = (s.lane l).link.seq ∧
        (t.lane l).overlay.tileMap = [] ∧ (t.lane l).state = (s.lane l).state ∧
        (t.lane l).loaded = (s.lane l).loaded ∧ (t.lane l).p = (s.lane l).p ∧
        (t.lane l).tracks = (s.lane l).tracks ∧ (t.lane l).sound = (s.lane l).sound ∧
        settingsKept (s.lane l) (t.lane l) ∧ linkJournaled l [2, 3] s t ∧
        laneServed l 17 rq ⟨.ok, .none, 0, []⟩ [] s t) ∧
      (rq.w0.toNat = 0 ∨ 65535 < rq.w0.toNat →
        ∃ t, exec (.linkTest l rq) s = .next t ∧ bare (t.lane l) = bare (s.lane l) ∧
          laneServed l 17 rq ⟨.param, .none, 0, []⟩ [] s t) ∧
      (1 ≤ rq.w0.toNat → rq.w0.toNat ≤ 65535 → (s.lane l).link.state ≠ .locked →
        ∃ t, exec (.linkTest l rq) s = .next t ∧ bare (t.lane l) = bare (s.lane l) ∧
          laneServed l 17 rq ⟨.link, .none, 0, []⟩ [] s t)

/-! ## The device requests -/

/-- Install Licence (R75, R78 to R80): a package that passes every check fills a record with its terms, its
derived state evaluated, in_flight 0, and counted 0 when the id is new or the installed count when it is a
replacement; every key of the package is then held in a slot of the licence, and every other licence stands.
The window values are booth clock values, their bits 40 to 63 dropped (R179, log entry 52).

A package that fails a check (R78) is refused with the first that fails, in order, and the table stands:
BAD_PACKAGE, TERMS, the three checks against an installed record of the same id, DUPLICATE_KEY with the key
id (the first of the package where several are held, log entry 50), and NO_ROOM. -/
def Obligations.InstallFillsTheRecord : Prop :=
  (∀ (rq : Req) (agrees : Bool) (s : State) (b : List Byte), s.device = .running →
    blockCopy .device rq s = .ok b → installRefusal s b agrees = none →
    ∃ t x, exec (.installLicence rq agrees) s = .next t ∧
      findLicence t.licences.records (packageOf b).id = some x ∧ x.id = (packageOf b).id ∧
      x.issue = (packageOf b).issue ∧ x.title = (packageOf b).title ∧
      x.notBefore = (packageOf b).notBefore ∧ x.notAfter = (packageOf b).notAfter ∧
      x.notBefore = field b 0x18 8 % 2 ^ 40 ∧ x.notAfter = field b 0x20 8 % 2 ^ 40 ∧
      x.allowance = (packageOf b).allowance ∧ x.percent = (packageOf b).percent ∧
      x.laneMask.toNat = (packageOf b).laneMask ∧ x.heads = (packageOf b).heads ∧ x.inFlight = 0 ∧
      (findLicence s.licences.records (packageOf b).id = none → x.counted = 0) ∧
      (∀ y, findLicence s.licences.records (packageOf b).id = some y → x.counted = y.counted) ∧
      x.state = derivedState s.licences.clockValid s.licences.clock x ∧
      x.keys.map Prod.fst = (packageOf b).keys.map Prod.fst ∧
      (∀ k ∈ x.keys, ∃ slot, t.licences.keys[k.2]? = some (some slot) ∧ slot.keyId = k.1 ∧
        slot.licence = x.id) ∧
      (∀ id, id ≠ (packageOf b).id →
        findLicence t.licences.records id = findLicence s.licences.records id) ∧
      t.licences.clock = s.licences.clock ∧ t.licences.clockValid = s.licences.clockValid ∧
      t.lanes = s.lanes ∧ t.inputs = s.inputs ∧ t.clockUnit = s.clockUnit ∧
      deviceServed 18 rq ⟨.ok, .none, 0, [x.id, x.issue, x.state.ctorIdx, x.keys.length]⟩ [] s t) ∧
  (∀ (rq : Req) (agrees : Bool) (s : State) (b : List Byte), s.device = .running →
    blockCopy .device rq s = .ok b →
    ∃ t, exec (.installLicence rq agrees) s = .next t ∧
      let k := packageOf b
      let whole := b.length = 56 + 8 * k.headCount + 24 * k.keyCount ∧
        k.target = s.licences.deviceKeyId.toNat ∧ agrees = true
      let replaces := fun (x : Licence) => x.issue < k.issue ∧ referencedBy s k.id = none ∧
        (k.allowance = 0 ∨ x.counted ≤ k.allowance)
      let refused := fun (a : Answer) => deviceRefused 18 rq a s t
      (¬ whole → refused ⟨.badPackage, .none, 0, []⟩) ∧
        (whole → ¬ termsHold k → refused ⟨.param, .terms, 0, []⟩) ∧
        (whole → termsHold k →
          (∀ x, findLicence s.licences.records k.id = some x →
            (k.issue ≤ x.issue → refused ⟨.param, .issue, 0, []⟩) ∧
              (x.issue < k.issue → referencedBy s k.id ≠ none → refused ⟨.inUse, .none, 0, []⟩) ∧
              (x.issue < k.issue → referencedBy s k.id = none → k.allowance ≠ 0 →
                k.allowance < x.counted → refused ⟨.param, .allowanceBelowCount, 0, []⟩)) ∧
          ((∀ x, findLicence s.licences.records k.id = some x → replaces x) →
            (∀ before e after, k.keys = before ++ e :: after →
              heldElsewhere s.licences.keys k.id e.1 = true →
              (∀ f ∈ before, heldElsewhere s.licences.keys k.id f.1 = false) →
              refused ⟨.param, .duplicateKey, 0, [e.1]⟩) ∧
            ((∀ e ∈ k.keys, heldElsewhere s.licences.keys k.id e.1 = false) →
              ¬ hasRoom s.licences k → refused ⟨.noRoom, .none, 0, []⟩))))

/-- Remove Licence (R75, R81): the record and its key slots are freed, and nothing of any other licence; an
unknown id is refused PARAM, a referenced licence IN_USE with the lowest lane that references it. -/
def Obligations.RemoveFreesTheLicence : Prop :=
  ∀ (rq : Req) (s : State), reaches .device rq s →
    (∀ x, findLicence s.licences.records rq.w0.toNat = some x → referencedBy s rq.w0.toNat = none →
      ∃ t, exec (.removeLicence rq) s = .next t ∧
        findLicence t.licences.records rq.w0.toNat = none ∧
        (∀ slot, some slot ∈ t.licences.keys → slot.licence ≠ rq.w0.toNat) ∧
        (∀ id, id ≠ rq.w0.toNat →
          findLicence t.licences.records id = findLicence s.licences.records id) ∧
        (∀ (i : Nat) (slot : KeySlot), s.licences.keys[i]? = some (some slot) →
          slot.licence ≠ rq.w0.toNat → t.licences.keys[i]? = some (some slot)) ∧
        t.licences.clock = s.licences.clock ∧ t.licences.clockValid = s.licences.clockValid ∧
        t.lanes = s.lanes ∧ t.inputs = s.inputs ∧ t.clockUnit = s.clockUnit ∧
        deviceServed 19 rq ⟨.ok, .none, 0, []⟩ [] s t) ∧
      (findLicence s.licences.records rq.w0.toNat = none →
        ∃ t, exec (.removeLicence rq) s = .next t ∧ t.licences = s.licences ∧ t.lanes = s.lanes ∧
          deviceServed 19 rq ⟨.param, .unknownLicence, 0, []⟩ [] s t) ∧
      ∀ x l, findLicence s.licences.records rq.w0.toNat = some x →
        laneReferences (s.lane l) rq.w0.toNat = true →
        (∀ m, laneIndex m < laneIndex l → laneReferences (s.lane m) rq.w0.toNat = false) →
        ∃ t, exec (.removeLicence rq) s = .next t ∧ t.licences = s.licences ∧ t.lanes = s.lanes ∧
          deviceServed 19 rq ⟨.inUse, .none, laneIndex l, []⟩ [] s t

/-- Read Licence (R82) writes the record image to the host's buffer, and Read Identity (R92) answers the
device key identity, in two result words (log entry 18), and the part revision; the Licence Table stands. A
failed buffer write is answered WRITE_ERROR and does not halt the device; an unknown id is answered
UNKNOWN_LICENCE, a buffer too short for the image BUFFER. The image holds the key ids with their slot
indexes (log entry 61), and its bytes without a field are 0 (log entry 62).

List Licences (R83): as many whole 12-byte entries as the buffer holds, of the installed records in
increasing order of licence id, each once where no id stands twice in the table; the answer carries the
number installed and the number written. The last two bytes of an entry are 0 (log entry 62). A failed
buffer write is answered WRITE_ERROR. That a failed write, here and at Read Licence, leaves the buffer as it
was is the model's choice (log entry 82). -/
def Obligations.LicenceAndIdentityReads : Prop :=
  (∀ (rq : Req) (s : State), reaches .device rq s →
    (∀ x, findLicence s.licences.records rq.w0.toNat = some x →
      (licenceImage x).length ≤ rq.w4.toNat →
      (accessFails s.host.writeFails (bufferAddr rq) (licenceImage x).length = false →
        bufferAddr rq + (licenceImage x).length ≤ slotAddr s .device ∨
          slotAddr s .device + 64 ≤ bufferAddr rq →
        ∃ t, exec (.readLicence rq) s = .next t ∧
          memReadBytes t.host.mem (bufferAddr rq) (licenceImage x).length = licenceImage x ∧
          t.licences = s.licences ∧ t.lanes = s.lanes ∧ unreported s t ∧
          deviceServed 20 rq ⟨.ok, .none, 0, []⟩ [(bufferAddr rq, (licenceImage x).length)] s t) ∧
      (accessFails s.host.writeFails (bufferAddr rq) (licenceImage x).length = true →
        ∃ t, exec (.readLicence rq) s = .next t ∧ t.licences = s.licences ∧ t.lanes = s.lanes ∧
          deviceServed 20 rq ⟨.param, .writeError, 0, []⟩ [] s t)) ∧
      (findLicence s.licences.records rq.w0.toNat = none →
        ∃ t, exec (.readLicence rq) s = .next t ∧ unreported s t ∧
          deviceRefused 20 rq ⟨.param, .unknownLicence, 0, []⟩ s t) ∧
      (∀ x, findLicence s.licences.records rq.w0.toNat = some x →
        rq.w4.toNat < (licenceImage x).length →
        ∃ t, exec (.readLicence rq) s = .next t ∧ unreported s t ∧
          deviceRefused 20 rq ⟨.param, .buffer, 0, []⟩ s t) ∧
      ∃ t, exec (.readIdentity rq) s = .next t ∧ t.licences = s.licences ∧ t.lanes = s.lanes ∧
        t.inputs = s.inputs ∧ t.clockUnit = s.clockUnit ∧ unreported s t ∧
        deviceServed 24 rq
          ⟨.ok, .none, 0,
            [s.licences.deviceKeyId.toNat % 2 ^ 32, s.licences.deviceKeyId.toNat / 2 ^ 32, 1]⟩ [] s t) ∧
  (∀ (rq : Req) (s : State), reaches .device rq s →
    accessFails s.host.writeFails (bufferAddr rq)
        (12 * min (recordsInUse s.licences) (rq.w4.toNat / 12)) = false →
    bufferAddr rq + rq.w4.toNat ≤ slotAddr s .device ∨ slotAddr s .device + 64 ≤ bufferAddr rq →
    ∃ (t : State) (sent : List Licence), exec (.listLicences rq) s = .next t ∧
      sent.length = min (recordsInUse s.licences) (rq.w4.toNat / 12) ∧
      (∀ x ∈ sent, some x ∈ s.licences.records) ∧ sent.Pairwise (fun x y => x.id ≤ y.id) ∧
      (recordsDistinct s.licences.records → sent.Pairwise (fun x y => x.id < y.id)) ∧
      (∀ x y, x ∈ sent → some y ∈ s.licences.records → y ∉ sent → x.id ≤ y.id) ∧
      memReadBytes t.host.mem (bufferAddr rq) (12 * sent.length) = sent.flatMap listEntry ∧
      t.licences = s.licences ∧ t.lanes = s.lanes ∧ t.inputs = s.inputs ∧ unreported s t ∧
      deviceServed 21 rq ⟨.ok, .none, 0, [recordsInUse s.licences, sent.length]⟩
        [(bufferAddr rq, 12 * sent.length)] s t) ∧
  (∀ (rq : Req) (s : State), reaches .device rq s → 1 ≤ recordsInUse s.licences → 12 ≤ rq.w4.toNat →
    accessFails s.host.writeFails (bufferAddr rq)
        (12 * min (recordsInUse s.licences) (rq.w4.toNat / 12)) = true →
    ∃ t, exec (.listLicences rq) s = .next t ∧ unreported s t ∧
      deviceRefused 21 rq ⟨.param, .writeError, 0, []⟩ s t)

/-- Set Clock (R77, R89): a value in range is taken while the clock is invalid or the maintenance input is
asserted; the clock becomes valid at it, RETAINED_LOST clears, every derived state is evaluated, and with no
lane ARMED no lane changes. Otherwise it is refused NOT_PERMITTED, and a value out of range PARAM, which is
judged first (log entry 15). The clock is answered in two words (log entry 18).

Adjust Clock (R77, R90): the delta is bounded by the day's allowance (600 seconds on a new day, what is left
on the day of the last adjustment, none on an earlier day, which then answers 0 left: log entry 42) and by
the clock's range; the clock moves by what is applied and the allowance falls by its magnitude. With the
clock invalid it is refused CLOCK, and a delta out of range PARAM. -/
def Obligations.BoothClockIsSetAndAdjusted : Prop :=
  (∀ (rq : Req) (s : State), reaches .device rq s →
    (wide rq.w0 rq.w1 ≤ 2 ^ 40 - 1 → s.licences.clockValid = false ∨ s.maintenance = true →
      ∃ t, exec (.setClock rq) s = .next t ∧ t.licences.clock = wide rq.w0 rq.w1 ∧
        t.licences.clockValid = true ∧ t.licences.retainedLost = false ∧
        t.licences.adjustDay = s.licences.adjustDay ∧ t.licences.adjustLeft = s.licences.adjustLeft ∧
        t.licences.keys = s.licences.keys ∧
        (s.licences.retainedLost = true → t.attention &&& attentionBit 6 ≠ 0) ∧
        ((∀ l, (s.lane l).state ≠ .armed) →
          t.lanes = s.lanes ∧
            t.licences.records =
              recordsEvaluated true (wide rq.w0 rq.w1) s.licences.records) ∧
        t.inputs = s.inputs ∧
        deviceServed 22 rq
          ⟨.ok, .none, 0, [wide rq.w0 rq.w1 % 2 ^ 32, wide rq.w0 rq.w1 / 2 ^ 32]⟩ [] s t) ∧
      (wide rq.w0 rq.w1 ≤ 2 ^ 40 - 1 → s.licences.clockValid = true → s.maintenance = false →
        ∃ t, exec (.setClock rq) s = .next t ∧ t.licences = s.licences ∧ t.lanes = s.lanes ∧
          deviceServed 22 rq ⟨.notPermitted, .none, 0, []⟩ [] s t) ∧
      (2 ^ 40 - 1 < wide rq.w0 rq.w1 →
        ∃ t, exec (.setClock rq) s = .next t ∧ t.licences = s.licences ∧ t.lanes = s.lanes ∧
          deviceServed 22 rq ⟨.param, .none, 0, []⟩ [] s t)) ∧
  (∀ (rq : Req) (s : State), reaches .device rq s →
    (-3600 ≤ rq.w0.toInt → rq.w0.toInt ≤ 3600 → s.licences.clockValid = true →
      ∃ (t : State) (avail : Nat) (applied : Int), exec (.adjustClock rq) s = .next t ∧
        (s.licences.adjustDay = none → avail = 600) ∧
        (∀ d, s.licences.adjustDay = some d →
          (d < s.licences.clock / 86400 → avail = 600) ∧
            (d = s.licences.clock / 86400 → avail = s.licences.adjustLeft) ∧
            (s.licences.clock / 86400 < d → avail = 0)) ∧
        applied =
          max 0 (min (2 ^ 40 - 1) (s.licences.clock + max (-(avail : Int)) (min avail rq.w0.toInt))) -
            s.licences.clock ∧
        (t.licences.clock : Int) = s.licences.clock + applied ∧ t.licences.clockValid = true ∧
        ((∀ d, s.licences.adjustDay = some d → d ≤ s.licences.clock / 86400) →
          t.licences.adjustDay = some (s.licences.clock / 86400) ∧
            t.licences.adjustLeft = avail - applied.natAbs) ∧
        ((∀ l, (s.lane l).state ≠ .armed) →
          t.lanes = s.lanes ∧
            t.licences.records = recordsEvaluated true t.licences.clock s.licences.records) ∧
        t.licences.keys = s.licences.keys ∧ t.inputs = s.inputs ∧
        deviceServed 23 rq
          ⟨.ok, .none, 0, [(BitVec.ofInt 32 applied).toNat, avail - applied.natAbs]⟩ [] s t) ∧
      (-3600 ≤ rq.w0.toInt → rq.w0.toInt ≤ 3600 → s.licences.clockValid = false →
        ∃ t, exec (.adjustClock rq) s = .next t ∧ t.licences = s.licences ∧ t.lanes = s.lanes ∧
          deviceServed 23 rq ⟨.clock, .none, 0, []⟩ [] s t) ∧
      (rq.w0.toInt < -3600 ∨ 3600 < rq.w0.toInt →
        ∃ t, exec (.adjustClock rq) s = .next t ∧ t.licences = s.licences ∧ t.lanes = s.lanes ∧
          deviceServed 23 rq ⟨.param, .none, 0, []⟩ [] s t))

/-- Factory Clear (R91, R93): with the maintenance input asserted and every lane EMPTY every record and key
slot is freed, the clock is invalid and the adjustment record is reset; otherwise it is refused
NOT_PERMITTED, or STATE with the lowest lane that is not EMPTY, and nothing is cleared. -/
def Obligations.FactoryClearEmptiesTheTable : Prop :=
  ∀ (rq : Req) (s : State), reaches .device rq s →
    (s.maintenance = true → (∀ l, (s.lane l).state = .empty) →
      ∃ t, exec (.factoryClear rq) s = .next t ∧ recordsInUse t.licences = 0 ∧
        slotsInUse t.licences = 0 ∧ t.licences.records.length = s.licences.records.length ∧
        t.licences.keys.length = s.licences.keys.length ∧ t.licences.clockValid = false ∧
        t.licences.clock = s.licences.clock ∧ t.licences.adjustDay = none ∧
        t.licences.adjustLeft = 600 ∧ t.licences.deviceKeyId = s.licences.deviceKeyId ∧
        t.lanes = s.lanes ∧ t.inputs = s.inputs ∧ t.clockUnit = s.clockUnit ∧
        deviceServed 25 rq ⟨.ok, .none, 0, [recordsInUse s.licences]⟩ [] s t) ∧
      (s.maintenance = false →
        ∃ t, exec (.factoryClear rq) s = .next t ∧ t.licences = s.licences ∧ t.lanes = s.lanes ∧
          deviceServed 25 rq ⟨.notPermitted, .none, 0, []⟩ [] s t) ∧
      ∀ l, s.maintenance = true → (s.lane l).state ≠ .empty →
        (∀ m, laneIndex m < laneIndex l → (s.lane m).state = .empty) →
        ∃ t, exec (.factoryClear rq) s = .next t ∧ t.licences = s.licences ∧ t.lanes = s.lanes ∧
          deviceServed 25 rq ⟨.state, .none, laneIndex l, []⟩ [] s t

/-- Set Inputs (R168): every input takes its settings, the debounce clamped into 1..255; an input whose
settings differ from those it had is restarted, and any other keeps its filter. The answer packs the eight
debounces, four to a word, and the mask of the inputs restarted (R179). A block of another length is refused
LENGTH, a code that names no function FUNCTION and one that names no polarity POLARITY, each with the lowest
input at fault, in that order. -/
def Obligations.SetInputsRestartsChangedInputs : Prop :=
  ∀ (rq : Req) (s : State) (b : List Byte), s.device = .running → s.inputs.length = 8 →
    blockCopy .device rq s = .ok b →
    (b.length = 64 →
      (∀ i < 8, (functionOf (field b (8 * i) 1)).isSome = true ∧
        (polarityOf (field b (8 * i + 2) 1)).isSome = true) →
      ∃ t, exec (.setInputs rq) s = .next t ∧ t.inputs.length = 8 ∧
        (∀ i < 8, ∀ x, s.inputs[i]? = some x →
          ∃ y, t.inputs[i]? = some y ∧ functionOf (field b (8 * i) 1) = some y.settings.function ∧
            y.settings.mask = BitVec.ofNat 4 (field b (8 * i + 1) 1) ∧
            polarityOf (field b (8 * i + 2) 1) = some y.settings.polarity ∧
            y.settings.debounce = max 1 (min 255 (field b (8 * i + 4) 2)) ∧
            (y.settings = x.settings → y.filter = x.filter) ∧
            (y.settings ≠ x.settings →
              y.filter.level = .unknown ∧ y.filter.stable = 0 ∧ y.filter.chattering = false ∧
                y.filter.history = [])) ∧
        t.lanes = s.lanes ∧ t.licences = s.licences ∧ t.clockUnit = s.clockUnit ∧
        t.journal = s.journal ∧
        let d := fun i => max 1 (min 255 (field b (8 * i + 4) 2))
        let restarted := fun i =>
          decide ((t.inputs[i]?).map Input.settings ≠ (s.inputs[i]?).map Input.settings)
        deviceServed 26 rq
          ⟨.ok, .none, 0,
            [d 0 + 2 ^ 8 * d 1 + 2 ^ 16 * d 2 + 2 ^ 24 * d 3,
              d 4 + 2 ^ 8 * d 5 + 2 ^ 16 * d 6 + 2 ^ 24 * d 7,
              ((List.range 8).map fun i => if restarted i then 2 ^ i else 0).sum]⟩ [] s t) ∧
      (b.length ≠ 64 →
        ∃ t, exec (.setInputs rq) s = .next t ∧ t.inputs = s.inputs ∧ t.lanes = s.lanes ∧
          t.licences = s.licences ∧ deviceServed 26 rq ⟨.param, .length, 0, []⟩ [] s t) ∧
      (∀ i < 8, b.length = 64 → functionOf (field b (8 * i) 1) = none →
        (∀ j < i, (functionOf (field b (8 * j) 1)).isSome = true) →
        ∃ t, exec (.setInputs rq) s = .next t ∧ unreported s t ∧
          deviceRefused 26 rq ⟨.param, .function, i, []⟩ s t) ∧
      (∀ i < 8, b.length = 64 → (∀ j < 8, (functionOf (field b (8 * j) 1)).isSome = true) →
        polarityOf (field b (8 * i + 2) 1) = none →
        (∀ j < i, (polarityOf (field b (8 * j + 2) 1)).isSome = true) →
        ∃ t, exec (.setInputs rq) s = .next t ∧ unreported s t ∧
          deviceRefused 26 rq ⟨.param, .polarity, i, []⟩ s t)

/-! ## Frame boundaries -/

/-- A presenting boundary that neither completes the show nor passes a timer (R15, R24, R25, R65, R66, R69,
R115, R117): P advances by one, the queue heads for P are consumed, the picture is REAL from the head of its
queue, else a REPEAT of the last real frame or BLACK with CONCEALED set; on a LOCKED link the record carries
the next sequence number with the shutter open and joins the awaiting-confirmation list. The lane's slot is
looked at (R174), after all of it (log entry 11).

Every presenting boundary routes the sound of P (R67, R146): each output's source samples are those of its
channel by the routing then active, and a gap sets SOUND_GAP.

Every presenting boundary scans the cue table (R157 to R161), where the table lies outside what the part
writes: a failed read leaves the scan unmade and sets the read error flag; else each judged entry fires or
is missed, the contact outputs follow the entries that fire in index order, CUE_MISSED is set for a missed
one, and the part words of changed and pending entries are written, a failed write leaving them pending.

Every presenting boundary moves the overlay with P: at the first frame of a reel REEL_START is journaled
(R16), the next stores become the current ones where those serve the reel before, the reel after is
asked for (R133), and both palettes fall due; the record carries the palettes due of the DECODED current
stores and leaves none due (R138); the active counts are of at most four visible cues a track, more setting
OVERLAY_SATURATED (R134). That REEL_START is the first entry of the boundary is the model's inference (log
entry 10), and so is that its detail words are the reel's index alone, P standing in the entry's P field (log
entry 16); no closing window is open in PLAYING, as StepsKeepTheReasonFitting has it. -/
def Obligations.PresentingBoundaryShowsP : Prop :=
  (∀ (l : LaneId) (s : State) (sh : Show), s.clockUnit.source ≠ .acquiring →
    (s.lane l).state = .playing → (s.lane l).loaded = some sh → holdDue (s.lane l) = false →
    presentFault (s.lane l) = none → (s.lane l).p + 1 < sh.total →
    (s.lane l).tally.phase = .running →
    (linkGood (s.lane l) = true ∨ (s.lane l).linkGrace + 1 ≤ (s.lane l).options.linkGrace) →
    (realUnits (s.lane l) (s.lane l).p ≠ none ∨
      (s.lane l).starveRun + 1 ≤ (s.lane l).options.starveLimit) →
    ∃ u, exec (.frameBoundary l) s = .next (boundaryLook l false u) ∧ (u.lane l).state = .playing ∧
      (u.lane l).p = (s.lane l).p + 1 ∧ (u.lane l).loaded = some sh ∧
      (u.lane l).hold = (s.lane l).hold ∧ (u.lane l).lastCause = (s.lane l).lastCause ∧
      (u.lane l).tally = (s.lane l).tally ∧ u.licences = s.licences ∧
      (u.lane l).linkGrace = (if linkGood (s.lane l) then 0 else (s.lane l).linkGrace + 1) ∧
      (∀ e, ((u.lane l).tracks.get e).queue =
        if (headFor (s.lane l) e (s.lane l).p).isSome then ((s.lane l).tracks.get e).queue.drop 1
        else ((s.lane l).tracks.get e).queue) ∧
      (∀ us, realUnits (s.lane l) (s.lane l).p = some us →
        (u.lane l).lastReal = some (s.lane l).p ∧ (u.lane l).starveRun = 0) ∧
      (realUnits (s.lane l) (s.lane l).p = none →
        (u.lane l).lastReal = (s.lane l).lastReal ∧
          (u.lane l).starveRun = (s.lane l).starveRun + 1 ∧
          (u.lane l).indicators.held &&& indicatorBit .concealed ≠ 0 ∧
          (u.lane l).indicators.current &&& indicatorBit .concealed ≠ 0) ∧
      ((s.lane l).link.state = .locked →
        (u.lane l).link.seq = ((s.lane l).link.seq + 1) % 65536 ∧
          ∃ r e, (u.lane l).link.forward = .frame r ∧ r.seq = (s.lane l).link.seq ∧
            r.shutterOpen = true ∧
            (∀ us, realUnits (s.lane l) (s.lane l).p = some us → r.kind = .real ∧ r.units = us) ∧
            (realUnits (s.lane l) (s.lane l).p = none →
              r.kind = (if (s.lane l).lastReal.isSome && (s.lane l).link.frameHeld then .repeated
                else .black) ∧ r.units = []) ∧
            (u.lane l).link.awaiting.getLast? = some e ∧ e.seq = (s.lane l).link.seq ∧
            e.showFrame = (s.lane l).p ∧ e.runMark = true ∧
            ((s.lane l).link.awaiting.length ≤ 8 →
              (u.lane l).link.awaiting.length = min 8 ((s.lane l).link.awaiting.length + 1))) ∧
      settingsKept { s.lane l with contacts := (u.lane l).contacts } (u.lane l) ∧
      boundaryKept l s u) ∧
  (∀ (l : LaneId) (s : State) (sh : Show), s.clockUnit.source ≠ .acquiring → presents (s.lane l) →
    (s.lane l).loaded = some sh →
    ∃ u, exec (.frameBoundary l) s = .next (boundaryLook l false u) ∧
      let main := soundFor sh (s.lane l) .main (s.lane l).p
      let aux := soundFor sh (s.lane l) .aux (s.lane l).p
      (u.lane l).sound.period =
          ((s.lane l).sound.stagedRouting.getD (s.lane l).sound.routing).map
            (sourceSamples main aux) ∧
        (main = .gap ∨ aux = .gap →
          (u.lane l).indicators.held &&& indicatorBit .soundGap ≠ 0 ∧
            (u.lane l).indicators.current &&& indicatorBit .soundGap ≠ 0) ∧
        (cueTableOf (s.lane l) = none →
          (u.lane l).scanner = (s.lane l).scanner ∧ (u.lane l).contacts = (s.lane l).contacts) ∧
        ∀ tb, cueTableOf (s.lane l) = some tb → shapeOk s →
          (∀ a, tb ≤ a → a < tb + 512 → outside (eventAreas s l) a) →
          (readHostWords s.host tb 32 0 = none →
            (u.lane l).scanner = { (s.lane l).scanner with readError := true } ∧
              (u.lane l).contacts = (s.lane l).contacts) ∧
          ∀ ws, readHostWords s.host tb 32 0 = some ws →
            (u.lane l).scanner.readError = false ∧
              (u.lane l).contacts =
                contactsAfter (s.lane l).p sh.total (s.lane l).scanner.marks ws (s.lane l).contacts ∧
              ∀ i < 32, ∀ w m, ws[i]? = some w → (s.lane l).scanner.marks[i]? = some m →
                let n := markAfter (s.lane l).p sh.total w m
                let due := decide (n ≠ m) || (s.lane l).scanner.writePending.getD i false
                (u.lane l).scanner.marks[i]? = some n ∧
                  (n = .missed (s.lane l).p w.position → m = .clear →
                    (u.lane l).indicators.held &&& indicatorBit .cueMissed ≠ 0) ∧
                  (due = true →
                    (accessFails s.host.writeFails (partAddr tb i) 8 = false →
                      memReadBytes u.host.mem (partAddr tb i) 8 = partWord n) ∧
                    ((s.lane l).scanner.writePending.length = 32 →
                      (u.lane l).scanner.writePending[i]? =
                        some (accessFails s.host.writeFails (partAddr tb i) 8))) ∧
                  (due = false → (u.lane l).scanner.writePending[i]? =
                    (s.lane l).scanner.writePending[i]?)) ∧
  (∀ (l : LaneId) (s : State) (sh : Show) (i : Nat) (r : Reel), s.clockUnit.source ≠ .acquiring →
    presents (s.lane l) → (s.lane l).loaded = some sh → reelOf sh (s.lane l).p = some (i, r) →
    ∃ u, exec (.frameBoundary l) s = .next (boundaryLook l false u) ∧
      let first := r.start = (s.lane l).p
      let f := trackFrame r (s.lane l).p
      let one := visibleCount (u.lane l).overlay.current1 r f
      let two := visibleCount (u.lane l).overlay.current2 r f
      (first → shapeOk s → ringRoom 1 s → (s.lane l).tally.phase ≠ .closing →
        (∀ tb, cueTableOf (s.lane l) = some tb →
          ∀ a, tb ≤ a → a < tb + 512 → outside (eventAreas s l) a) →
        journaled 0 ⟨.reelStart, some l, (s.lane l).p, [i]⟩ s u) ∧
      storesMoved sh i first (s.lane l) (u.lane l) ∧
      palettesHandled
        (fun t => (s.lane l).overlay.palettePending.get t || decide (r.start = (s.lane l).p))
        (s.lane l) (u.lane l) ∧
      (u.lane l).overlay.active = ⟨min 4 one, min 4 two⟩ ∧
      (4 < one ∨ 4 < two →
        (u.lane l).indicators.held &&& indicatorBit .overlaySaturated ≠ 0 ∧
          (u.lane l).indicators.current &&& indicatorBit .overlaySaturated ≠ 0))

/-- The pending hold is taken at a boundary in PLAYING before any presentation (R20, R47): NOW at the first
boundary, REEL_END at the first frame of the next reel. The lane is HELD with P, its queues and its tally
unchanged, the record gone, the hold limit timer at 0 with the limit of its minutes, and BLACK is sent. That
HOLD_TAKEN is the whole boundary is log entry 9, and the look at the slot after it log entry 11.

The tile updates of a boundary on a LOCKED link: a presenting one sends, in increasing order, each tile that
has a pixel with a non-zero transmitted alpha as TILE and each other tile of the map as CLEAR, and the map
is then the tiles sent as TILE (R139, R141); a boundary outside PLAYING sends CLEAR for every tile of the
map and empties it (R140). On a link that is not LOCKED the map stands.

The BLACK record of these boundaries carries the palettes due of the DECODED current stores and leaves none
due (R138). -/
def Obligations.HoldIsTakenBeforePresenting : Prop :=
  (∀ (l : LaneId) (s : State) (h : HoldRecord), s.clockUnit.source ≠ .acquiring →
    (s.lane l).state = .playing → (s.lane l).hold = some h →
    (h.when_ = .now ∨
      ∃ r sh q, h.when_ = .reelEnd r ∧ (s.lane l).loaded = some sh ∧
        nthReel sh (r + 1) = some q ∧ (s.lane l).p = q.start) →
    (linkGood (s.lane l) = true ∨ (s.lane l).linkGrace + 1 ≤ (s.lane l).options.linkGrace) →
    (s.lane l).tally.phase = .running →
    ∃ u, exec (.holdTaken l) s = .next (boundaryLook l false u) ∧
      exec (.frameBoundary l) s = exec (.holdTaken l) s ∧ (u.lane l).state = .held ∧
      timersClear (u.lane l) ∧
      (u.lane l).holdLimit = (s.lane l).options.holdLimit * 60 * laneEditRate (s.lane l) ∧
      (u.lane l).p = (s.lane l).p ∧ (u.lane l).loaded = (s.lane l).loaded ∧
      (u.lane l).tally = (s.lane l).tally ∧ (u.lane l).lastCause = (s.lane l).lastCause ∧
      (u.lane l).lastReal = (s.lane l).lastReal ∧
      (∀ e, ((u.lane l).tracks.get e).queue = ((s.lane l).tracks.get e).queue ∧
        ((u.lane l).tracks.get e).fetch = ((s.lane l).tracks.get e).fetch) ∧
      aimedFor false (u.lane l) ∧ (u.lane l).sound.applied = (s.lane l).sound.applied ∧
      u.licences = s.licences ∧ settingsKept (s.lane l) (u.lane l) ∧
      ((s.lane l).link.state = .locked →
        sentBlack (s.lane l) (u.lane l) ∧
          (u.lane l).overlay.tileMap = (s.lane l).overlay.tileMap) ∧
      palettesHandled (fun t => (s.lane l).overlay.palettePending.get t) (s.lane l) (u.lane l) ∧
      boundaryKept l s u) ∧
  (∀ (l : LaneId) (s : State) (sh : Show), s.clockUnit.source ≠ .acquiring → presents (s.lane l) →
    (s.lane l).loaded = some sh →
    ∃ u, exec (.frameBoundary l) s = .next (boundaryLook l false u) ∧
      ((s.lane l).link.state ≠ .locked →
        (u.lane l).overlay.tileMap = (s.lane l).overlay.tileMap) ∧
      ((s.lane l).link.state = .locked →
        let cues := presentCues sh (storesAtReelStart (s.lane l))
        let seq := (s.lane l).link.seq
        (∀ n, n ∈ (u.lane l).overlay.tileMap ↔
          n < 544 ∧ ∃ q ∈ tilePixels n, (sentPixel cues seq q.1 q.2).2 ≠ 0) ∧
        ∃ r, (u.lane l).link.forward = .frame r ∧
          r.tiles = (List.range 544).filterMap (fun n =>
            if n ∈ (u.lane l).overlay.tileMap then some (.tile n (tileContent cues seq n))
            else if n ∈ (s.lane l).overlay.tileMap then some (.clear n) else none))) ∧
  (∀ (l : LaneId) (s : State), s.clockUnit.source ≠ .acquiring → (s.lane l).state ≠ .playing →
    ∃ u, exec (.frameBoundary l) s = .next (boundaryLook l false u) ∧
      ((s.lane l).link.state ≠ .locked →
        (u.lane l).overlay.tileMap = (s.lane l).overlay.tileMap) ∧
      ((s.lane l).link.state = .locked →
        (u.lane l).overlay.tileMap = [] ∧
          ∃ r, (u.lane l).link.forward = .frame r ∧ r.seq = (s.lane l).link.seq ∧
            r.kind = .black ∧ r.shutterOpen = false ∧ r.units = [] ∧
            r.tiles = (s.lane l).overlay.tileMap.map TileUpdate.clear) ∧
      palettesHandled (fun t => (s.lane l).overlay.palettePending.get t) (s.lane l) (u.lane l))

/-- The lane timers stop the lane (R24 to R26), as Stop does with their own causes: the starve run above its
limit STARVED, and link grace above its limit LINK_LOST, after the presentation and the advance of P, or in
place of a hold that is then not taken, P not being presented (log entry 12); the hold limit timer at its
limit HOLD_EXPIRED. That the rows are whole boundaries is log entry 9, the look at the slot after them log
entry 11.

The advance of P to N completes the show (R17): ENDED with cause COMPLETE, the run end told to the tally,
the targets mute, and a REEL_END hold of the last reel journaled as HOLD_DISCARDED with its cause and merged
count (in the order of log entry 16), as the first entry of the boundary (log entries 10 and 12).

Under STRICT a POISONED entry for P is a fault (R29): FAULT with P not advanced and nothing presented, every
output mute at once, BLACK with the shutter closed, and the fault record holding the poison kind, P, the
track and its frame, the hold values and the licences reserved; link grace is not judged there (log entry
46). The BLACK record carries the palettes due (R138), those of the flags as they stood: at the first frame
of a reel too, a boundary that faults makes no succession of the stores and writes no REEL_START, which is
the model's choice (log entry 60). -/
def Obligations.LaneTimersStopTheLane : Prop :=
  (∀ (l : LaneId) (s : State), s.clockUnit.source ≠ .acquiring →
    (∀ sh, (s.lane l).state = .playing → (s.lane l).loaded = some sh → holdDue (s.lane l) = false →
      presentFault (s.lane l) = none → (s.lane l).p + 1 < sh.total →
      (linkGood (s.lane l) = true ∨ (s.lane l).linkGrace + 1 ≤ (s.lane l).options.linkGrace) →
      realUnits (s.lane l) (s.lane l).p = none →
      (s.lane l).options.starveLimit < (s.lane l).starveRun + 1 →
      ∃ u, exec (.starveLimitExpiry l) s = .next (boundaryLook l false u) ∧
        stopsWith .starved (s.lane l) (u.lane l) ∧ (u.lane l).p = (s.lane l).p + 1 ∧
        boundaryKept l s u) ∧
      (∀ sh, (s.lane l).state = .playing → (s.lane l).loaded = some sh → holdDue (s.lane l) = false →
        presentFault (s.lane l) = none → (s.lane l).p + 1 < sh.total → linkGood (s.lane l) = false →
        (s.lane l).options.linkGrace < (s.lane l).linkGrace + 1 →
        ∃ u, exec (.linkGraceExpiry l) s = .next (boundaryLook l false u) ∧
          stopsWith .linkLost (s.lane l) (u.lane l) ∧ (u.lane l).p = (s.lane l).p + 1 ∧
          boundaryKept l s u) ∧
      ((s.lane l).state = .playing → holdDue (s.lane l) = true → linkGood (s.lane l) = false →
        (s.lane l).options.linkGrace < (s.lane l).linkGrace + 1 →
        ∃ u, exec (.linkGraceExpiry l) s = .next (boundaryLook l false u) ∧
          stopsWith .linkLost (s.lane l) (u.lane l) ∧ (u.lane l).p = (s.lane l).p ∧
          boundaryKept l s u) ∧
      ((s.lane l).state = .held ∨ (s.lane l).state = .seeking →
        (s.lane l).holdLimit ≤ (s.lane l).holdTimer + 1 →
        ∃ u, exec (.holdLimitExpiry l) s = .next (boundaryLook l false u) ∧
          stopsWith .holdExpired (s.lane l) (u.lane l) ∧ (u.lane l).p = (s.lane l).p ∧
          boundaryKept l s u)) ∧
  (∀ (l : LaneId) (s : State) (sh : Show), s.clockUnit.source ≠ .acquiring → presents (s.lane l) →
    (s.lane l).loaded = some sh → sh.total ≤ (s.lane l).p + 1 →
    ∃ u, exec (.frameBoundary l) s = .next u ∧ (u.lane l).state = .ended ∧
      (u.lane l).lastCause = .complete ∧ (u.lane l).p = (s.lane l).p + 1 ∧
      (u.lane l).loaded = some sh ∧ timersClear (u.lane l) ∧ aimedFor false (u.lane l) ∧
      (u.lane l).sound.applied = (s.lane l).sound.applied ∧
      ((s.lane l).tally.phase = .running →
        ((u.lane l).tally.phase = .closing ∨ (u.lane l).tally.phase = .closed) ∧
          (u.lane l).tally.endCause = .complete) ∧
      (∀ cause merged, (s.lane l).hold = some ⟨cause, .reelEnd sh.reels.length, merged⟩ →
        (s.lane l).tally.phase = .running → cueTableOf (s.lane l) = none →
        isReelStart sh (s.lane l).p = false → (s.lane l).link.state ≠ .testing →
        shapeOk s → ringRoom 1 s →
        journaled 0 ⟨.holdDiscarded, some l, (s.lane l).p + 1, [cause.ctorIdx, merged]⟩ s u) ∧
      boundaryKept l s u) ∧
  (∀ (l : LaneId) (s : State) (kind : PoisonKind) (track : TrackKind) (frame : Nat),
    s.clockUnit.source ≠ .acquiring → (s.lane l).state = .playing → holdDue (s.lane l) = false →
    presentFault (s.lane l) = some (kind, track, frame) →
    ∃ u r, exec (.frameBoundary l) s = .next (boundaryLook l false u) ∧ (u.lane l).state = .fault ∧
      (u.lane l).lastCause = .fault ∧ (u.lane l).p = (s.lane l).p ∧
      (u.lane l).loaded = (s.lane l).loaded ∧
      (∀ e, ((u.lane l).tracks.get e).queue = ((s.lane l).tracks.get e).queue) ∧
      timersClear (u.lane l) ∧ (u.lane l).sound.applied = List.replicate 24 .mute ∧
      (u.lane l).faultRecord = some r ∧ r.cause = kind ∧ r.p = (s.lane l).p ∧ r.track = track ∧
      r.frame = frame ∧ r.snapshot &&& (s.lane l).indicators.held = (s.lane l).indicators.held ∧
      ((s.lane l).tally.phase = .running →
        r.licences = reservedLicences (s.lane l).tally ∧
          ((u.lane l).tally.phase = .closing ∨ (u.lane l).tally.phase = .closed) ∧
          (u.lane l).tally.endCause = .fault) ∧
      ((s.lane l).link.state = .locked → sentBlack (s.lane l) (u.lane l)) ∧
      palettesHandled (fun t => (s.lane l).overlay.palettePending.get t) (s.lane l) (u.lane l) ∧
      boundaryKept l s u)

/-- Priming (R6, R22, R50): a LOADING lane whose present queues are primed, whose stores of reel 1 are
decoded or lost and whose reel-1 licences are OPEN becomes READY; a SEEKING lane whose queues are primed is
HELD again with its hold limit timer counting on. P, the show and the tally stand. That PRIMED and
SEEK_PRIMED are whole boundaries is log entry 9; the look at the slot follows the change of state, so that
READY gets none (log entry 11). -/
def Obligations.PrimingCompletes : Prop :=
  ∀ (l : LaneId) (s : State), s.clockUnit.source ≠ .acquiring → (s.lane l).tally.phase ≠ .closing →
    ((s.lane l).state = .loading → essencePrimed (s.lane l) = true →
      (s.lane l).overlay.current1.state ≠ .fetching → (s.lane l).overlay.current2.state ≠ .fetching →
      (∀ id ∈ firstReelLicences (s.lane l), licenceOpen s id = true) →
      ∃ u, exec (.primed l) s = .next u ∧ exec (.frameBoundary l) s = .next u ∧
        (u.lane l).state = .ready ∧ (u.lane l).p = (s.lane l).p ∧
        (u.lane l).loaded = (s.lane l).loaded ∧ (u.lane l).waitingLicence = false ∧
        (u.lane l).tally = (s.lane l).tally ∧ u.licences = s.licences ∧ boundaryKept l s u) ∧
      ((s.lane l).state = .seeking → essencePrimed (s.lane l) = true →
        (s.lane l).holdTimer + 1 < (s.lane l).holdLimit →
        ∃ u, exec (.seekPrimed l) s = .next (boundaryLook l false u) ∧ (u.lane l).state = .held ∧
          (u.lane l).holdTimer = (s.lane l).holdTimer + 1 ∧
          (u.lane l).holdLimit = (s.lane l).holdLimit ∧ (u.lane l).p = (s.lane l).p ∧
          (u.lane l).loaded = (s.lane l).loaded ∧ (u.lane l).tally = (s.lane l).tally ∧
          u.licences = s.licences ∧ boundaryKept l s u)

/-- The eighth boundary of a closing window closes the tally (R101, R102): every RESERVED entry is RELEASED
with its showing returned, no entry of the run is left in the list, and TALLY_CLOSED carries the run-end
cause, EXPIRED and the number of entries released (in the words of log entry 16, as the boundary's first entry
by log entry 10; none for an empty tally). That the window count of the closed tally stands at 8 is the
model's choice (log entry 36). Until then the count rises, in a boundary that leaves an entry of the run in the
list.

The eighth settle boundary of a link test ends it (R123, R124): TRAINING with the lock flag set and training
patterns with the identity request going out (R109), and the held result PASS exactly when no error was
counted and every record was tallied. The LINK_STATE entry carries the result, the error count and the records
sent (R124, R179).

Until then each boundary of a TESTING link, whose list is empty (R117) so that no closing window is open
(R101), sends one test record, with the next sequence number, while any is left, and then counts the settle
down (R123). Nothing goes out in the settle (log entry 51). That CLOSING_WINDOW_EXPIRED and
LINK_TEST_COMPLETE are whole boundaries is log entry 9. -/
def Obligations.ClosingWindowAndLinkTestEnd : Prop :=
  (∀ (l : LaneId) (s : State), s.clockUnit.source ≠ .acquiring → (s.lane l).state = .ended →
    (s.lane l).tally.phase = .closing → hasMark (s.lane l).link.awaiting = true →
    ((s.lane l).tally.window + 1 = 8 →
      ∃ u, exec (.closingWindowExpired l) s = .next u ∧ exec (.frameBoundary l) s = .next u ∧
        (u.lane l).tally.phase = .closed ∧ (u.lane l).tally.window = 8 ∧
        ((s.lane l).tally.entries ≠ [] → shapeOk s → ringRoom 1 s →
          journaled 0
            ⟨.tallyClosed, some l, (s.lane l).p,
              [(s.lane l).tally.endCause.ctorIdx, WayClosed.expired.ctorIdx,
                countStatus .reserved (s.lane l).tally]⟩ s u) ∧
        (u.lane l).tally.entries =
          (s.lane l).tally.entries.map
            (fun e => if e.status = .reserved then { e with status := .released } else e) ∧
        u.licences =
          { s.licences with
            records := recordsReleased (s.lane l).tally s.licences.records } ∧
        hasMark (u.lane l).link.awaiting = false ∧ (u.lane l).state = .ended ∧
        (u.lane l).lastCause = (s.lane l).lastCause ∧ boundaryKept l s u) ∧
      ((s.lane l).tally.window + 1 < 8 →
        (s.lane l).link.awaiting.length < 8 ∨ hasMark ((s.lane l).link.awaiting.drop 1) = true →
        (s.lane l).link.state = .locked →
        ∃ u, exec (.frameBoundary l) s = .next u ∧
          (u.lane l).tally = { (s.lane l).tally with window := (s.lane l).tally.window + 1 } ∧
          u.licences = s.licences ∧ boundaryKept l s u)) ∧
  (∀ (l : LaneId) (s : State), s.clockUnit.source ≠ .acquiring →
    (s.lane l).state = .empty ∨ (s.lane l).state = .ended → (s.lane l).link.state = .testing →
    (s.lane l).link.test.left = 0 → (s.lane l).link.test.settle = 1 →
    ∃ u n, exec (.linkTestComplete l) s = .next u ∧ exec (.frameBoundary l) s = .next u ∧
      (u.lane l).link.state = .training ∧ (u.lane l).link.lockFlag = true ∧
      (u.lane l).link.heldTest.errors = n ∧
      n = min 65535
        ((s.lane l).link.test.errors +
          ((s.lane l).link.test.sent.filter fun r => !r.2).length) ∧
      ((u.lane l).link.heldTest.result = if n = 0 then .pass else .fail) ∧
      (u.lane l).link.heldTest.sent = (s.lane l).link.test.sent.length ∧
      (u.lane l).link.forward = .training true ∧ (u.lane l).state = (s.lane l).state ∧
      linkJournaled l
        [if n = 0 then 1 else 2, n, (s.lane l).link.test.sent.length] s u ∧
      boundaryKept l s u) ∧
  (∀ (l : LaneId) (s : State), s.clockUnit.source ≠ .acquiring →
    (s.lane l).state = .empty ∨ (s.lane l).state = .ended → (s.lane l).link.state = .testing →
    listOk (s.lane l) → windowOk (s.lane l) →
    ∃ u, exec (.frameBoundary l) s = .next u ∧
      (0 < (s.lane l).link.test.left →
        (u.lane l).link =
          { (s.lane l).link with
            forward := .test (s.lane l).link.seq
            seq := ((s.lane l).link.seq + 1) % 65536
            test :=
              ⟨(s.lane l).link.test.left - 1, (s.lane l).link.test.settle,
                (s.lane l).link.test.errors,
                (s.lane l).link.test.sent ++ [((s.lane l).link.seq, false)]⟩ }) ∧
      ((s.lane l).link.test.left = 0 → 1 < (s.lane l).link.test.settle →
        (u.lane l).link =
          { (s.lane l).link with
            forward := .nothing
            test :=
              { (s.lane l).link.test with settle := (s.lane l).link.test.settle - 1 } }) ∧
      boundaryKept l s u)

/-! ## Clocks and ticks -/

/-- A second event (R77, R88): the clock rises by one, held at 2^40 − 1, valid or not; every derived state
is evaluated; with no lane ARMED no lane changes, and the Device Status Record is rewritten in RUNNING.

The firing of an ARMED lane (R13): at the second event that brings the clock to its start second, the
preconditions of R10 judged with the derived states then evaluated, the run starts with one showing of every
licence reserved, or the lane returns to READY with nothing reserved. Stated for one ARMED lane; that
START_AT_FIRING is the whole second event is log entry 9, and that the run's tally begins with the run-end
cause NONE and the window count 0 log entry 54: both are the model's choice. -/
def Obligations.SecondEventsAdvanceTheClockAndFire : Prop :=
  (∀ s : State,
    ∃ t, exec .secondEvent s = .next t ∧ t.licences.clock = min (2 ^ 40 - 1) (s.licences.clock + 1) ∧
      t.licences.clockValid = s.licences.clockValid ∧ t.licences.keys = s.licences.keys ∧
      t.licences.adjustDay = s.licences.adjustDay ∧ t.licences.adjustLeft = s.licences.adjustLeft ∧
      t.licences.retainedLost = s.licences.retainedLost ∧
      ((∀ l, (s.lane l).state ≠ .armed) →
        t.lanes = s.lanes ∧ t.clockUnit = s.clockUnit ∧
          t.licences.records =
            recordsEvaluated s.licences.clockValid t.licences.clock s.licences.records) ∧
      (s.device ≠ .running → t.host.mem = s.host.mem ∨ ∃ l, (s.lane l).state = .armed) ∧
      (s.device = .running → shapeOk s →
        memReadBytes t.host.mem (deviceStatusAddr t) 256 = le 4 t.statusCount ++ deviceStatusBody t) ∧
      registersKept s t ∧ unitsKept s t ∧
      (shapeOk s → memKept (deviceAreas s) s t)) ∧
  (∀ (l : LaneId) (s : State) (due : Nat), (s.lane l).state = .armed →
    (s.lane l).startSecond = some due → due ≤ min (2 ^ 40 - 1) (s.licences.clock + 1) →
    (∀ m, m ≠ l → (s.lane m).state ≠ .armed) →
    let clock := min (2 ^ 40 - 1) (s.licences.clock + 1)
    let records := recordsEvaluated s.licences.clockValid clock s.licences.records
    let judged := { s with licences := { s.licences with clock := clock, records := records } }
    ∃ t, exec (.startAtFiring l) s = .next t ∧ exec .secondEvent s = .next t ∧
      t.licences.clock = clock ∧ lanesKept l s t ∧ registersKept s t ∧ unitsKept s t ∧
      (mayStart l judged →
        runBegun (s.lane l) (t.lane l) ∧
          t.licences.records = recordsReserved (tallyLicences (s.lane l).tally) records) ∧
      (¬ mayStart l judged →
        (t.lane l).state = .ready ∧ (t.lane l).startSecond = none ∧
          (t.lane l).tally = (s.lane l).tally ∧ materialKept (s.lane l) (t.lane l) ∧
          (t.lane l).lastCause = (s.lane l).lastCause ∧ t.licences.records = records) ∧
      (shapeOk s → memKept (deviceAreas s) s t))

/-- A millisecond tick (R149): each applied gain moves toward its target by at most the fade rate, a muted
output rising from −890 and one fading to mute becoming mute when it reaches −890; nothing else of the lane
but its sample counts, clips and last samples changes while no output fade ends a stop. The tick position
returns to 0 (log entry 20).

The tick that takes the last output of a STOPPING lane to mute ends it (R23): ENDED with the cause that
STOPPING was entered with, P, the show and the tally unchanged. That FADE_COMPLETE is the whole tick is log
entry 9.

The samples up to a tick (within the period, log entry 47), and at a frame boundary the rest of the period,
are played at the gains applied until then: the state holds them and the lines carry them, and each saturated
one counts and sets CLIP (R147, R151 to R153). They are held too where a STRICT fault at that boundary, or a
request that its look takes, mutes the outputs at once, and the lines carry zero from then on (R150, log entry
20). That the look comes after the boundary's own work is the model's inference (log entry 11). -/
def Obligations.MillisecondTicksRampTheGains : Prop :=
  (∀ (l : LaneId) (s : State), s.clockUnit.source ≠ .acquiring →
    ((s.lane l).state = .stopping → fadeDue l s = false) →
    ∃ t, exec (.millisecondTick l) s = .next t ∧
      (∀ (i : Nat) (a w : Gain), (s.lane l).sound.applied[i]? = some a →
        (s.lane l).sound.target[i]? = some w →
        (t.lane l).sound.applied[i]? =
          some (match a, w with
            | .mute, .mute => .mute
            | .mute, .level w => .level (min w (-890 + (s.lane l).options.fadeRate))
            | .level v, .mute =>
              if v - (s.lane l).options.fadeRate ≤ -890 then .mute
              else .level (v - (s.lane l).options.fadeRate)
            | .level v, .level w =>
              if v ≤ w then .level (min w (v + (s.lane l).options.fadeRate))
              else .level (max w (v - (s.lane l).options.fadeRate)))) ∧
      t.lane l =
        { s.lane l with
          sound :=
            { (s.lane l).sound with
              applied := (t.lane l).sound.applied
              clipCount := (t.lane l).sound.clipCount
              periodPos := (t.lane l).sound.periodPos
              tickPos := 0
              tickLen := (t.lane l).sound.tickLen
              out := (t.lane l).sound.out
              outLen := (t.lane l).sound.outLen
              silenced := (t.lane l).sound.silenced }
          indicators := (t.lane l).indicators } ∧
      (let x := (s.lane l).sound
        let n := min (x.tickLen - x.tickPos) (x.periodLen - x.periodPos)
        linesPlayed n (s.lane l) (t.lane l) ∧ clipsCounted n (s.lane l) (t.lane l) ∧
          (n = 0 →
            (t.lane l).sound.out = x.out ∧ (t.lane l).sound.outLen = x.outLen ∧
              (t.lane l).sound.silenced = x.silenced) ∧
          (saturatedIn n x = 0 → (t.lane l).indicators = (s.lane l).indicators) ∧
          (t.lane l).sound.periodPos = x.periodPos + n ∧
          (t.lane l).sound.tickLen = laneSampleRate (s.lane l) / 1000) ∧
      lanesKept l s t ∧ t.licences = s.licences ∧ t.host = s.host ∧ t.journal = s.journal ∧
      registersKept s t ∧ unitsKept s t ∧ t.clockUnit = s.clockUnit) ∧
  (∀ (l : LaneId) (s : State), s.clockUnit.source ≠ .acquiring → (s.lane l).state = .stopping →
    (s.lane l).sound.applied.length = (s.lane l).sound.target.length →
    (∀ w ∈ (s.lane l).sound.target, w = .mute) →
    (∀ v, Gain.level v ∈ (s.lane l).sound.applied → v - (s.lane l).options.fadeRate ≤ -890) →
    ∃ t, exec (.fadeComplete l) s = .next t ∧ exec (.millisecondTick l) s = .next t ∧
      (t.lane l).state = .ended ∧ (t.lane l).lastCause = (s.lane l).lastCause ∧
      everyMute (t.lane l).sound.applied = true ∧ materialKept (s.lane l) (t.lane l) ∧
      settingsKept (s.lane l) (t.lane l) ∧ (t.lane l).tally = (s.lane l).tally ∧
      (t.lane l).link = (s.lane l).link ∧ t.licences = s.licences ∧
      (let x := (s.lane l).sound
        let n := min (x.tickLen - x.tickPos) (x.periodLen - x.periodPos)
        linesPlayed n (s.lane l) (t.lane l) ∧ clipsCounted n (s.lane l) (t.lane l)) ∧
      restKept l s t ∧ (shapeOk s → memKept (eventAreas s l) s t)) ∧
  (∀ (l : LaneId) (s : State), s.clockUnit.source ≠ .acquiring →
    ∃ u, exec (.frameBoundary l) s = .next (boundaryLook l false u) ∧
      let n := (s.lane l).sound.periodLen - (s.lane l).sound.periodPos
      samplesPlayed n (s.lane l) ((boundaryLook l false u).lane l) ∧
        clipsCounted n (s.lane l) (u.lane l) ∧
        ((s.lane l).state ≠ .playing ∨ holdDue (s.lane l) = true ∨ presentFault (s.lane l) = none →
          linesPlayed n (s.lane l) (u.lane l)) ∧
        ((s.lane l).state = .playing → holdDue (s.lane l) = false → presentFault (s.lane l) ≠ none →
          ∀ line slot j, (lineSlot (u.lane l) line slot j).word = 0))

/-! ## The building inputs -/

/-- An input tick (R165, R166, R168): every input's raw sample is its contact read through its polarity and its
stable count is 0 at a change and at the first sample after a restart (log entry 22), and otherwise rises,
held at 1,000. An input whose count is still short of its debounce, or whose level is the raw sample already,
and one in CHATTERING whose count is still short of 1,000, keep their level, history and flag; where every
input is such a one, nothing else changes. -/
def Obligations.InputTickSamplesTheContacts : Prop :=
  ∀ (contacts : BitVec 8) (s : State), s.clockUnit.source ≠ .acquiring → s.inputs.length = 8 →
    ∃ t, exec (.inputTick contacts) s = .next t ∧ inputsSampled contacts s t ∧
      ((∀ (i : Nat) (x : Input), s.inputs[i]? = some x → onlySampled (contacts.getLsbD i) x) →
        t = { s with inputs := t.inputs, inputTicks := s.inputTicks + 1 })

/-- An input reaches its debounce (R164 to R167): from UNKNOWN the raw sample becomes its accepted level,
and otherwise the transition is accepted with its tick in the history unless four in the last 1,000 ticks
put it in CHATTERING, its history cleared and its level kept; the other inputs are sampled, one that has
nothing to hand on being nothing but sampled. Where no other
input hands anything on, the change is journaled as INPUT (its detail words as log entry 16 has them), and
an accepted active level acts on the lanes of the mask, after its entry (log entry 68): an EMERGENCY input
ends their runs, a HOLD input makes their hold (R27, R18).

An input leaves CHATTERING when its raw sample has been stable for 1,000 ticks (R166): the raw sample
becomes its accepted level, and a transition alone begins its history; an input whose level already is the
raw sample keeps it. The exit is handed on, and the transition after it (log entry 38), as above. That
INPUT_DEBOUNCE_ACCEPT and CHATTER_LEFT are the whole input tick is log entry 9. -/
def Obligations.DebounceAcceptsChattersAndRecovers : Prop :=
  (∀ (i : InputId) (contacts : BitVec 8) (s : State) (x : Input), s.clockUnit.source ≠ .acquiring →
    s.inputs.length = 8 → s.inputs[i.val]? = some x → x.filter.fresh = false →
    x.filter.chattering = false →
    readContact x.settings.polarity (contacts.getLsbD i.val) = x.filter.raw →
    x.settings.debounce ≤ min 1000 (x.filter.stable + 1) → levelOf x.filter.raw ≠ x.filter.level →
    ∃ t y, exec (.inputDebounceAccept i contacts) s = .next t ∧
      exec (.inputTick contacts) s = .next t ∧ t.inputs[i.val]? = some y ∧
      inputsSampled contacts s t ∧ y.settings = x.settings ∧
      (x.filter.level = .unknown →
        y.filter.level = levelOf x.filter.raw ∧ y.filter.history = x.filter.history ∧
          y.filter.chattering = false) ∧
      (x.filter.level ≠ .unknown →
        (x.filter.history.length = 4 ∧ s.inputTicks + 1 < x.filter.history.headD 0 + 1000 →
          y.filter.chattering = true ∧ y.filter.level = x.filter.level ∧ y.filter.history = [] ∧
            y.filter.stable = 0) ∧
          (¬ (x.filter.history.length = 4 ∧ s.inputTicks + 1 < x.filter.history.headD 0 + 1000) →
            y.filter.level = levelOf x.filter.raw ∧ y.filter.chattering = false ∧
              y.filter.history.getLast? = some (s.inputTicks + 1))) ∧
      ((∀ j < 8, j ≠ i.val → nextEvents s j contacts = []) →
        handedOn i.val x.settings
          [if y.filter.chattering then ⟨.chatterEntered, x.filter.level, x.filter.level⟩
            else ⟨.accepted, x.filter.level, levelOf x.filter.raw⟩] s t) ∧
      registersKept s t ∧ t.engine = s.engine ∧ t.pending = s.pending ∧
      (shapeOk s → memKept (deviceAreas s) s t)) ∧
  (∀ (i : InputId) (contacts : BitVec 8) (s : State) (x : Input), s.clockUnit.source ≠ .acquiring →
    s.inputs.length = 8 → s.inputs[i.val]? = some x → x.filter.fresh = false →
    x.filter.chattering = true →
    readContact x.settings.polarity (contacts.getLsbD i.val) = x.filter.raw →
    999 ≤ x.filter.stable →
    ∃ t y, exec (.chatterLeft i contacts) s = .next t ∧ exec (.inputTick contacts) s = .next t ∧
      t.inputs[i.val]? = some y ∧ inputsSampled contacts s t ∧ y.settings = x.settings ∧
      y.filter.chattering = false ∧
      y.filter.level = levelOf x.filter.raw ∧
      (levelOf x.filter.raw ≠ x.filter.level → y.filter.history = [s.inputTicks + 1]) ∧
      ((∀ j < 8, j ≠ i.val → nextEvents s j contacts = []) →
        handedOn i.val x.settings
          (⟨.chatterLeft, x.filter.level, x.filter.level⟩ ::
            if levelOf x.filter.raw = x.filter.level then []
            else [⟨.accepted, x.filter.level, levelOf x.filter.raw⟩]) s t) ∧
      registersKept s t ∧ t.engine = s.engine ∧ t.pending = s.pending ∧
      (shapeOk s → memKept (deviceAreas s) s t))

/-- An accepted active level reaches the lanes of the mask (R18, R27, R163, R167): an EMERGENCY input ends a
running lane at once, returns an ARMED lane to READY and sets the emergency pattern in every state; a HOLD
input makes or merges a NOW hold in PLAYING; the lanes outside the mask stand. -/
def Obligations.AcceptedInputsReachTheirLanes : Prop :=
  ∀ (set : InputSettings) (s : State), s.device ≠ .halted →
    lanesActed set s (actOnLanes set s) ∧
      (set.function = .none ∨ set.function = .report → actOnLanes set s = s)

/-! ## The fetch engine -/

/-- A grant to an essence track (R53 to R57, R60, R61): the lane is the first with fetchable work from the
one after the last granted; a chunk map entry that cannot be read poisons the position READ_ERROR, one whose
RESIDENT flag is clear makes the track wait with its wanted record set, one of a wrong length poisons it
MALFORMED, and a good one puts the transaction in flight, the fetch position moving on. That these are one
step of the grant is log entry 13.

A grant to subtitle work (R54, R60, R70, R71), which a lane gets once its essence is primed or no essence
track can use it: a chunk map entry that cannot be read or has a wrong length makes the store LOST with
reason CHUNK, one whose RESIDENT flag is clear makes it wait, with the track's wanted record set unless it
names the track's other store, and a good one puts the chunk in flight. -/
def Obligations.GrantStartsATransaction : Prop :=
  (∀ (l : LaneId) (e : Essence) (s : State) (sh : Show) (pos : Position) (plan : TrackPlan),
    s.device = .running → s.engine.flight = none → grantLane s = some l →
    essenceWork s l = some e → (subtitleWork s l = none ∨ essencePrimed (s.lane l) = false) →
    (s.lane l).loaded = some sh → ((s.lane l).tracks.get e).fetch = some pos →
    positionPlan sh e pos = some plan →
    ∃ t, exec .fetchGrant s = .next t ∧ t.engine.searchFrom = nextLane l ∧
      (hostRead s.host (plan.chunkMap + 16 * pos.frame) 16 = none → t.engine.flight = none ∧
        ((t.lane l).tracks.get e).fetch = successor sh e pos ∧
        ((s.lane l).p ≤ positionFrame sh pos →
          ((t.lane l).tracks.get e).queue =
            ((s.lane l).tracks.get e).queue ++
              [⟨pos, positionFrame sh pos, .poisoned .readError⟩])) ∧
      (∀ bs, hostRead s.host (plan.chunkMap + 16 * pos.frame) 16 = some bs →
        ((bs.getD 12 0).getLsbD 0 = false →
          t.engine.flight = none ∧ ((t.lane l).tracks.get e).waiting = true ∧
            ((t.lane l).tracks.get e).queue = ((s.lane l).tracks.get e).queue ∧
            ((t.lane l).tracks.get e).fetch = some pos ∧
            ∃ w, ((t.lane l).tracks.get e).wanted = some w ∧ w.reel = pos.reel ∧
              w.frame = pos.frame) ∧
          ((bs.getD 12 0).getLsbD 0 = true →
            essenceLengthOk e plan (lanePeriod (s.lane l)) (field bs 8 4) = false →
            t.engine.flight = none ∧ ((t.lane l).tracks.get e).fetch = successor sh e pos ∧
              ((s.lane l).p ≤ positionFrame sh pos →
                ((t.lane l).tracks.get e).queue =
                  ((s.lane l).tracks.get e).queue ++
                    [⟨pos, positionFrame sh pos, .poisoned .malformed⟩])) ∧
          ((bs.getD 12 0).getLsbD 0 = true →
            essenceLengthOk e plan (lanePeriod (s.lane l)) (field bs 8 4) = true →
            t.engine.flight =
                some ⟨l, (s.lane l).generation, .essence e pos, field bs 0 8, field bs 8 4⟩ ∧
              ((t.lane l).tracks.get e).fetch = successor sh e pos ∧
              ((t.lane l).tracks.get e).queue = ((s.lane l).tracks.get e).queue)) ∧
      lanesKept l s t ∧ (t.lane l).state = (s.lane l).state ∧ (t.lane l).p = (s.lane l).p ∧
      t.licences = s.licences ∧ t.inputs = s.inputs ∧ registersKept s t ∧ t.pending = s.pending ∧
      (shapeOk s → memKept (reportAreas s) s t)) ∧
  (∀ (l : LaneId) (pl : Place) (s : State) (plan : TrackPlan), s.device = .running →
    s.engine.flight = none → grantLane s = some l → subtitleWork s l = some pl →
    (essenceWork s l = none ∨ essencePrimed (s.lane l) = true) →
    storePlan (s.lane l) pl = some plan →
    let st := getStore (s.lane l).overlay pl
    let named := fun (x : Lane) => (x.subWanted.get (placeTrack pl)).any fun w =>
      decide (w.reel = st.reel) && decide (w.frame = st.fetchChunk)
    ∃ t, exec .fetchGrant s = .next t ∧ t.engine.searchFrom = nextLane l ∧
      (hostRead s.host (plan.chunkMap + 16 * st.fetchChunk) 16 = none →
        t.engine.flight = none ∧ storeLost .chunk pl (t.lane l)) ∧
      (∀ bs, hostRead s.host (plan.chunkMap + 16 * st.fetchChunk) 16 = some bs →
        ((bs.getD 12 0).getLsbD 0 = false →
          t.engine.flight = none ∧
            getStore (t.lane l).overlay pl = { st with waiting := true } ∧
            (((s.lane l).subWanted.get (placeTrack pl)).any (fun w => decide (w.reel ≠ st.reel)) =
                true → (t.lane l).subWanted = (s.lane l).subWanted) ∧
            (((s.lane l).subWanted.get (placeTrack pl)).any (fun w => decide (w.reel ≠ st.reel)) =
                false → named (t.lane l) = true)) ∧
          ((bs.getD 12 0).getLsbD 0 = true → field bs 8 4 < 17 ∨ 4194304 < field bs 8 4 →
            t.engine.flight = none ∧ storeLost .chunk pl (t.lane l)) ∧
          ((bs.getD 12 0).getLsbD 0 = true → 17 ≤ field bs 8 4 → field bs 8 4 ≤ 4194304 →
            t.engine.flight =
                some ⟨l, (s.lane l).generation, .subtitle (placeTrack pl) st.reel st.fetchChunk,
                  field bs 0 8, field bs 8 4⟩ ∧
              (t.lane l).overlay = (s.lane l).overlay ∧ named (t.lane l) = false)) ∧
      lanesKept l s t ∧ (t.lane l).state = (s.lane l).state ∧ (t.lane l).p = (s.lane l).p ∧
      (t.lane l).tracks = (s.lane l).tracks ∧ t.licences = s.licences ∧ t.inputs = s.inputs ∧
      registersKept s t ∧ t.pending = s.pending ∧ (shapeOk s → memKept (reportAreas s) s t))

/-- The completion of an essence transaction (R61 to R64): a result of an older fetch generation and one
that has become stale are discarded; another is placed at the tail of its queue, POISONED READ_ERROR when
the chunk cannot be read and INTEGRITY when its check fails, with the POISONED indicator; the engine is free
either way. A chunk whose check agrees is READY with its content, deciphered where its track is keyed (R62):
the samples of a sound chunk (R39), the units of a picture chunk as its header cuts it, or POISONED
MALFORMED where the header does not fit the chunk (R60).

The completion of a subtitle chunk (R62, R70, R71): the chunk, read then (log entry 13) and deciphered where
its track is keyed, is appended to its store, whose fetch position rises by one; one that fails its check
makes the store LOST with reason CHUNK and sets SUBTITLE_LOST; the result for an abandoned store is
discarded.

What the bytes received then make of the store (R128 to R131): fewer than the 104 of the header leave it
FETCHING, whatever L says (log entry 45); a header whose L is below the start of the bitmap area, bytes
beyond L (before any cue record is judged, log entry 58), and a last chunk that leaves them short of L each
make it LOST with reason CONTAINER; else the header's palette is kept (12 bits of a value, log entry 66),
the cue records are judged when their bytes are there, each once and within the free bitmap memory, and a
last chunk that brings L makes it DECODED with the bitmaps copied then (log entry 44). -/
def Obligations.CompletionsPlaceTheirResults : Prop :=
  (∀ (agrees : Bool) (plain : List Byte) (s : State) (f : Flight) (e : Essence) (pos : Position),
    s.engine.flight = some f → f.work = .essence e pos →
    ∃ t, exec (.fetchCompletion agrees plain) s = .next t ∧ t.engine.flight = none ∧
      t.engine.searchFrom = s.engine.searchFrom ∧
      (f.generation ≠ (s.lane f.lane).generation → t.lanes = s.lanes) ∧
      (∀ sh plan, f.generation = (s.lane f.lane).generation → (s.lane f.lane).loaded = some sh →
        positionPlan sh e pos = some plan →
        (positionFrame sh pos < (s.lane f.lane).p → t.lanes = s.lanes) ∧
          ((s.lane f.lane).p ≤ positionFrame sh pos →
            ∃ n, ((t.lane f.lane).tracks.get e).queue =
                ((s.lane f.lane).tracks.get e).queue ++ [n] ∧
              n.pos = pos ∧ n.showFrame = positionFrame sh pos ∧
              (hostRead s.host f.address f.length = none → n.body = .poisoned .readError) ∧
              (∀ bs, hostRead s.host f.address f.length = some bs →
                let content :=
                  if plan.key = none then bs.take (bs.length - 16)
                  else fitBytes (bs.length - 16) plain
                let lengths := (List.range plan.eyes).map fun i => field content (4 + 4 * i) 4
                let fits := field content 0 1 = plan.eyes ∧ (∀ k ∈ lengths, 1 ≤ k) ∧
                  4 + 4 * plan.eyes + lengths.sum = content.length
                (agrees = false → n.body = .poisoned .integrity) ∧
                  (agrees = true → e ≠ .picture →
                    n.body = .ready (.sound (soundSamples content))) ∧
                  (agrees = true → e = .picture → fits →
                    ∃ us, n.body = .ready (.picture us) ∧ us.map List.length = lengths ∧
                      us.flatten = content.drop (4 + 4 * plan.eyes)) ∧
                  (agrees = true → e = .picture → ¬ fits → n.body = .poisoned .malformed)) ∧
              ((∃ k, n.body = .poisoned k) →
                (t.lane f.lane).indicators.held &&& indicatorBit .poisoned ≠ 0))) ∧
      lanesKept f.lane s t ∧ (t.lane f.lane).state = (s.lane f.lane).state ∧
      t.licences = s.licences ∧ t.host = s.host ∧ t.journal = s.journal ∧ registersKept s t ∧
      t.inputs = s.inputs ∧ t.pending = s.pending) ∧
  (∀ (agrees : Bool) (plain : List Byte) (s : State) (f : Flight) (t1 : Subtitle) (reel chunk : Nat),
    s.engine.flight = some f → f.work = .subtitle t1 reel chunk →
    ∃ t, exec (.subtitleChunkCompletion agrees plain) s = .next t ∧ t.engine.flight = none ∧
      (f.generation ≠ (s.lane f.lane).generation → t.lanes = s.lanes) ∧
      (∀ pl plan, f.generation = (s.lane f.lane).generation →
        hasFetchWork (s.lane f.lane).state = true →
        allPlaces.find? (servesStore (s.lane f.lane) t1 reel) = some pl →
        storePlan (s.lane f.lane) pl = some plan →
        ((agrees = false ∨ hostRead s.host f.address f.length = none) →
          storeLost .chunk pl (t.lane f.lane)) ∧
          (∀ bs, agrees = true → hostRead s.host f.address f.length = some bs →
            storesOk (s.lane f.lane) →
            let content :=
              if plan.key = none then bs.take (bs.length - 16) else fitBytes (bs.length - 16) plain
            chunkTaken plan.chunks content pl (s.lane f.lane) (t.lane f.lane))) ∧
      lanesKept f.lane s t ∧ (t.lane f.lane).state = (s.lane f.lane).state ∧
      (t.lane f.lane).p = (s.lane f.lane).p ∧ (t.lane f.lane).tracks = (s.lane f.lane).tracks ∧
      t.licences = s.licences ∧ t.host = s.host ∧ t.journal = s.journal ∧ registersKept s t ∧
      t.inputs = s.inputs ∧ t.pending = s.pending)

/-! ## The projector link -/

/-- The line and the lock (R108, R109, R114): a fault takes the link DOWN with its kind and a clear lock
flag, a good line takes a DOWN link to TRAINING, a lock in TRAINING sets the lock flag, and a lock lost in
LOCKED drops the whole list as UNSEEN with the head status UNKNOWN. In TRAINING training patterns go out,
with the identity request while the lock flag is set. P, the lane's state, its queues and its gains stand.

An entry to DOWN is journaled with the state left, DOWN and the fault kind (R108, out of TESTING by log entry
57), without the lane, which stands in the entry's lane field and not in a word (the model's choice, log entry
16), a changed fault kind while DOWN with the same list (DOWN, DOWN and the kind: the model's choice, log entry
77), a test ended by a lost lock with its result, error count and records sent (R124), the other entries to
TRAINING with the state left and the state entered (log entry 75).

The line's condition is held as it was last detected (log entry 25). That the lock flag is clear in DOWN is
log entry 39, and that nothing goes out there log entry 51. -/
def Obligations.LineAndLockMoveTheLink : Prop :=
  ∀ (l : LaneId) (kind : LineFault) (s : State),
    (∃ t, exec (.lineFaultDetected l kind) s = .next t ∧ (t.lane l).link.state = .down ∧
      (t.lane l).link.faultKind = some kind ∧
      ((s.lane l).link.state ≠ .down →
        (t.lane l).link.lockFlag = false ∧ (t.lane l).link.forward = .nothing) ∧
      (t.lane l).link.seq = (s.lane l).link.seq ∧
      ((s.lane l).link.state = .locked → (t.lane l).link.awaiting = [] ∧
        (t.lane l).link.headStatus = .unknown ∧ (t.lane l).overlay.tileMap = []) ∧
      ((s.lane l).link.state = .testing → (t.lane l).link.heldTest.result = .fail) ∧
      (t.lane l).state = (s.lane l).state ∧ (t.lane l).p = (s.lane l).p ∧
      (t.lane l).tracks = (s.lane l).tracks ∧ (t.lane l).sound = (s.lane l).sound ∧
      ((s.lane l).link.state ≠ .down ∨ (s.lane l).link.faultKind ≠ some kind →
        linkJournaled l [(s.lane l).link.state.ctorIdx, 0, lineFaultCode (some kind)] s t) ∧
      restKept l s t ∧ (shapeOk s → memKept (reportAreas s) s t)) ∧
      (∃ t, exec (.lineGood l) s = .next t ∧
        ((s.lane l).link.state = .down → (t.lane l).link.state = .training ∧
          (t.lane l).link.lockFlag = false ∧ (t.lane l).link.faultKind = none ∧
          (t.lane l).link.forward = .training false ∧ linkJournaled l [0, 1] s t) ∧
        ((s.lane l).link.state ≠ .down →
          (t.lane l).link = { (s.lane l).link with line := none }) ∧
        t.licences = s.licences ∧
        t.lane l = { s.lane l with link := (t.lane l).link } ∧ restKept l s t ∧
        (shapeOk s → memKept (reportAreas s) s t)) ∧
      (∃ t, exec (.lockAchieved l) s = .next t ∧
        t.lane l =
          (if (s.lane l).link.state = .training then
            { s.lane l with
              link := { (s.lane l).link with lockFlag := true, forward := .training true } }
          else s.lane l) ∧
        t.licences = s.licences ∧ t.host = s.host ∧ restKept l s t ∧ unreported s t) ∧
      ∃ t, exec (.lockLost l) s = .next t ∧
        ((s.lane l).link.state = .down → t = s) ∧
        ((s.lane l).link.state ≠ .down →
          (t.lane l).link.state = .training ∧ (t.lane l).link.lockFlag = false ∧
            (t.lane l).link.forward = .training false) ∧
        ((s.lane l).link.state = .locked → (t.lane l).link.awaiting = [] ∧
          (t.lane l).link.headStatus = .unknown ∧ (t.lane l).overlay.tileMap = [] ∧
          (t.lane l).link.unseen =
            min 65535 ((s.lane l).link.unseen + (s.lane l).link.awaiting.length) ∧
          ((s.lane l).link.awaiting ≠ [] →
            (t.lane l).indicators.held &&& indicatorBit .unseen ≠ 0) ∧ linkJournaled l [2, 1] s t) ∧
        ((s.lane l).link.state = .testing → (t.lane l).link.heldTest.result = .fail ∧
          linkJournaled l
            [2, (t.lane l).link.heldTest.errors, (s.lane l).link.test.sent.length] s t) ∧
        (t.lane l).state = (s.lane l).state ∧ (t.lane l).p = (s.lane l).p ∧
        (t.lane l).tracks = (s.lane l).tracks ∧ (t.lane l).sound = (s.lane l).sound ∧
        restKept l s t ∧ (shapeOk s → memKept (reportAreas s) s t)

/-- A Head Identity report in TRAINING with the lock flag set locks the link (R111, R113, R121, R138): the
identity is kept, no frame is held, both palettes become pending and the tile map is empty; a running lane
ends HEAD_CHANGED with every output mute when a licence of its tally does not permit the head. A Head Status
report outside TESTING is kept where reports are decoded (R112).

A Head Identity report in LOCKED with the recorded identity changes nothing (R111). One with another drops
the list as UNSEEN, takes the head status to UNKNOWN and locks the link again with the new identity, with
the effects and the judgement above (R113, R114, R121). That the forward direction then carries nothing
before the next boundary is the model's choice (log entry 51), and so is that a head status recorded in
TRAINING stands at the entry to LOCKED (log entry 71). LINK_STATE from TRAINING carries the state left, LOCKED
and the low word of the identity (R113, log entry 16), and from LOCKED to LOCKED the identity and the reason
HEAD_IDENTITY (R111, log entry 74). -/
def Obligations.HeadReportsLockAndJudge : Prop :=
  ∀ (l : LaneId) (identity : Word64) (ready : Bool) (s : State),
    ((s.lane l).link.state = .training → (s.lane l).link.lockFlag = true →
      ∃ t, exec (.headIdentityReport l identity) s = .next t ∧ (t.lane l).link.state = .locked ∧
        (t.lane l).link.headId = some identity ∧ (t.lane l).link.frameHeld = false ∧
        (t.lane l).link.seq = (s.lane l).link.seq ∧
        (t.lane l).link.headStatus = (s.lane l).link.headStatus ∧
        (t.lane l).overlay.palettePending = ⟨true, true⟩ ∧ (t.lane l).overlay.tileMap = [] ∧
        (t.lane l).p = (s.lane l).p ∧ (t.lane l).tracks = (s.lane l).tracks ∧
        (inRunStates (s.lane l).state = false ∨
            (∀ e ∈ (s.lane l).tally.entries, entryHeld e = true → ∀ x,
              findLicence s.licences.records e.licence = some x →
                permitsHead x (some identity) = true) →
          (t.lane l).state = (s.lane l).state ∧ (t.lane l).sound = (s.lane l).sound ∧
            (t.lane l).tally = (s.lane l).tally ∧ t.licences = s.licences ∧
            linkJournaled l [1, 2, identity.toNat % 2 ^ 32] s t) ∧
        (inRunStates (s.lane l).state = true →
          (∃ e ∈ (s.lane l).tally.entries, entryHeld e = true ∧ ∃ x,
            findLicence s.licences.records e.licence = some x ∧
              permitsHead x (some identity) = false) →
          (t.lane l).state = .ended ∧ (t.lane l).lastCause = .headChanged ∧
            timersClear (t.lane l) ∧
            (t.lane l).sound.applied = List.replicate 24 .mute) ∧
        restKept l s t ∧ (shapeOk s → memKept (eventAreas s l) s t)) ∧
      ((s.lane l).link.state = .locked →
        ((s.lane l).link.headId = some identity →
          exec (.headIdentityReport l identity) s = .next s) ∧
        ((s.lane l).link.headId ≠ some identity →
          ∃ t, exec (.headIdentityReport l identity) s = .next t ∧
            (t.lane l).link =
              { (s.lane l).link with
                headId := some identity
                headStatus := .unknown
                frameHeld := false
                awaiting := []
                unseen :=
                  min 65535 ((s.lane l).link.unseen + (s.lane l).link.awaiting.length)
                forward := .nothing } ∧
            ((s.lane l).link.awaiting ≠ [] →
              (t.lane l).indicators.held &&& indicatorBit .unseen ≠ 0) ∧
            (t.lane l).overlay.palettePending = ⟨true, true⟩ ∧
            (t.lane l).overlay.tileMap = [] ∧ (t.lane l).p = (s.lane l).p ∧
            (t.lane l).tracks = (s.lane l).tracks ∧
            ((s.lane l).tally.phase ≠ .closing →
              (inRunStates (s.lane l).state = false ∨
                  (∀ e ∈ (s.lane l).tally.entries, entryHeld e = true → ∀ x,
                    findLicence s.licences.records e.licence = some x →
                      permitsHead x (some identity) = true) →
                (t.lane l).state = (s.lane l).state ∧ (t.lane l).sound = (s.lane l).sound ∧
                  (t.lane l).tally = (s.lane l).tally ∧ t.licences = s.licences ∧
                  linkJournaled l
                    [identity.toNat % 2 ^ 32, identity.toNat / 2 ^ 32, 1] s t) ∧
              (inRunStates (s.lane l).state = true →
                (∃ e ∈ (s.lane l).tally.entries, entryHeld e = true ∧ ∃ x,
                  findLicence s.licences.records e.licence = some x ∧
                    permitsHead x (some identity) = false) →
                (t.lane l).state = .ended ∧ (t.lane l).lastCause = .headChanged ∧
                  timersClear (t.lane l) ∧
                  (t.lane l).sound.applied = List.replicate 24 .mute)) ∧
            restKept l s t ∧ (shapeOk s → memKept (eventAreas s l) s t))) ∧
      ((s.lane l).link.state = .down ∨ (s.lane l).link.state = .testing ∨
          ((s.lane l).link.state = .training ∧ (s.lane l).link.lockFlag = false) →
        exec (.headIdentityReport l identity) s = .next s) ∧
      ((s.lane l).link.state = .locked ∨
          ((s.lane l).link.state = .training ∧ (s.lane l).link.lockFlag = true) →
        ∃ t, exec (.headStatusReport l ready) s = .next t ∧
          t.lane l =
            { s.lane l with
              link :=
                { (s.lane l).link with headStatus := if ready then .ready else .notReady } } ∧
          t.licences = s.licences ∧ t.host = s.host ∧ restKept l s t ∧ unreported s t) ∧
      ((s.lane l).link.state = .down ∨ (s.lane l).link.state = .testing ∨
          ((s.lane l).link.state = .training ∧ (s.lane l).link.lockFlag = false) →
        exec (.headStatusReport l ready) s = .next s)

/-- A Shown report (R98, R99, R118, R119): one that names an entry of the list removes it with every older
one, the older ones counted UNSEEN; one that names no entry, in LOCKED or elsewhere where reports are
decoded, is late. Where no report is decoded nothing happens (R110).

An eligible entry adds one confirmation to every RESERVED entry of its reel's credit set, and to no other;
the confirmation that reaches the threshold counts the showing (R87), and no other licence changes.

A report that leaves a CLOSING tally no entry of the run closes it DRAINED, its RESERVED entries released
(R101, R102). -/
def Obligations.ShownReportsConfirm : Prop :=
  (∀ (l : LaneId) (seq : BitVec 16) (s : State),
    (decodesReports (s.lane l).link = false → exec (.shownReport l seq) s = .next s) ∧
      (decodesReports (s.lane l).link = true →
        (s.lane l).link.state ≠ .locked ∨ (∀ e ∈ (s.lane l).link.awaiting, e.seq ≠ seq.toNat) →
        ∃ t, exec (.shownReport l seq) s = .next t ∧
          (t.lane l).link =
            { (s.lane l).link with late := min 65535 ((s.lane l).link.late + 1) } ∧
          (t.lane l).indicators.held &&& indicatorBit .lateTally ≠ 0 ∧
          (t.lane l).tally = (s.lane l).tally ∧ (t.lane l).state = (s.lane l).state ∧
          t.licences = s.licences ∧ restKept l s t ∧ t.host = s.host ∧ unreported s t)) ∧
  (∀ (l : LaneId) (seq : BitVec 16) (s : State) (older newer : List Awaiting) (e : Awaiting),
    (s.lane l).link.state = .locked → e.seq = seq.toNat →
    (s.lane l).link.awaiting = older ++ e :: newer → (∀ o ∈ older, o.seq ≠ seq.toNat) →
    ∃ t, exec (.shownReport l seq) s = .next t ∧
      (older ≠ [] → (t.lane l).indicators.held &&& indicatorBit .unseen ≠ 0) ∧
      (t.lane l).state = (s.lane l).state ∧ (t.lane l).p = (s.lane l).p ∧
      ((s.lane l).tally.phase = .closing → hasMark newer = false →
        (t.lane l).tally.phase = .closed ∧ (t.lane l).link.awaiting = newer ∧
          (∀ n ∈ (t.lane l).tally.entries, n.status ≠ .reserved) ∧
          (e.eligible = false →
            (t.lane l).tally.entries =
                (s.lane l).tally.entries.map
                  (fun n => if n.status = .reserved then { n with status := .released } else n) ∧
              t.licences =
                { s.licences with
                  records := recordsReleased (s.lane l).tally s.licences.records })) ∧
      ((s.lane l).tally.phase ≠ .closing ∨ hasMark newer = true →
        (t.lane l).link.awaiting = newer ∧ (t.lane l).tally.phase = (s.lane l).tally.phase ∧
          (t.lane l).link.unseen = min 65535 ((s.lane l).link.unseen + older.length) ∧
          (e.eligible = false → (t.lane l).tally = (s.lane l).tally ∧ t.licences = s.licences) ∧
          (∀ i n, e.eligible = true → creditSet (s.lane l) e.showFrame = [i] →
            (s.lane l).tally.entries[i]? = some n → n.status = .reserved →
            (n.confirmed + 1 < n.threshold →
              (t.lane l).tally.entries =
                  (s.lane l).tally.entries.set i { n with confirmed := n.confirmed + 1 } ∧
                t.licences = s.licences) ∧
              (n.threshold ≤ n.confirmed + 1 →
                (t.lane l).tally.entries =
                    (s.lane l).tally.entries.set i
                      { n with confirmed := n.confirmed + 1, status := .counted } ∧
                  ∀ x, findLicence s.licences.records n.licence = some x →
                    ∃ y, findLicence t.licences.records n.licence = some y ∧
                      y.counted = x.counted + 1 ∧ y.inFlight = x.inFlight - 1 ∧
                      y.state = derivedState s.licences.clockValid s.licences.clock y)) ∧
          (e.eligible = true → (creditSet (s.lane l) e.showFrame).Nodup →
            (∀ i n, (s.lane l).tally.entries[i]? = some n →
              (t.lane l).tally.entries[i]? =
                some
                  (if i ∈ creditSet (s.lane l) e.showFrame ∧ n.status = .reserved then
                    confirmedEntry n else n)) ∧
              (((s.lane l).tally.entries.map TallyEntry.licence).Nodup →
                (∀ i n x, i ∈ creditSet (s.lane l) e.showFrame →
                  (s.lane l).tally.entries[i]? = some n → n.status = .reserved →
                  n.threshold ≤ n.confirmed + 1 →
                  findLicence s.licences.records n.licence = some x →
                  ∃ y, findLicence t.licences.records n.licence = some y ∧
                    y.counted = x.counted + 1 ∧ y.inFlight = x.inFlight - 1 ∧
                    y.state = derivedState s.licences.clockValid s.licences.clock y) ∧
                ∀ id, (∀ i ∈ creditSet (s.lane l) e.showFrame, ∀ n,
                    (s.lane l).tally.entries[i]? = some n → n.licence = id →
                      n.status ≠ .reserved ∨ n.confirmed + 1 < n.threshold) →
                  findLicence t.licences.records id = findLicence s.licences.records id))) ∧
      restKept l s t ∧ (shapeOk s → memKept (reportAreas s) s t))

/-- A report whose check fails counts an error and sets LINK_ERROR where reports are decoded (R110), one
test error more in TESTING; a Test Tally report in TESTING marks its record, and counts an error when the
record was not intact, was not sent or was tallied already (R123). Elsewhere both are ignored. -/
def Obligations.BadAndTestReportsCount : Prop :=
  ∀ (l : LaneId) (seq : BitVec 16) (intact : Bool) (s : State),
    (decodesReports (s.lane l).link = true →
      ∃ t, exec (.badReport l) s = .next t ∧
        (t.lane l).link =
          { (s.lane l).link with
            errorCount := min 255 ((s.lane l).link.errorCount + 1)
            test := (t.lane l).link.test } ∧
        (t.lane l).link.test =
          { (s.lane l).link.test with
            errors :=
              if (s.lane l).link.state = .testing then min 65535 ((s.lane l).link.test.errors + 1)
              else (s.lane l).link.test.errors } ∧
        (t.lane l).indicators.held &&& indicatorBit .linkError ≠ 0 ∧
        (t.lane l).state = (s.lane l).state ∧ (t.lane l).tally = (s.lane l).tally ∧
        t.licences = s.licences ∧ t.host = s.host ∧ restKept l s t ∧ unreported s t) ∧
      (decodesReports (s.lane l).link = false → exec (.badReport l) s = .next s) ∧
      ((s.lane l).link.state = .testing →
        ∃ t, exec (.testTallyReport l seq intact) s = .next t ∧
          t.lane l = { s.lane l with link := { (s.lane l).link with test := (t.lane l).link.test } } ∧
          (t.lane l).link.test.left = (s.lane l).link.test.left ∧
          (t.lane l).link.test.settle = (s.lane l).link.test.settle ∧
          ((seq.toNat, false) ∈ (s.lane l).link.test.sent →
            (t.lane l).link.test.sent =
                (s.lane l).link.test.sent.map
                  (fun r => if r.1 = seq.toNat then (r.1, true) else r) ∧
              (t.lane l).link.test.errors =
                if intact then (s.lane l).link.test.errors
                else min 65535 ((s.lane l).link.test.errors + 1)) ∧
          ((seq.toNat, false) ∉ (s.lane l).link.test.sent →
            (t.lane l).link.test.sent = (s.lane l).link.test.sent ∧
              (t.lane l).link.test.errors = min 65535 ((s.lane l).link.test.errors + 1)) ∧
          t.licences = s.licences ∧ t.host = s.host ∧ restKept l s t ∧ unreported s t) ∧
      ((s.lane l).link.state ≠ .testing →
        exec (.testTallyReport l seq intact) s = .next s)
end

