-- ==== Sys2Proof/Laws/State.lean ====
section
/-! SUPPORT. One lemma for each field and each update of the state that the operations are made of, so
that no later proof unfolds a record update. -/

namespace Sys2Proof.Machine

/-! ## Groups of like things -/

@[simp] theorem Quad.get_set_self {α : Type} (q : Quad α) (l : LaneId) (x : α) :
    (q.set l x).get l = x := by cases l <;> rfl

theorem Quad.get_set_ne {α : Type} (q : Quad α) {l m : LaneId} (x : α) (h : m ≠ l) :
    (q.set l x).get m = q.get m := by cases l <;> cases m <;> first | rfl | exact absurd rfl h

@[simp] theorem Quad.set_get_self {α : Type} (q : Quad α) (l : LaneId) : q.set l (q.get l) = q := by
  cases l <;> rfl

@[simp] theorem Quad.set_set {α : Type} (q : Quad α) (l : LaneId) (x y : α) :
    (q.set l x).set l y = q.set l y := by cases l <;> rfl

@[simp] theorem Quad.get_of {α : Type} (f : LaneId → α) (l : LaneId) : (Quad.of f).get l = f l := by
  cases l <;> rfl

@[simp] theorem Quad.of_get {α : Type} (q : Quad α) : Quad.of q.get = q := rfl

@[simp] theorem PerEssence.get_set_self {α : Type} (q : PerEssence α) (e : Essence) (x : α) :
    (q.set e x).get e = x := by cases e <;> rfl

theorem PerEssence.get_set_ne {α : Type} (q : PerEssence α) {e f : Essence} (x : α) (h : f ≠ e) :
    (q.set e x).get f = q.get f := by cases e <;> cases f <;> first | rfl | exact absurd rfl h

@[simp] theorem PerSubtitle.get_set_self {α : Type} (q : PerSubtitle α) (t : Subtitle) (x : α) :
    (q.set t x).get t = x := by cases t <;> rfl

@[simp] theorem getStore_setStore_self (o : Overlay) (pl : Place) (st : Store) :
    getStore (setStore o pl st) pl = st := by cases pl <;> rfl

/-! ## Lanes of a state -/

@[simp] theorem State.lane_setLane_self (s : State) (l : LaneId) (x : Lane) :
    (s.setLane l x).lane l = x := Quad.get_set_self s.lanes l x

theorem State.lane_setLane_ne (s : State) {l m : LaneId} (x : Lane) (h : m ≠ l) :
    (s.setLane l x).lane m = s.lane m := Quad.get_set_ne s.lanes x h

@[simp] theorem State.lane_modLane_self (s : State) (l : LaneId) (f : Lane → Lane) :
    (s.modLane l f).lane l = f (s.lane l) := Quad.get_set_self s.lanes l _

theorem State.lane_modLane_ne (s : State) {l m : LaneId} (f : Lane → Lane) (h : m ≠ l) :
    (s.modLane l f).lane m = s.lane m := Quad.get_set_ne s.lanes _ h

@[simp] theorem State.modLane_device (s : State) (l : LaneId) (f : Lane → Lane) :
    (s.modLane l f).device = s.device := rfl
@[simp] theorem State.modLane_reason (s : State) (l : LaneId) (f : Lane → Lane) :
    (s.modLane l f).reason = s.reason := rfl
@[simp] theorem State.modLane_haltArea (s : State) (l : LaneId) (f : Lane → Lane) :
    (s.modLane l f).haltArea = s.haltArea := rfl
@[simp] theorem State.modLane_tableLo (s : State) (l : LaneId) (f : Lane → Lane) :
    (s.modLane l f).tableLo = s.tableLo := rfl
@[simp] theorem State.modLane_tableHi (s : State) (l : LaneId) (f : Lane → Lane) :
    (s.modLane l f).tableHi = s.tableHi := rfl
@[simp] theorem State.modLane_hiStored (s : State) (l : LaneId) (f : Lane → Lane) :
    (s.modLane l f).hiStored = s.hiStored := rfl
@[simp] theorem State.modLane_attention (s : State) (l : LaneId) (f : Lane → Lane) :
    (s.modLane l f).attention = s.attention := rfl
@[simp] theorem State.modLane_attentionMask (s : State) (l : LaneId) (f : Lane → Lane) :
    (s.modLane l f).attentionMask = s.attentionMask := rfl
@[simp] theorem State.modLane_summonFlags (s : State) (l : LaneId) (f : Lane → Lane) :
    (s.modLane l f).summonFlags = s.summonFlags := rfl
@[simp] theorem State.modLane_readData (s : State) (l : LaneId) (f : Lane → Lane) :
    (s.modLane l f).readData = s.readData := rfl
@[simp] theorem State.modLane_maintenance (s : State) (l : LaneId) (f : Lane → Lane) :
    (s.modLane l f).maintenance = s.maintenance := rfl
@[simp] theorem State.modLane_journal (s : State) (l : LaneId) (f : Lane → Lane) :
    (s.modLane l f).journal = s.journal := rfl
@[simp] theorem State.modLane_statusCount (s : State) (l : LaneId) (f : Lane → Lane) :
    (s.modLane l f).statusCount = s.statusCount := rfl
@[simp] theorem State.modLane_clockUnit (s : State) (l : LaneId) (f : Lane → Lane) :
    (s.modLane l f).clockUnit = s.clockUnit := rfl
@[simp] theorem State.modLane_licences (s : State) (l : LaneId) (f : Lane → Lane) :
    (s.modLane l f).licences = s.licences := rfl
@[simp] theorem State.modLane_engine (s : State) (l : LaneId) (f : Lane → Lane) :
    (s.modLane l f).engine = s.engine := rfl
@[simp] theorem State.modLane_inputs (s : State) (l : LaneId) (f : Lane → Lane) :
    (s.modLane l f).inputs = s.inputs := rfl
@[simp] theorem State.modLane_inputTicks (s : State) (l : LaneId) (f : Lane → Lane) :
    (s.modLane l f).inputTicks = s.inputTicks := rfl
@[simp] theorem State.modLane_recordChanged (s : State) (l : LaneId) (f : Lane → Lane) :
    (s.modLane l f).recordChanged = s.recordChanged := rfl
@[simp] theorem State.modLane_host (s : State) (l : LaneId) (f : Lane → Lane) :
    (s.modLane l f).host = s.host := rfl
@[simp] theorem State.modLane_pending (s : State) (l : LaneId) (f : Lane → Lane) :
    (s.modLane l f).pending = s.pending := rfl

/-! ## The other named updates -/

@[simp] theorem modLicences_licences (f : LicenceTable → LicenceTable) (s : State) :
    (modLicences f s).licences = f s.licences := rfl
@[simp] theorem modLicences_lane (f : LicenceTable → LicenceTable) (s : State) (l : LaneId) :
    (modLicences f s).lane l = s.lane l := rfl
@[simp] theorem modLicences_host (f : LicenceTable → LicenceTable) (s : State) :
    (modLicences f s).host = s.host := rfl
@[simp] theorem modLicences_pending (f : LicenceTable → LicenceTable) (s : State) :
    (modLicences f s).pending = s.pending := rfl

@[simp] theorem putBytes_mem (a : Nat) (bs : List Byte) (s : State) :
    (putBytes a bs s).host.mem = memWrite s.host.mem a bs := rfl
@[simp] theorem putBytes_lane (a : Nat) (bs : List Byte) (s : State) (l : LaneId) :
    (putBytes a bs s).lane l = s.lane l := rfl

@[simp] theorem setAttention_attention (n : Nat) (s : State) :
    (setAttention n s).attention = s.attention ||| attentionBit n := rfl
@[simp] theorem setAttention_lane (n : Nat) (s : State) (l : LaneId) :
    (setAttention n s).lane l = s.lane l := rfl
@[simp] theorem setAttention_host (n : Nat) (s : State) : (setAttention n s).host = s.host := rfl

@[simp] theorem settleLane_state (st : LaneState) (c : Cause) (x : Lane) :
    (settleLane st c x).state = st := rfl
@[simp] theorem settleLane_p (st : LaneState) (c : Cause) (x : Lane) : (settleLane st c x).p = x.p := rfl
@[simp] theorem settleLane_loaded (st : LaneState) (c : Cause) (x : Lane) :
    (settleLane st c x).loaded = x.loaded := rfl
@[simp] theorem settleLane_tally (st : LaneState) (c : Cause) (x : Lane) :
    (settleLane st c x).tally = x.tally := rfl
@[simp] theorem settleLane_link (st : LaneState) (c : Cause) (x : Lane) :
    (settleLane st c x).link = x.link := rfl
@[simp] theorem settleLane_tracks (st : LaneState) (c : Cause) (x : Lane) :
    (settleLane st c x).tracks = x.tracks := rfl
@[simp] theorem settleLane_overlay (st : LaneState) (c : Cause) (x : Lane) :
    (settleLane st c x).overlay = x.overlay := rfl
@[simp] theorem settleLane_options (st : LaneState) (c : Cause) (x : Lane) :
    (settleLane st c x).options = x.options := rfl
@[simp] theorem settleLane_contacts (st : LaneState) (c : Cause) (x : Lane) :
    (settleLane st c x).contacts = x.contacts := rfl
@[simp] theorem settleLane_applied (st : LaneState) (c : Cause) (x : Lane) :
    (settleLane st c x).sound.applied = x.sound.applied := rfl

@[simp] theorem setIndicator_state (i : Indicator) (x : Lane) : (setIndicator i x).state = x.state := rfl
@[simp] theorem setIndicator_link (i : Indicator) (x : Lane) : (setIndicator i x).link = x.link := rfl
@[simp] theorem setIndicator_tally (i : Indicator) (x : Lane) : (setIndicator i x).tally = x.tally := rfl
@[simp] theorem setIndicator_p (i : Indicator) (x : Lane) : (setIndicator i x).p = x.p := rfl
@[simp] theorem setIndicator_loaded (i : Indicator) (x : Lane) : (setIndicator i x).loaded = x.loaded := rfl
@[simp] theorem setIndicator_sound (i : Indicator) (x : Lane) : (setIndicator i x).sound = x.sound := rfl

@[simp] theorem clearLines_applied (x : Sound) : (clearLines x).applied = x.applied := rfl
@[simp] theorem clearLines_target (x : Sound) : (clearLines x).target = x.target := rfl
@[simp] theorem clearLines_period (x : Sound) : (clearLines x).period = x.period := rfl
@[simp] theorem clearLines_out (x : Sound) : (clearLines x).out = x.out := rfl
@[simp] theorem clearLines_outLen (x : Sound) : (clearLines x).outLen = x.outLen := rfl
@[simp] theorem clearLines_silenced (x : Sound) : (clearLines x).silenced = true := rfl
@[simp] theorem muteAtOnce_applied (x : Lane) : (muteAtOnce x).sound.applied = allMute := rfl
@[simp] theorem muteAtOnce_out (x : Lane) : (muteAtOnce x).sound.out = x.sound.out := rfl
@[simp] theorem muteAtOnce_outLen (x : Lane) : (muteAtOnce x).sound.outLen = x.sound.outLen := rfl
@[simp] theorem muteAtOnce_silenced (x : Lane) : (muteAtOnce x).sound.silenced = true := rfl
@[simp] theorem silenceLines_applied (x : Lane) :
    (silenceLines x).sound.applied = x.sound.applied := rfl
@[simp] theorem silenceLines_period (x : Lane) : (silenceLines x).sound.period = silence := rfl
@[simp] theorem silenceLines_out (x : Lane) : (silenceLines x).sound.out = x.sound.out := rfl
@[simp] theorem silenceLines_outLen (x : Lane) : (silenceLines x).sound.outLen = x.sound.outLen := rfl
@[simp] theorem silenceLines_silenced (x : Lane) : (silenceLines x).sound.silenced = true := rfl
@[simp] theorem unloadSound_out (x : Sound) : (unloadSound x).out = x.out := rfl
@[simp] theorem unloadSound_outLen (x : Sound) : (unloadSound x).outLen = x.outLen := rfl
@[simp] theorem unloadSound_silenced (x : Sound) : (unloadSound x).silenced = true := rfl
@[simp] theorem resetSound_out (x : Sound) : (resetSound x).out = x.out := rfl
@[simp] theorem resetSound_outLen (x : Sound) : (resetSound x).outLen = x.outLen := rfl
@[simp] theorem resetSound_silenced (x : Sound) : (resetSound x).silenced = true := rfl
@[simp] theorem resetSound_periodLen (x : Sound) : (resetSound x).periodLen = x.periodLen := rfl
@[simp] theorem resetSound_tickLen (x : Sound) : (resetSound x).tickLen = x.tickLen := rfl

@[simp] theorem idleLink_state (k : Link) : (idleLink k).state = k.state := rfl
@[simp] theorem idleLink_awaiting (k : Link) : (idleLink k).awaiting = k.awaiting := rfl
@[simp] theorem idleLink_seq (k : Link) : (idleLink k).seq = k.seq := rfl
@[simp] theorem trainLink_state (b : Bool) (k : Link) : (trainLink b k).state = .training := rfl
@[simp] theorem trainLink_lockFlag (b : Bool) (k : Link) : (trainLink b k).lockFlag = b := rfl
@[simp] theorem trainLink_forward (b : Bool) (k : Link) : (trainLink b k).forward = .training b := rfl
@[simp] theorem trainLink_awaiting (b : Bool) (k : Link) : (trainLink b k).awaiting = k.awaiting := rfl

/-- An indicator set under a condition changes the indicators alone. -/
theorem setIndicatorIf_eq (c : Bool) (i : Indicator) (x : Lane) :
    ∃ n, setIndicatorIf c i x = { x with indicators := n } := by
  cases c
  · exact ⟨x.indicators, rfl⟩
  · exact ⟨_, rfl⟩

end Sys2Proof.Machine
end

