-- ==== Sys2Proof/Laws/Memory.lean ====
section
/-! SUPPORT. Host memory: what a read finds after a write, and that every operation keeps the canonical
form (log entry 1). -/

namespace Sys2Proof.Machine

/-- A key that no cell of a list has is not found. -/
theorem lookup_none {m : List Host.Cell} {x : Nat} (h : ∀ c ∈ m, c.1 ≠ x) : m.lookup x = none := by
  induction m with
  | nil => rfl
  | cons c cs ih =>
    rw [List.lookup_cons]
    have hc : (x == c.1) = false := by simpa using fun e => h c (by simp) e.symm
    simp [hc, ih fun d hd => h d (by simp [hd])]

theorem lookup_append (m n : List Host.Cell) (x : Nat) :
    (m ++ n).lookup x = (m.lookup x).or (n.lookup x) := by
  induction m with
  | nil => simp
  | cons c cs ih => rw [List.cons_append, List.lookup_cons, List.lookup_cons]; split <;> simp [ih]

/-- A filter by address finds what the list finds, at an address it keeps. -/
theorem lookup_filter (m : List Host.Cell) (p : Nat → Bool) {x : Nat} (h : p x = true) :
    (m.filter fun c => p c.1).lookup x = m.lookup x := by
  induction m with
  | nil => rfl
  | cons c cs ih =>
    rw [List.filter_cons, List.lookup_cons]
    by_cases hc : x = c.1
    · obtain ⟨k, v⟩ := c; subst hc; simp [h]
    · have hne : (x == c.1) = false := by simpa using hc
      split
      · rw [List.lookup_cons]; simp [hne, ih]
      · simp [hne, ih]

/-- The keys of `cellsOf`. -/
theorem cellsOf_key {a : Nat} {bs : List Byte} {c : Host.Cell} (h : c ∈ cellsOf a bs) :
    a ≤ c.1 ∧ c.1 < a + bs.length := by
  induction bs generalizing a with
  | nil => simp [cellsOf] at h
  | cons b bs ih =>
    rw [cellsOf] at h
    split at h
    · have := ih h; simp only [List.length_cons]; omega
    · simp only [List.mem_cons] at h
      rcases h with rfl | h
      · simp
      · have := ih h; simp only [List.length_cons]; omega

theorem lookup_cellsOf {a : Nat} {bs : List Byte} {i : Nat} (h : i < bs.length) :
    ((cellsOf a bs).lookup (a + i)).getD 0 = bs[i] := by
  induction bs generalizing a i with
  | nil => simp at h
  | cons b bs ih =>
    rw [cellsOf]
    cases i with
    | zero =>
      simp only [Nat.add_zero, List.getElem_cons_zero]
      split
      · rename_i hb
        rw [lookup_none fun c hc => by have := (cellsOf_key hc).1; omega]
        simp [hb]
      · simp
    | succ i =>
      have hi : i < bs.length := by simpa using h
      have e : a + (i + 1) = a + 1 + i := by omega
      simp only [List.getElem_cons_succ]
      split
      · rw [e, ih hi]
      · rw [List.lookup_cons]
        have : (a + (i + 1) == a) = false := by simp
        simp only [this]
        rw [e, ih hi]

/-- A read of an address outside a write finds what stood there. -/
theorem memRead_memWrite_outside {m : List Host.Cell} {a x : Nat} {bs : List Byte}
    (h : x < a ∨ a + bs.length ≤ x) : memRead (memWrite m a bs) x = memRead m x := by
  unfold memRead memWrite
  rw [lookup_append, lookup_append]
  have hc : (cellsOf a bs).lookup x = none :=
    lookup_none fun c hc => by have := cellsOf_key hc; omega
  rcases h with h | h
  · rw [lookup_filter m (fun k => decide (k < a)) (by simpa using h), hc,
      lookup_none (m := m.filter fun c => decide (a + bs.length ≤ c.1)) fun c hc => by
        simp at hc; omega]
    simp
  · rw [lookup_filter m (fun k => decide (a + bs.length ≤ k)) (by simpa using h), hc,
      lookup_none (m := m.filter fun c => decide (c.1 < a)) fun c hc => by simp at hc; omega]
    simp

/-- A read of an address inside a write finds the byte written. -/
theorem memRead_memWrite_inside {m : List Host.Cell} {a i : Nat} {bs : List Byte}
    (h : i < bs.length) : memRead (memWrite m a bs) (a + i) = bs[i] := by
  unfold memRead memWrite
  rw [lookup_append, lookup_append,
    lookup_none (m := m.filter fun c => decide (c.1 < a)) fun c hc => by simp at hc; omega,
    lookup_none (m := m.filter fun c => decide (a + bs.length ≤ c.1)) fun c hc => by
      simp at hc; omega]
  simpa using lookup_cellsOf h

/-- The bytes read where bytes were written are the bytes written. -/
theorem memReadBytes_memWrite_self (m : List Host.Cell) (a : Nat) (bs : List Byte) :
    memReadBytes (memWrite m a bs) a bs.length = bs := by
  apply List.ext_getElem
  · simp [memReadBytes]
  · intro i h1 h2
    simp only [memReadBytes, List.getElem_map, List.getElem_range]
    exact memRead_memWrite_inside h2

/-- The bytes read beside a write are what stood there. -/
theorem memReadBytes_memWrite_outside {m : List Host.Cell} {a x n : Nat} {bs : List Byte}
    (h : x + n ≤ a ∨ a + bs.length ≤ x) : memReadBytes (memWrite m a bs) x n = memReadBytes m x n := by
  apply List.map_congr_left
  intro i hi
  simp only [List.mem_range] at hi
  exact memRead_memWrite_outside (by omega)

theorem cellsOf_pairwise (a : Nat) (bs : List Byte) : (cellsOf a bs).Pairwise (fun c e => c.1 < e.1) := by
  induction bs generalizing a with
  | nil => exact List.Pairwise.nil
  | cons b bs ih =>
    rw [cellsOf]
    split
    · exact ih _
    · exact List.Pairwise.cons (fun c hc => by have := (cellsOf_key hc).1; simp; omega) (ih _)

theorem cellsOf_nonzero {a : Nat} {bs : List Byte} {c : Host.Cell} (h : c ∈ cellsOf a bs) : c.2 ≠ 0 := by
  induction bs generalizing a with
  | nil => simp [cellsOf] at h
  | cons b bs ih =>
    rw [cellsOf] at h
    split at h
    · exact ih h
    · rename_i hb
      simp only [List.mem_cons] at h
      rcases h with rfl | h
      · exact hb
      · exact ih h

/-- A write keeps the canonical form. -/
theorem memWf_memWrite {m : List Host.Cell} (a : Nat) (bs : List Byte) (h : memWf m) :
    memWf (memWrite m a bs) := by
  refine ⟨?_, ?_⟩
  · refine List.pairwise_append.2 ⟨List.pairwise_append.2 ⟨h.1.filter _, cellsOf_pairwise a bs, ?_⟩,
      h.1.filter _, ?_⟩
    · intro c hc e he
      have := (cellsOf_key he).1
      simp at hc; omega
    · intro c hc e he
      simp only [List.mem_append, List.mem_filter, decide_eq_true_eq] at hc he
      rcases hc with hc | hc
      · omega
      · have := (cellsOf_key hc).2; omega
  · intro c hc
    simp only [memWrite, List.mem_append, List.mem_filter] at hc
    rcases hc with (hc | hc) | hc
    · exact h.2 c hc.1
    · exact cellsOf_nonzero hc
    · exact h.2 c hc.1

/-- The host's stores keep the canonical form. -/
theorem memWf_memStores {m : List Host.Cell} (stores : List (Nat × List Byte)) (h : memWf m) :
    memWf (memStores m stores) := by
  induction stores generalizing m with
  | nil => exact h
  | cons st rest ih => exact ih (memWf_memWrite _ _ h)

theorem memWf_hostActs {h : HostSide} (acts : HostActs) (w : memWf h.mem) :
    memWf (hostActs h acts).mem := memWf_memStores acts.stores w

theorem memWf_hostWrite {h h' : HostSide} {a : Nat} {bs : List Byte} (e : hostWrite h a bs = some h')
    (w : memWf h.mem) : memWf h'.mem := by
  unfold hostWrite at e
  split at e
  · cases e
  · cases e; exact memWf_memWrite _ _ w

theorem le_length (n v : Nat) : (le n v).length = n := by simp [le]

/-- The bytes of a value, least significant first: its lowest byte, then the bytes of what is left. -/
theorem le_succ (n v : Nat) : le (n + 1) v = BitVec.ofNat 8 v :: le n (v / 256) := by
  simp only [le, List.range_succ_eq_map, List.map_cons, List.map_map, Nat.pow_zero, Nat.div_one,
    List.cons.injEq, true_and]
  refine List.map_congr_left fun i _ => ?_
  simp only [Function.comp_apply, Nat.pow_succ, Nat.div_div_eq_div_mul, Nat.mul_comm]

/-- A value written in `n` bytes reads back modulo 256 to the power `n` (R179). -/
theorem fromLe_le (n v : Nat) : fromLe (le n v) = v % 256 ^ n := by
  induction n generalizing v with
  | zero => simp [le, fromLe, Nat.mod_one]
  | succ n ih =>
    rw [le_succ, fromLe, ih, Nat.pow_succ', Nat.mod_mul, BitVec.toNat_ofNat]

theorem leInt_length (n : Nat) (v : Int) : (leInt n v).length = n := by simp [leInt, le_length]

theorem memReadBytes_length (m : List Host.Cell) (a n : Nat) : (memReadBytes m a n).length = n := by
  simp [memReadBytes]

end Sys2Proof.Machine
end

