-- ==== Sys2Proof/Laws/Ops.lean ====
section
/-! SUPPORT. What the shared operations can do, each said once: what reporting touches (journal, status
records, ATTENTION), what a change of lane state leaves, what closing a tally changes. -/

namespace Sys2Proof.Machine

/-! ## Reports: the journal, the Device Status Record, ATTENTION -/

/-- `t` is `s` but for bytes of host memory, the journal state, the update count of the Device Status
Record and ATTENTION: all that a journal entry or a Device Status Record write touches. -/
def Reported (s t : State) : Prop :=
  ∃ m j n a, t = { s with host := { s.host with mem := m }, journal := j, statusCount := n, attention := a }

theorem Reported.refl (s : State) : Reported s s := ⟨s.host.mem, s.journal, s.statusCount, s.attention, rfl⟩

theorem Reported.trans {s t u : State} (h : Reported s t) (k : Reported t u) : Reported s u := by
  obtain ⟨m, j, n, a, rfl⟩ := h
  obtain ⟨m', j', n', a', rfl⟩ := k
  exact ⟨m', j', n', a', rfl⟩

theorem putBytes_reported (a : Nat) (bs : List Byte) (s : State) : Reported s (putBytes a bs s) :=
  ⟨_, s.journal, s.statusCount, s.attention, rfl⟩

theorem setAttention_reported (n : Nat) (s : State) : Reported s (setAttention n s) :=
  ⟨s.host.mem, s.journal, s.statusCount, _, rfl⟩

theorem journal_reported (j : Journal) (s : State) : Reported s { s with journal := j } :=
  ⟨s.host.mem, j, s.statusCount, s.attention, rfl⟩

theorem deviceStatusNow_reported (s : State) : Reported s (deviceStatusNow s) :=
  ⟨_, s.journal, _, s.attention, rfl⟩

theorem writeDeviceStatus_reported (s : State) : Reported s (writeDeviceStatus s) := by
  unfold writeDeviceStatus
  split
  · exact deviceStatusNow_reported s
  · exact Reported.refl s

theorem setWithheld_reported (n : Nat) (s : State) : Reported s (setWithheld n s) :=
  ⟨_, _, s.statusCount, s.attention, rfl⟩

theorem withhold_reported (s : State) : Reported s (withhold s) :=
  (setWithheld_reported _ s).trans (writeDeviceStatus_reported _)

theorem putEntry_reported (e : JournalEntry) (s : State) : Reported s (putEntry e s) := by
  unfold putEntry
  exact ((((putBytes_reported _ _ s).trans (journal_reported _ _)).trans (putBytes_reported _ _ _)).trans
    (setAttention_reported _ _)).trans (writeDeviceStatus_reported _)

theorem putGap_reported (s : State) : Reported s (putGap s) :=
  (setWithheld_reported 0 s).trans (putEntry_reported _ _)

theorem rereadIndex_reported (s : State) : Reported s (rereadIndex s) := journal_reported _ s

theorem refreshForOffer_reported (s : State) : Reported s (refreshForOffer s) := by
  unfold refreshForOffer
  split
  · exact Reported.refl s
  · exact rereadIndex_reported s

theorem offerNoted_reported (e : JournalEntry) (s : State) : Reported s (offerNoted e s).1 := by
  unfold offerNoted
  split
  · exact Reported.refl s
  · dsimp only
    split
    · exact (refreshForOffer_reported s).trans (withhold_reported _)
    · split
      · exact (refreshForOffer_reported s).trans (putEntry_reported _ _)
      · split
        · exact ((refreshForOffer_reported s).trans (putGap_reported _)).trans (withhold_reported _)
        · exact ((refreshForOffer_reported s).trans (putGap_reported _)).trans (putEntry_reported _ _)

theorem offer_reported (e : JournalEntry) (s : State) : Reported s (offer e s) := offerNoted_reported e s

theorem gapCheck_reported (s : State) : Reported s (gapCheck s) := by
  unfold gapCheck
  split
  · dsimp only
    split
    · exact rereadIndex_reported s
    · exact (rereadIndex_reported s).trans (putGap_reported _)
  · exact Reported.refl s

theorem Reported.lanes {s t : State} (h : Reported s t) : t.lanes = s.lanes := by
  obtain ⟨_, _, _, _, rfl⟩ := h; rfl

theorem Reported.lane {s t : State} (h : Reported s t) (l : LaneId) : t.lane l = s.lane l := by
  obtain ⟨_, _, _, _, rfl⟩ := h; rfl

theorem Reported.device {s t : State} (h : Reported s t) : t.device = s.device := by
  obtain ⟨_, _, _, _, rfl⟩ := h; rfl

theorem Reported.licences {s t : State} (h : Reported s t) : t.licences = s.licences := by
  obtain ⟨_, _, _, _, rfl⟩ := h; rfl

theorem Reported.clockUnit {s t : State} (h : Reported s t) : t.clockUnit = s.clockUnit := by
  obtain ⟨_, _, _, _, rfl⟩ := h; rfl

theorem Reported.engine {s t : State} (h : Reported s t) : t.engine = s.engine := by
  obtain ⟨_, _, _, _, rfl⟩ := h; rfl

theorem Reported.inputs {s t : State} (h : Reported s t) : t.inputs = s.inputs := by
  obtain ⟨_, _, _, _, rfl⟩ := h; rfl

theorem Reported.pending {s t : State} (h : Reported s t) : t.pending = s.pending := by
  obtain ⟨_, _, _, _, rfl⟩ := h; rfl

theorem Reported.registersKept {s t : State} (h : Reported s t) : registersKept s t := by
  obtain ⟨_, _, _, _, rfl⟩ := h; exact ⟨rfl, rfl, rfl, rfl, rfl, rfl, rfl, rfl, rfl, rfl⟩

theorem Reported.tableAddr {s t : State} (h : Reported s t) : tableAddr t = tableAddr s := by
  obtain ⟨_, _, _, _, rfl⟩ := h; rfl

@[simp] theorem offer_lane (e : JournalEntry) (s : State) (l : LaneId) : (offer e s).lane l = s.lane l :=
  (offer_reported e s).lane l

@[simp] theorem offer_device (e : JournalEntry) (s : State) : (offer e s).device = s.device :=
  (offer_reported e s).device

@[simp] theorem offer_licences (e : JournalEntry) (s : State) : (offer e s).licences = s.licences :=
  (offer_reported e s).licences

@[simp] theorem offer_clockUnit (e : JournalEntry) (s : State) : (offer e s).clockUnit = s.clockUnit :=
  (offer_reported e s).clockUnit

@[simp] theorem offer_engine (e : JournalEntry) (s : State) : (offer e s).engine = s.engine :=
  (offer_reported e s).engine

@[simp] theorem offer_inputs (e : JournalEntry) (s : State) : (offer e s).inputs = s.inputs :=
  (offer_reported e s).inputs

@[simp] theorem writeDeviceStatus_lane (s : State) (l : LaneId) :
    (writeDeviceStatus s).lane l = s.lane l := (writeDeviceStatus_reported s).lane l

@[simp] theorem writeDeviceStatus_device (s : State) : (writeDeviceStatus s).device = s.device :=
  (writeDeviceStatus_reported s).device

@[simp] theorem writeDeviceStatus_licences (s : State) : (writeDeviceStatus s).licences = s.licences :=
  (writeDeviceStatus_reported s).licences

@[simp] theorem gapCheck_lane (s : State) (l : LaneId) : (gapCheck s).lane l = s.lane l :=
  (gapCheck_reported s).lane l

/-! ## The Lane Status Record -/

/-- Writing a lane's record changes in the lanes only that lane's update count. -/
theorem writeLaneStatus_lane_self (l : LaneId) (s : State) :
    ∃ n, (writeLaneStatus l s).lane l = { s.lane l with statusCount := n } := by
  unfold writeLaneStatus
  split
  · exact ⟨_, State.lane_modLane_self _ _ _⟩
  · exact ⟨_, rfl⟩

theorem writeLaneStatus_lane_ne (s : State) {l m : LaneId} (h : m ≠ l) :
    (writeLaneStatus l s).lane m = s.lane m := by
  unfold writeLaneStatus
  split
  · exact State.lane_modLane_ne _ _ h
  · rfl

@[simp] theorem writeLaneStatus_bare (l : LaneId) (s : State) :
    bare ((writeLaneStatus l s).lane l) = bare (s.lane l) := by
  obtain ⟨n, h⟩ := writeLaneStatus_lane_self l s
  rw [h]; rfl

@[simp] theorem writeLaneStatus_licences (l : LaneId) (s : State) :
    (writeLaneStatus l s).licences = s.licences := by unfold writeLaneStatus; split <;> rfl

@[simp] theorem writeLaneStatus_device (l : LaneId) (s : State) :
    (writeLaneStatus l s).device = s.device := by unfold writeLaneStatus; split <;> rfl

@[simp] theorem writeLaneStatus_clockUnit (l : LaneId) (s : State) :
    (writeLaneStatus l s).clockUnit = s.clockUnit := by unfold writeLaneStatus; split <;> rfl

@[simp] theorem writeLaneStatus_inputs (l : LaneId) (s : State) :
    (writeLaneStatus l s).inputs = s.inputs := by unfold writeLaneStatus; split <;> rfl

@[simp] theorem writeLaneStatus_engine (l : LaneId) (s : State) :
    (writeLaneStatus l s).engine = s.engine := by unfold writeLaneStatus; split <;> rfl

/-! ## Changes of the Lane Status Records noted -/

@[simp] theorem noteChanges_device (s t : State) : (noteChanges s t).device = t.device := rfl
@[simp] theorem noteChanges_reason (s t : State) : (noteChanges s t).reason = t.reason := rfl
@[simp] theorem noteChanges_haltArea (s t : State) : (noteChanges s t).haltArea = t.haltArea := rfl
@[simp] theorem noteChanges_tableLo (s t : State) : (noteChanges s t).tableLo = t.tableLo := rfl
@[simp] theorem noteChanges_tableHi (s t : State) : (noteChanges s t).tableHi = t.tableHi := rfl
@[simp] theorem noteChanges_hiStored (s t : State) : (noteChanges s t).hiStored = t.hiStored := rfl
@[simp] theorem noteChanges_attention (s t : State) : (noteChanges s t).attention = t.attention := rfl
@[simp] theorem noteChanges_attentionMask (s t : State) :
    (noteChanges s t).attentionMask = t.attentionMask := rfl
@[simp] theorem noteChanges_summonFlags (s t : State) :
    (noteChanges s t).summonFlags = t.summonFlags := rfl
@[simp] theorem noteChanges_readData (s t : State) : (noteChanges s t).readData = t.readData := rfl
@[simp] theorem noteChanges_maintenance (s t : State) :
    (noteChanges s t).maintenance = t.maintenance := rfl
@[simp] theorem noteChanges_journal (s t : State) : (noteChanges s t).journal = t.journal := rfl
@[simp] theorem noteChanges_statusCount (s t : State) :
    (noteChanges s t).statusCount = t.statusCount := rfl
@[simp] theorem noteChanges_clockUnit (s t : State) : (noteChanges s t).clockUnit = t.clockUnit := rfl
@[simp] theorem noteChanges_licences (s t : State) : (noteChanges s t).licences = t.licences := rfl
@[simp] theorem noteChanges_engine (s t : State) : (noteChanges s t).engine = t.engine := rfl
@[simp] theorem noteChanges_inputs (s t : State) : (noteChanges s t).inputs = t.inputs := rfl
@[simp] theorem noteChanges_inputTicks (s t : State) :
    (noteChanges s t).inputTicks = t.inputTicks := rfl
@[simp] theorem noteChanges_lanes (s t : State) : (noteChanges s t).lanes = t.lanes := rfl
@[simp] theorem noteChanges_lane (s t : State) (l : LaneId) : (noteChanges s t).lane l = t.lane l := rfl
@[simp] theorem noteChanges_host (s t : State) : (noteChanges s t).host = t.host := rfl
@[simp] theorem noteChanges_pending (s t : State) : (noteChanges s t).pending = t.pending := rfl
@[simp] theorem noteChanges_recordChanged (s t : State) (l : LaneId) :
    (noteChanges s t).recordChanged.get l = (s.recordChanged.get l || recordDiffers s t l) :=
  Quad.get_of _ l

@[simp] theorem recordDiffers_self (s : State) (l : LaneId) : recordDiffers s s l = false := by
  simp [recordDiffers]

/-- A Lane Status Record shows the lane, the transaction in flight and the keys alone: where those stand, no
record differs. -/
theorem recordDiffers_eq_false {s t : State} (l : LaneId) (hx : t.lanes = s.lanes)
    (he : t.engine = s.engine) (hl : t.licences = s.licences) : recordDiffers s t l = false := by
  cases s; cases t; cases hx; cases he; cases hl; exact decide_eq_false (not_not_intro rfl)

/-- Where the lanes, the fetch engine and the Licence Table stand, no change is noted. -/
theorem noteChanges_eq_self {s t : State} (hx : t.lanes = s.lanes) (he : t.engine = s.engine)
    (hl : t.licences = s.licences) (hc : t.recordChanged = s.recordChanged) : noteChanges s t = t := by
  have h : (Quad.of fun l => s.recordChanged.get l || recordDiffers s t l) = t.recordChanged := by
    simp [recordDiffers_eq_false _ hx he hl, hc]
  unfold noteChanges
  rw [h]

@[simp] theorem noteChanges_self (s : State) : noteChanges s s = s := noteChanges_eq_self rfl rfl rfl rfl

/-! ## The switch back and a change of lane state -/

/-- The switch back changes the clock source state and what reports touch. -/
theorem switchBack_effect (s : State) :
    ∃ c, Reported { s with clockUnit := c } (switchBack s) := by
  unfold switchBack
  split
  · exact ⟨_, (writeDeviceStatus_reported _).trans (offer_reported _ _)⟩
  · exact ⟨s.clockUnit, Reported.refl s⟩

@[simp] theorem switchBack_lane (s : State) (l : LaneId) : (switchBack s).lane l = s.lane l := by
  obtain ⟨c, h⟩ := switchBack_effect s; rw [h.lane]; rfl

@[simp] theorem switchBack_licences (s : State) : (switchBack s).licences = s.licences := by
  obtain ⟨c, h⟩ := switchBack_effect s; rw [h.licences]

@[simp] theorem switchBack_device (s : State) : (switchBack s).device = s.device := by
  obtain ⟨c, h⟩ := switchBack_effect s; rw [h.device]

@[simp] theorem switchBack_inputs (s : State) : (switchBack s).inputs = s.inputs := by
  obtain ⟨c, h⟩ := switchBack_effect s; rw [h.inputs]

@[simp] theorem switchBack_engine (s : State) : (switchBack s).engine = s.engine := by
  obtain ⟨c, h⟩ := switchBack_effect s; rw [h.engine]

/-- The lane after a change of state, its record's bookkeeping apart. -/
theorem changeState_bare (l : LaneId) (st : LaneState) (c : Cause) (f : Lane → Lane) (s : State) :
    bare ((changeState l st c f s).lane l) = bare (f (settleLane st c (s.lane l))) := by
  unfold changeState
  rw [switchBack_lane, writeLaneStatus_bare, State.lane_modLane_self, offer_lane]

theorem changeState_lane_ne (st : LaneState) (c : Cause) (f : Lane → Lane) (s : State) {l m : LaneId}
    (h : m ≠ l) : (changeState l st c f s).lane m = s.lane m := by
  unfold changeState
  rw [switchBack_lane, writeLaneStatus_lane_ne _ h, State.lane_modLane_ne _ _ h, offer_lane]

@[simp] theorem changeState_licences (l : LaneId) (st : LaneState) (c : Cause) (f : Lane → Lane)
    (s : State) : (changeState l st c f s).licences = s.licences := by
  unfold changeState
  rw [switchBack_licences, writeLaneStatus_licences, State.modLane_licences, offer_licences]

@[simp] theorem changeState_device (l : LaneId) (st : LaneState) (c : Cause) (f : Lane → Lane)
    (s : State) : (changeState l st c f s).device = s.device := by
  unfold changeState
  rw [switchBack_device, writeLaneStatus_device, State.modLane_device, offer_device]

@[simp] theorem changeState_inputs (l : LaneId) (st : LaneState) (c : Cause) (f : Lane → Lane)
    (s : State) : (changeState l st c f s).inputs = s.inputs := by
  unfold changeState
  rw [switchBack_inputs, writeLaneStatus_inputs, State.modLane_inputs, offer_inputs]

/-- The state that a change of lane state leaves the lane in, where `f` leaves the state alone. -/
theorem changeState_state (l : LaneId) (st : LaneState) (c : Cause) (f : Lane → Lane) (s : State)
    (h : ∀ x, (f x).state = x.state) : ((changeState l st c f s).lane l).state = st := by
  have := congrArg Lane.state (changeState_bare l st c f s)
  simpa [bare, h] using this

theorem enterState_bare (l : LaneId) (st : LaneState) (c : Cause) (s : State) :
    bare ((enterState l st c s).lane l) = bare (settleLane st c (s.lane l)) :=
  changeState_bare l st c id s

@[simp] theorem enterState_state (l : LaneId) (st : LaneState) (c : Cause) (s : State) :
    ((enterState l st c s).lane l).state = st := changeState_state l st c id s fun _ => rfl

/-! ## Licences -/

@[simp] theorem releaseAll_lane (ids : List Nat) (s : State) (l : LaneId) :
    (releaseAll ids s).lane l = s.lane l := rfl

@[simp] theorem reserveAll_lane (ids : List Nat) (s : State) (l : LaneId) :
    (reserveAll ids s).lane l = s.lane l := rfl

/-- An evaluation changes the Licence Table's records and what reports touch. -/
theorem evaluateAt_effect (i : Nat) (s : State) :
    ∃ r, Reported (modLicences (fun t => { t with records := r }) s) (evaluateAt i s) := by
  unfold evaluateAt
  split
  · exact ⟨s.licences.records, Reported.refl _⟩
  · dsimp only
    split
    · exact ⟨s.licences.records, Reported.refl _⟩
    · exact ⟨_, offer_reported _ _⟩

@[simp] theorem evaluateAt_lane (i : Nat) (s : State) (l : LaneId) :
    (evaluateAt i s).lane l = s.lane l := by
  obtain ⟨r, h⟩ := evaluateAt_effect i s; rw [h.lane]; rfl

@[simp] theorem evaluateAll_lane (s : State) (l : LaneId) : (evaluateAll s).lane l = s.lane l := by
  unfold evaluateAll
  generalize List.range s.licences.records.length = is
  induction is generalizing s with
  | nil => rfl
  | cons i is ih => rw [List.foldl_cons, ih, evaluateAt_lane]

/-! ## The tally -/

/-- Closing a tally changes in the lane its tally, its list, the unseen count and the indicators. -/
theorem closeTally_lane_self (l : LaneId) (w : WayClosed) (s : State) :
    (closeTally l w s).lane l =
      { dropMarked (s.lane l) with tally := closedTally (s.lane l).tally } := by
  unfold closeTally
  dsimp only
  split
  · simp
  · simp

theorem closeTally_lane_ne (w : WayClosed) (s : State) {l m : LaneId} (h : m ≠ l) :
    (closeTally l w s).lane m = s.lane m := by
  unfold closeTally
  dsimp only
  split
  · rw [State.lane_modLane_ne _ _ h]; rfl
  · rw [offer_lane, State.lane_modLane_ne _ _ h]; rfl

/-- What of a lane closing a tally leaves: all but tally, link and indicators. -/
theorem dropUnseen_eq (rest : List Awaiting) (n : Nat) (x : Lane) :
    ∃ k i, dropUnseen rest n x = { x with link := k, indicators := i } := by
  obtain ⟨i, h⟩ := setIndicatorIf_eq (decide (n ≠ 0)) .unseen
    { x with link := { x.link with awaiting := rest, unseen := saturate16 (x.link.unseen + n) } }
  exact ⟨_, i, h⟩

theorem checkDrained_lane (l : LaneId) (s : State) :
    ∃ t k i, (checkDrained l s).lane l = { s.lane l with tally := t, link := k, indicators := i } := by
  unfold checkDrained
  split
  · obtain ⟨k, i, h⟩ := dropUnseen_eq (afterMarks (s.lane l).link.awaiting)
      ((s.lane l).link.awaiting.length - (afterMarks (s.lane l).link.awaiting).length) (s.lane l)
    refine ⟨closedTally (s.lane l).tally, k, i, ?_⟩
    rw [closeTally_lane_self]
    unfold dropMarked
    rw [h]
  · exact ⟨_, _, _, rfl⟩

theorem checkDrained_lane_ne (s : State) {l m : LaneId} (h : m ≠ l) :
    (checkDrained l s).lane m = s.lane m := by
  unfold checkDrained
  split
  · exact closeTally_lane_ne _ _ h
  · rfl

theorem runEnd_lane (l : LaneId) (c : Cause) (s : State) :
    ∃ t k i, (runEnd l c s).lane l = { s.lane l with tally := t, link := k, indicators := i } := by
  unfold runEnd
  split
  · obtain ⟨t, k, i, h⟩ := checkDrained_lane l
      (modTally l (fun t => { t with phase := .closing, window := 0, endCause := c }) s)
    refine ⟨t, k, i, ?_⟩
    rw [h]
    unfold modTally
    rw [State.lane_modLane_self]
  · exact ⟨_, _, _, rfl⟩

theorem runEnd_lane_ne (c : Cause) (s : State) {l m : LaneId} (h : m ≠ l) :
    (runEnd l c s).lane m = s.lane m := by
  unfold runEnd
  split
  · rw [checkDrained_lane_ne _ h]; exact State.lane_modLane_ne _ _ h
  · rfl

@[simp] theorem closeTally_device (l : LaneId) (w : WayClosed) (s : State) :
    (closeTally l w s).device = s.device := by
  unfold closeTally
  dsimp only
  split
  · rfl
  · rw [offer_device]; rfl

@[simp] theorem checkDrained_device (l : LaneId) (s : State) : (checkDrained l s).device = s.device := by
  unfold checkDrained
  split
  · exact closeTally_device _ _ _
  · rfl

@[simp] theorem runEnd_device (l : LaneId) (c : Cause) (s : State) :
    (runEnd l c s).device = s.device := by
  unfold runEnd
  split
  · rw [checkDrained_device]; rfl
  · rfl

end Sys2Proof.Machine
end

