-- ==== Sys2Proof/Laws/Sound.lean ====
section
/-! SUPPORT. The samples that a lane played last stand through everything that a request, a run end or the
look at a slot does: each operation said once, up to the lane boundary look. -/

namespace Sys2Proof.Machine

/-- The samples that a lane played last, with their number. -/
def heldSamples (x : Lane) : List (List Int) × Nat := (x.sound.out, x.sound.outLen)

/-- A lane that holds the samples of another shows the same stretch. -/
theorem playedSlot_of_held {x y : Lane} (h : heldSamples y = heldSamples x) : playedSlot y = playedSlot x := by
  have ho : y.sound.out = x.sound.out := congrArg Prod.fst h
  funext line slot j
  simp only [playedSlot, sampleAt, ho]

/-- Samples played and then held. -/
theorem samplesPlayed_of_held {n : Nat} {x y z : Lane} (h : heldSamples z = heldSamples y)
    (p : samplesPlayed n x y) : samplesPlayed n x z := by
  have hl : z.sound.outLen = y.sound.outLen := congrArg Prod.snd h
  refine ⟨fun hn => hl.trans (p.1 hn), fun k j xs g hx hg hj => ?_⟩
  rw [playedSlot_of_held h]
  exact p.2 k j xs g hx hg hj

theorem lineSlot_silenced {x : Lane} (h : x.sound.silenced = true) (line slot j : Nat) :
    (lineSlot x line slot j).word = 0 := by simp [lineSlot, h]

theorem lineSlot_played {x : Lane} (h : x.sound.silenced = false) (line slot j : Nat) :
    lineSlot x line slot j = playedSlot x line slot j := by simp [lineSlot, h]

@[simp] theorem heldSamples_bare (x : Lane) : heldSamples (bare x) = heldSamples x := rfl
@[simp] theorem heldSamples_settleLane (st : LaneState) (c : Cause) (x : Lane) :
    heldSamples (settleLane st c x) = heldSamples x := rfl
@[simp] theorem heldSamples_reformTargets (x : Lane) : heldSamples (reformTargets x) = heldSamples x := rfl
@[simp] theorem heldSamples_setIndicatorIf (b : Bool) (i : Indicator) (x : Lane) :
    heldSamples (setIndicatorIf b i x) = heldSamples x := by cases b <;> rfl
@[simp] theorem heldSamples_dropUnseen (r : List Awaiting) (n : Nat) (x : Lane) :
    heldSamples (dropUnseen r n x) = heldSamples x := by simp [dropUnseen]; rfl

@[simp] theorem heldSamples_askStore (reel : Nat) (x : Lane) (pl : Place) :
    heldSamples (askStore reel x pl) = heldSamples x := by
  unfold askStore
  split
  · rfl
  · split <;> rfl

@[simp] theorem heldSamples_askReel (reel : Nat) (x : Lane) :
    heldSamples (askReel reel x) = heldSamples x := by simp [askReel]

@[simp] theorem heldSamples_flushTo (reel : Nat) (x : Lane) :
    heldSamples (flushTo reel x) = heldSamples x := by unfold flushTo; split <;> rfl

@[simp] theorem heldSamples_departLane (x : Lane) : heldSamples (departLane x) = heldSamples x :=
  heldSamples_dropUnseen [] x.link.awaiting.length x

@[simp] theorem heldSamples_emptyLane (x : Lane) : heldSamples (emptyLane x) = heldSamples x := rfl
@[simp] theorem heldSamples_unloadLane (x : Lane) : heldSamples (unloadLane x) = heldSamples x := rfl
@[simp] theorem heldSamples_resetLane (x : Lane) : heldSamples (resetLane x) = heldSamples x := rfl
@[simp] theorem heldSamples_resumeLane (x : Lane) : heldSamples (resumeLane x) = heldSamples x := rfl
@[simp] theorem heldSamples_runLane (x : Lane) : heldSamples (runLane x) = heldSamples x := rfl
@[simp] theorem heldSamples_loadLane (rs : List (Option Licence)) (sh : Show) (x : Lane) :
    heldSamples (loadLane rs sh x) = heldSamples x := heldSamples_askReel 1 _
@[simp] theorem heldSamples_rewindLane (x : Lane) : heldSamples (rewindLane x) = heldSamples x := by
  unfold rewindLane
  rw [heldSamples_askReel]
  exact heldSamples_flushTo 1 x
@[simp] theorem heldSamples_seekLane (reel start : Nat) (x : Lane) :
    heldSamples (seekLane reel start x) = heldSamples x := by
  unfold seekLane
  rw [heldSamples_askReel]
  exact heldSamples_flushTo reel x

/-! ## Through a state -/

@[simp] theorem heldSamples_writeLaneStatus (l : LaneId) (s : State) :
    heldSamples ((writeLaneStatus l s).lane l) = heldSamples (s.lane l) := by
  obtain ⟨n, h⟩ := writeLaneStatus_lane_self l s
  rw [h]; rfl

theorem heldSamples_changeState (l : LaneId) (st : LaneState) (c : Cause) (f : Lane → Lane) (s : State)
    (h : ∀ x, heldSamples (f x) = heldSamples x) :
    heldSamples ((changeState l st c f s).lane l) = heldSamples (s.lane l) := by
  rw [← heldSamples_bare, changeState_bare, heldSamples_bare, h, heldSamples_settleLane]

@[simp] theorem heldSamples_enterState (l : LaneId) (st : LaneState) (c : Cause) (s : State) :
    heldSamples ((enterState l st c s).lane l) = heldSamples (s.lane l) :=
  heldSamples_changeState l st c id s fun _ => rfl

theorem heldSamples_modLane (l : LaneId) (f : Lane → Lane) (s : State)
    (h : ∀ x, heldSamples (f x) = heldSamples x) :
    heldSamples ((s.modLane l f).lane l) = heldSamples (s.lane l) := by rw [State.lane_modLane_self, h]

@[simp] theorem heldSamples_closeAtOnce (l : LaneId) (w : WayClosed) (s : State) :
    heldSamples ((closeAtOnce l w s).lane l) = heldSamples (s.lane l) := by
  unfold closeAtOnce
  split
  · rw [closeTally_lane_self]
    exact heldSamples_dropUnseen _ _ _
  · rfl

@[simp] theorem heldSamples_checkDrained (l : LaneId) (s : State) :
    heldSamples ((checkDrained l s).lane l) = heldSamples (s.lane l) := by
  obtain ⟨t, k, i, h⟩ := checkDrained_lane l s
  rw [h]; rfl

@[simp] theorem heldSamples_runEnd (l : LaneId) (c : Cause) (s : State) :
    heldSamples ((runEnd l c s).lane l) = heldSamples (s.lane l) := by
  obtain ⟨t, k, i, h⟩ := runEnd_lane l c s
  rw [h]; rfl

@[simp] theorem heldSamples_stopLane (l : LaneId) (c : Cause) (s : State) :
    heldSamples ((stopLane l c s).lane l) = heldSamples (s.lane l) := by
  unfold stopLane
  dsimp only
  split <;> simp

theorem heldSamples_writePart (l : LaneId) (s : State) (i : Nat) :
    heldSamples ((writePart l s i).lane l) = heldSamples (s.lane l) := by
  unfold writePart
  split
  · rfl
  · split
    · exact heldSamples_modLane l _ _ fun _ => rfl
    · exact heldSamples_modLane l _ _ fun _ => rfl

@[simp] theorem heldSamples_writeParts (l : LaneId) (is : List Nat) (s : State) :
    heldSamples ((writeParts l is s).lane l) = heldSamples (s.lane l) := by
  unfold writeParts
  induction is generalizing s with
  | nil => rfl
  | cons i is ih => rw [List.foldl_cons, ih, heldSamples_writePart]

@[simp] theorem heldSamples_modScanner (l : LaneId) (f : CueScanner → CueScanner) (s : State) :
    heldSamples ((modScanner l f s).lane l) = heldSamples (s.lane l) :=
  heldSamples_modLane l _ s fun _ => rfl

@[simp] theorem heldSamples_modLink (l : LaneId) (f : Link → Link) (s : State) :
    heldSamples ((modLink l f s).lane l) = heldSamples (s.lane l) :=
  heldSamples_modLane l _ s fun _ => rfl

@[simp] theorem heldSamples_startTest (l : LaneId) (n : Nat) (s : State) :
    heldSamples ((startTest l n s).lane l) = heldSamples (s.lane l) := by
  unfold startTest offerLink departLocked
  rw [offer_lane, heldSamples_modLink, heldSamples_checkDrained, State.lane_modLane_self,
    heldSamples_departLane]

/-! ## Through a lane request -/

@[simp] theorem heldSamples_doLoadShow (l : LaneId) (rq : Req) (s : State) :
    heldSamples ((doLoadShow l rq s).1.lane l) = heldSamples (s.lane l) := by
  unfold doLoadShow
  split
  · rfl
  · split
    · rfl
    · exact heldSamples_changeState l _ _ (loadLane _ _) s (heldSamples_loadLane _ _)

@[simp] theorem heldSamples_doUnload (l : LaneId) (s : State) :
    heldSamples ((doUnload l s).1.lane l) = heldSamples (s.lane l) := by
  unfold doUnload
  split
  · rfl
  · exact (heldSamples_changeState l _ _ unloadLane _ heldSamples_unloadLane).trans
      (heldSamples_closeAtOnce l _ s)

@[simp] theorem heldSamples_doRewind (l : LaneId) (s : State) :
    heldSamples ((doRewind l s).1.lane l) = heldSamples (s.lane l) := by
  unfold doRewind
  split
  · rfl
  · exact (heldSamples_changeState l _ _ rewindLane _ heldSamples_rewindLane).trans
      (heldSamples_closeAtOnce l _ s)

@[simp] theorem heldSamples_doLaneReset (l : LaneId) (s : State) :
    heldSamples ((doLaneReset l s).1.lane l) = heldSamples (s.lane l) :=
  (heldSamples_changeState l _ _ resetLane _ heldSamples_resetLane).trans (heldSamples_closeAtOnce l _ s)

@[simp] theorem heldSamples_doSetOptions (l : LaneId) (rq : Req) (s : State) :
    heldSamples ((doSetOptions l rq s).1.lane l) = heldSamples (s.lane l) := by
  unfold doSetOptions
  split
  · rfl
  · split
    · exact heldSamples_modLane l _ s fun _ => rfl
    · rfl

theorem heldSamples_acceptSection (l : LaneId) (now staged : Sound → Sound) (n : Nat) (s : State)
    (hn : ∀ x, (now x).out = x.out ∧ (now x).outLen = x.outLen)
    (hs : ∀ x, (staged x).out = x.out ∧ (staged x).outLen = x.outLen) :
    heldSamples ((acceptSection l now staged n s).1.lane l) = heldSamples (s.lane l) := by
  refine heldSamples_modLane l _ s fun x => ?_
  rw [heldSamples_reformTargets]
  split
  · exact Prod.ext (hs x.sound).1 (hs x.sound).2
  · exact Prod.ext (hn x.sound).1 (hn x.sound).2

@[simp] theorem heldSamples_doWriteSoundMap (l : LaneId) (rq : Req) (bs : List Byte) (s : State) :
    heldSamples ((doWriteSoundMap l rq bs s).1.lane l) = heldSamples (s.lane l) := by
  unfold doWriteSoundMap
  split
  · rfl
  · split
    · split
      · rfl
      · exact heldSamples_acceptSection l _ _ _ s (fun _ => ⟨rfl, rfl⟩) fun _ => ⟨rfl, rfl⟩
    · split
      · split
        · rfl
        · exact heldSamples_acceptSection l _ _ _ s (fun _ => ⟨rfl, rfl⟩) fun _ => ⟨rfl, rfl⟩
      · rfl

@[simp] theorem heldSamples_attemptStart (l : LaneId) (s : State) :
    heldSamples ((attemptStart l s).1.lane l) = heldSamples (s.lane l) := by
  unfold attemptStart
  split
  · rfl
  · exact (heldSamples_changeState l _ _ runLane _ heldSamples_runLane).trans
      ((heldSamples_writeParts l _ _).trans (heldSamples_modScanner l _ _))

@[simp] theorem heldSamples_doStart (l : LaneId) (s : State) :
    heldSamples ((doStart l s).1.lane l) = heldSamples (s.lane l) := by
  unfold doStart
  split
  · rfl
  · simp

@[simp] theorem heldSamples_doStartAt (l : LaneId) (rq : Req) (s : State) :
    heldSamples ((doStartAt l rq s).1.lane l) = heldSamples (s.lane l) := by
  unfold doStartAt
  repeat' split
  · rfl
  · rfl
  · rfl
  · exact heldSamples_attemptStart l s
  · exact heldSamples_changeState l _ _ (fun x => { x with startSecond := _ }) s fun _ => rfl

@[simp] theorem heldSamples_doCancelStart (l : LaneId) (s : State) :
    heldSamples ((doCancelStart l s).1.lane l) = heldSamples (s.lane l) := by
  unfold doCancelStart
  split <;> simp

@[simp] theorem heldSamples_doHold (l : LaneId) (rq : Req) (s : State) :
    heldSamples ((doHold l rq s).1.lane l) = heldSamples (s.lane l) := by
  unfold doHold
  dsimp only
  repeat' split
  all_goals first | rfl | exact heldSamples_modLane l _ s fun _ => rfl

@[simp] theorem heldSamples_doCancelHold (l : LaneId) (s : State) :
    heldSamples ((doCancelHold l s).1.lane l) = heldSamples (s.lane l) := by
  unfold doCancelHold
  split
  · exact heldSamples_modLane l _ s fun _ => rfl
  · rfl

@[simp] theorem heldSamples_doResume (l : LaneId) (s : State) :
    heldSamples ((doResume l s).1.lane l) = heldSamples (s.lane l) := by
  unfold doResume
  split
  · rfl
  · split
    · rfl
    · exact heldSamples_changeState l _ _ resumeLane s heldSamples_resumeLane

@[simp] theorem heldSamples_doSeek (l : LaneId) (rq : Req) (s : State) :
    heldSamples ((doSeek l rq s).1.lane l) = heldSamples (s.lane l) := by
  unfold doSeek
  split
  · rfl
  · split
    · rfl
    · exact (heldSamples_changeState l _ _ (seekLane _ _) _ (heldSamples_seekLane _ _)).trans
        ((heldSamples_writeParts l _ _).trans (heldSamples_modScanner l _ _))

@[simp] theorem heldSamples_doStop (l : LaneId) (s : State) :
    heldSamples ((doStop l s).1.lane l) = heldSamples (s.lane l) := by
  unfold doStop
  split <;> simp

@[simp] theorem heldSamples_doSetLevel (l : LaneId) (rq : Req) (s : State) :
    heldSamples ((doSetLevel l rq s).1.lane l) = heldSamples (s.lane l) := by
  unfold doSetLevel
  split
  · rfl
  · exact heldSamples_modLane l _ s fun _ => rfl

@[simp] theorem heldSamples_doTestIndicators (l : LaneId) (s : State) :
    heldSamples ((doTestIndicators l s).1.lane l) = heldSamples (s.lane l) :=
  heldSamples_modLane l _ s fun _ => rfl

@[simp] theorem heldSamples_doLinkTest (l : LaneId) (rq : Req) (s : State) :
    heldSamples ((doLinkTest l rq s).1.lane l) = heldSamples (s.lane l) := by
  unfold doLinkTest
  dsimp only
  repeat' split
  all_goals first | rfl | exact heldSamples_startTest l _ s

theorem heldSamples_laneRequest (l : LaneId) (kind : Nat) (rq : Req) (bs : List Byte) (s : State)
    {r : State × Answer} (h : laneRequest l kind rq bs s = some r) :
    heldSamples (r.1.lane l) = heldSamples (s.lane l) := by
  unfold laneRequest at h
  split at h <;> cases h <;> simp

/-! ## Through the taking of a request and the lane boundary look -/

theorem heldSamples_judgeRequest (l : LaneId) (kind : Nat) (rq : Req) (b : Bool) (s : State) :
    heldSamples ((judgeRequest (.lane l) kind rq b s).1.lane l) = heldSamples (s.lane l) := by
  unfold judgeRequest
  split
  · rfl
  · split
    · rfl
    · next block _ =>
      dsimp only
      cases h : laneRequest l kind rq block s with
      | none => rfl
      | some r => exact heldSamples_laneRequest l kind rq block s h

theorem heldSamples_serve (l : LaneId) (kind : Nat) (rq : Req) (b : Bool) (s : State) :
    heldSamples ((serve (.lane l) kind rq b s).lane l) = heldSamples (s.lane l) := by
  unfold serve
  split
  · exact (heldSamples_writeLaneStatus l _).trans (heldSamples_judgeRequest l kind rq b _)
  · rfl

/-- The lane boundary look leaves the samples that the lane played last, whatever request it takes. -/
@[simp] theorem heldSamples_boundaryLook (l : LaneId) (b : Bool) (s : State) :
    heldSamples ((boundaryLook l b s).lane l) = heldSamples (s.lane l) := by
  unfold boundaryLook
  rw [noteChanges_lane]
  split
  · unfold lookSlot
    split
    · rfl
    · exact heldSamples_serve l _ _ b s
  · rfl

end Sys2Proof.Machine
end

