-- ==== Sys2Proof/Tests/Slice0.lean ====
section
/-! SUPPORT. The writer's own tests. First the ill-formed commands that WellFormed refuses; then, for every
statement of the obligations that has hypotheses, a concrete state and operands that meet all of them
together; then the results that the manual's own worked cases and tables give. Every test evaluates one
step at most. -/

set_option Elab.async false

namespace Sys2Proof.Machine.Tests

/-! ## WellFormed -/

theorem test_registerWrite_offset_refused :
    (Instr.registerWrite 0x1C 0 HostActs.none false).wellFormed = false ∧
      (Instr.registerWrite 0x02 0 HostActs.none false).wellFormed = false ∧
      (Instr.registerWrite 0x18 0 HostActs.none false).wellFormed = true := by decide +kernel

/-- A store of the host that runs past the 64-bit address space. -/
def pastTheTop : HostActs := ⟨[(2 ^ 64 - 1, [1, 2])], none, none⟩

theorem test_stores_past_the_top_refused :
    (Instr.registerWrite 0x00 0 pastTheTop false).wellFormed = false ∧
      (Instr.tableBaseHiWrite 0 pastTheTop).wellFormed = false ∧
      (Instr.summon 1 pastTheTop false).wellFormed = false ∧
      (Instr.summon 1 ⟨[(2 ^ 64 - 1, [1])], none, none⟩ false).wellFormed = true := by decide +kernel

/-- A request of a slot with tag 7, its words and its block all zero. -/
def rq : Req := ⟨7, 0, 0, 0, 0, 0, 0, 0, 0, 0, 0⟩

theorem test_known_kind_refused :
    (Instr.unknownRequestKind (.lane .b) 17 rq).wellFormed = false ∧
      (Instr.unknownRequestKind .device 18 rq).wellFormed = false ∧
      (Instr.unknownRequestKind (.lane .b) 18 rq).wellFormed = true ∧
      (Instr.unknownRequestKind .device 17 rq).wellFormed = true := by decide +kernel

theorem test_lost_domain_without_elapsed_time :
    (Instr.powerOn false 1).wellFormed = false ∧ (Instr.powerOn false 0).wellFormed = true ∧
      (Instr.powerOn true 1).wellFormed = true := by decide +kernel

theorem test_no_word_spells_a_command : decodeTableWord 8 0 = none := rfl

/-! ## Small states -/

/-- The state after a command; the state itself should the command stop. -/
def after (c : Instr) (s : State) : State :=
  match exec c s with
  | .next t => t
  | .fault _ => s
  | .refused _ => s

/-- A Licence Table with a valid clock at 1,000 and nothing installed. -/
def table : LicenceTable := { lostTable 0 0 with clock := 1000, clockValid := true }

/-- The part in RUNNING with its Booth Table at address 0. -/
def base : State := { State.reset with device := .running, licences := table }

/-- A state with its lane B replaced. -/
def withB (x : Lane) (s : State) : State := { s with lanes := { s.lanes with b := x } }

/-- A state with bytes in host memory. -/
def stored (a : Nat) (bs : List Byte) (s : State) : State := putBytes a bs s

/-- A state whose reads, and one whose writes, fail in a range. -/
def readFailing (a n : Nat) (s : State) : State := { s with host := { s.host with readFails := [(a, n)] } }

/-- A state whose writes fail in a range. -/
def writeFailing (a n : Nat) (s : State) : State :=
  { s with host := { s.host with writeFails := [(a, n)] } }

/-- A device in another state. -/
def inState (d : DeviceState) (s : State) : State := { s with device := d }

/-- A track plan of one channel and one eye without a key, its chunk map at 20000H. -/
def clearPlan : TrackPlan := ⟨0x20000, 1248, 0, none, 1, 1⟩

/-- The same track keyed to licence 7,001. -/
def keyedPlan : TrackPlan := { clearPlan with key := some ⟨5, 0, 7001⟩ }

/-- A reel with picture and main sound of one plan. -/
def reelWith (d e : Nat) (p : TrackPlan) : Reel := ⟨d, e, 0, ⟨0, 0⟩, ⟨some p, some p, none⟩, ⟨none, none⟩⟩

/-- The reels of the worked three-reel show. -/
def threeReels (p : TrackPlan) : List Reel := [reelWith 1000 0 p, reelWith 1200 48 p, reelWith 800 0 p]

/-- The worked three-reel show: 24 frames per second, 48,000 Hz, N = 3,000. -/
def showOf (p : TrackPlan) : Show := ⟨24, 48000, 0, 0, 3000, placeReels 0 (threeReels p)⟩

/-- The three-reel show without keys. -/
def show3 : Show := showOf clearPlan

/-- A LOCKED link with the head READY. -/
def lockedLink : Link :=
  { initialLink with
    state := .locked, line := none, faultKind := none, lockFlag := true, headId := some 9
    headStatus := .ready }

/-- A Sound Renderer whose map is complete, output 1 from main channel 1. -/
def mapped : Sound := { initialSound with stage := .complete, routing := .main 1 :: List.replicate 23 .none }

/-- A lane with the show loaded and its link LOCKED, in a state. -/
def loaded (st : LaneState) (p : Nat) : Lane :=
  { initialLane with state := st, loaded := some show3, p := p, link := lockedLink, sound := mapped }

/-- The tally of the three-reel show's licence in a phase, its entry in a status. -/
def tallyOf (ph : TallyPhase) (st : EntryStatus) (confirmed : Nat) : Tally :=
  ⟨ph, [⟨7001, 3000, 2100, confirmed, st⟩], [[0], [0], [0]], 0, .none⟩

/-- A lane that plays the keyed show. -/
def playing (p : Nat) : Lane :=
  { loaded .playing p with
    loaded := some (showOf keyedPlan), tally := tallyOf .running .reserved 0
    sound := { mapped with applied := List.replicate 24 (.level 0), target := List.replicate 24 (.level 0) } }

/-- Licence 7,001: allowance unlimited, counted 12, K 70, open from 0 to 5,000. -/
def licence7001 : Licence :=
  ⟨7001, 1, 0, 0, 5000, 0, 12, 0, 70, 15, [], [(5, 0)], .opened⟩

/-- The part with licence 7,001 installed. -/
def licensed : State :=
  { base with
    licences :=
      { table with
        records := some licence7001 :: List.replicate 63 none
        keys := some ⟨5, 7001, 0⟩ :: List.replicate 255 none } }

/-- A request word set. -/
def rqW0 (w : Word32) : Req := { rq with w0 := w }

/-- A request with a parameter block at 30000H. -/
def rqBlock (w : Word32) (n : BitVec 16) : Req := { rq with w0 := w, blockAddr := 0x30000, blockLen := n }

/-- A queue entry of show frame `f` of reel 1. -/
def entryOf (f : Nat) (b : EntryBody) : QueueEntry := ⟨⟨1, f⟩, f, b⟩

/-- A READY picture. -/
def picture : EntryBody := .ready (.picture [[1]])

/-- A track with a queue and a fetch position. -/
def track (q : List QueueEntry) (f : Option Position) : EssenceTrack := ⟨q, f, false, none⟩

/-- Essence tracks primed at a depth of 24, from show frame `f`. -/
def primedTrack (f : Nat) : EssenceTrack :=
  track ((List.range 24).map fun i => entryOf (f + i) picture) (some ⟨1, f + 24⟩)

/-- A lane in a state whose present tracks are primed. -/
def primedLane (st : LaneState) : Lane :=
  { loaded st 0 with tracks := ⟨primedTrack 0, primedTrack 0, emptyTrack⟩ }

/-! ## The block as a whole -/

/-- The part with lane B playing the keyed show. -/
def onAir : State := withB (playing 1000) licensed

theorem witness_shapes : (∀ s ∈ [State.reset, base, licensed, onAir], shapeOk s) := by decide +kernel

theorem witness_lane_invariants :
    everyLane laneFieldsOk onAir ∧ everyLane listOk onAir ∧ everyLane soundOk onAir := by
  refine ⟨⟨?_, ?_, ?_, ?_⟩, ⟨?_, ?_, ?_, ?_⟩, ⟨?_, ?_, ?_, ?_⟩⟩ <;>
    first
      | decide +kernel
      | exact ⟨by decide +kernel, trivial, by decide +kernel⟩

theorem witness_memory_and_device_invariants :
    memOk (stored 5 [1, 0, 2] onAir) ∧ deviceFieldsOk onAir ∧
      deviceFieldsOk { onAir with device := .halted, reason := .haltRead, haltArea := some .header } := by
  decide +kernel

theorem witness_queuesOk : queuesOk (withB (primedLane .playing) licensed) := by
  intro l e; cases l <;> cases e <;> decide

/-- The part on air with its showing taken: counted 12 and in_flight 1 reach the allowance. -/
def counting : State :=
  { onAir with
    licences :=
      { onAir.licences with
        records := [some { licence7001 with allowance := 13, inFlight := 1 }] } }

theorem witness_licencesOk : licencesOk counting := by
  refine ⟨by decide +kernel, by decide +kernel, ?_, ?_, ?_, ?_, ?_, ?_⟩
  · intro x h
    have h' : some x ∈ [some { licence7001 with allowance := 13, inFlight := 1 }] := h
    rw [List.mem_singleton] at h'
    cases h'
    decide +kernel
  all_goals decide +kernel

theorem witness_steps_answer_next :
    ∃ t, step { licensed with pending := [.attentionRead, .secondEvent] } = .next t := ⟨_, rfl⟩

theorem test_step_runs_the_front :
    step { base with pending := [.attentionMaskWrite 0x5, .attentionRead], attention := 3 } =
      exec (.attentionMaskWrite 0x5) { base with pending := [.attentionRead], attention := 3 } ∧
      step base = .next base := ⟨rfl, rfl⟩

theorem witness_lane_command :
    laneOf (.setLevel .b rq) = some .b ∧ laneOf (.lockLost .d) = some .d ∧
      ∃ t, exec (.lockLost .d) base = .next t := ⟨rfl, rfl, _, rfl⟩

/-! ## Arithmetic -/

/-- The clamp's worked table in Timeline Arithmetic, FADES. -/
theorem test_fades_of_the_manual :
    fitFades 68 6 24 = (6, 24) ∧ fitFades 10 6 12 = (3, 7) ∧ fitFades 1 6 24 = (0, 1) ∧
      fitFades 5 0 9 = (0, 5) ∧ fitFades 7 7 7 = (3, 4) := by decide +kernel

/-- Timeline Arithmetic, CUE TIMES IN FRAMES. -/
theorem test_cue_times_of_the_manual :
    [(20, 24), (21, 24), (20, 25), (50, 30), (10, 50), (83417, 24), (86400000, 60)].map
        (fun q => msToFrames q.1 q.2) = [0, 1, 1, 2, 1, 2002, 5184000] ∧
      raisedOut 2002 (msToFrames 83420 24) = 2003 := by decide +kernel

/-- The worked cue of Timeline Arithmetic. -/
def workedCue : Cue := ⟨1, 2002, 2070, 6, 24, 704, 900, 128, 64, 3, 0, [200]⟩

theorem test_fade_factors_of_the_manual :
    [2002, 2003, 2004, 2005, 2006, 2007, 2046, 2050, 2069].map (fadeFactor workedCue) =
        [42, 85, 128, 170, 213, 256, 256, 213, 10] ∧
      [42, 85, 128, 170, 213, 256, 10].map (fadedAlpha 200) = [33, 66, 100, 133, 166, 200, 8] ∧
      oneFade 1200 3 = 1 ∧ oneFade 1200 9 = 2 := by decide +kernel

/-- The worked pixel of Subtitle Overlay, ONE CUE ON THE LINK. -/
theorem test_dither_of_the_manual :
    ditherEntry 709 862 = 11 ∧
      [(33, 1), (66, 2), (100, 3), (200, 7), (100, 5)].map (fun q => ditherAlpha q.1 11 q.2) =
        [2, 4, 6, 13, 7] ∧
      ditherAlpha 255 15 65535 = 15 := by decide +kernel

/-- Sound Rendering, The multiplier, and the sample of its worked case. -/
theorem test_gains_of_the_manual :
    [120, 60, 0, -65, -890].map (fun v => multiplier (.level v)) =
        [4194304, 2097152, 1048576, 494959, 35] ∧
      outputSample 1000000 494959 = 472030 ∧ outputSample 3000000 4194304 = 8388607 ∧
      outputSample (-3000000) 4194304 = -8388608 ∧ saturates 3000000 4194304 = true ∧
      targetGain 50 ⟨-5, false⟩ true = .level (-65) := by decide +kernel

theorem test_ramp_passes_890_to_mute :
    stepGain 1 (.level (-889)) .mute = .mute ∧ stepGain 1 .mute (.level (-65)) = .level (-889) ∧
      stepGain 50 (.level 100) (.level 120) = .level 120 := by decide +kernel

/-- Timeline Arithmetic: the three-reel show, the thresholds, S and the tick. -/
theorem test_timeline_of_the_manual :
    trackFrame ((nthReel show3 2).getD (reelWith 0 0 clearPlan)) 1734 = 782 ∧
      [0, 999, 1000, 1734, 2999, 3000].map (fun p => (reelOf show3 p).map Prod.fst) =
        [some 1, some 1, some 2, some 2, some 3, none] ∧
      successor show3 .picture ⟨1, 999⟩ = some ⟨2, 48⟩ ∧ successor show3 .main ⟨3, 799⟩ = none ∧
      [(172800, 70), (3600, 50), (7, 30), (1, 1), (5000, 100)].map
        (fun q => countThreshold q.1 q.2) = [120960, 1800, 3, 1, 5000] ∧
      holdLimitFrames 30 24 = 43200 ∧ framePeriod 24 48000 = 2000 ∧ tickSamples 48000 = 48 := by
  decide +kernel

theorem witness_arithmetic_ranges :
    (255 : Nat) ≤ 255 ∧ (86400000 : Nat) ≤ 86400000 ∧ (60 : Nat) ≤ 60 ∧ (59 : Nat) < 60 ∧
      gainOk (.level (-890)) = true ∧ gainOk (.level 120) = true ∧ gainOk .mute = true := by decide +kernel

theorem witness_show_frames :
    show3.reels = placeReels 0 (threeReels clearPlan) ∧
      (∀ r ∈ threeReels clearPlan, 1 ≤ r.duration) ∧
      ∀ p ∈ [0, 999, 1000, 2199, 2200, 2999], p < totalFrames (threeReels clearPlan) :=
  ⟨rfl, by decide +kernel⟩

/-- Licence Table, DERIVED STATES, at the edges of the window. -/
theorem test_derived_states_at_the_edges :
    derivedState true 0 licence7001 = .opened ∧ derivedState true 4999 licence7001 = .opened ∧
      derivedState true 5000 licence7001 = .closed ∧
      derivedState true 9 { licence7001 with notBefore := 10 } = .waiting ∧
      derivedState true 9 { licence7001 with allowance := 12 } = .spent ∧
      derivedState false 9 licence7001 = .clockUnknown := by decide +kernel

/-! ## Resets and the device states -/

/-- The clock unit with a selection, a source and the reference locked flag. -/
def clocked (external : Bool) (src : ClockSource) (lock : Bool) (s : State) : State :=
  { s with clockUnit := ⟨external, src, lock⟩ }

theorem witness_resetWork :
    ∀ u ∈ [(false, false), (true, true), (true, false)],
      (clocked u.1 .acquiring u.2 State.reset).device = .reset ∧
        (clocked u.1 .acquiring u.2 State.reset).hiStored = false := by decide +kernel

/-- Booth Table, DEVICE STATES. -/
theorem test_resetWork_waits :
    (after .resetWorkComplete (clocked true .acquiring false State.reset)).device = .waitClock ∧
      (after .resetWorkComplete State.reset).device = .waitTable ∧
      (after .resetWorkComplete State.reset).attention = 0x40 := by decide +kernel

/-- The retained domain drops what was reserved. -/
theorem test_deviceReset_keeps_the_retained_domain :
    (after (.deviceReset true)
        { licensed with
          attention := 3
          licences :=
            { licensed.licences with
              records := [some { licence7001 with inFlight := 1 }] } }).licences.records =
      [some licence7001] ∧
      (after (.deviceReset true) onAir).clockUnit = ⟨true, .acquiring, false⟩ ∧
      ((after (.deviceReset true) onAir).lane .b).state = .empty := by decide +kernel

/-- What is in progress completes at its length after a Device Reset, and a good line trains (R35, R107,
R147). -/
theorem test_deviceReset_keeps_what_is_in_progress :
    let x := { playing 9 with
      sound := { mapped with periodPos := 40, periodLen := 1000, tickPos := 5, tickLen := 96 } }
    let y := (after (.deviceReset false) (withB x licensed)).lane .b
    (y.sound.periodPos, y.sound.periodLen, y.sound.tickPos, y.sound.tickLen) = (40, 1000, 5, 96) ∧
      (y.link.state, y.link.forward) = (.training, .training false) ∧ y.sound.stage = .noSection := by
  decide +kernel

theorem test_powerOn_runs_the_clock_on :
    (after (.powerOn true (2 ^ 40)) base).licences.clock = 2 ^ 40 - 1 ∧
      (after (.powerOn true 5) base).licences.clock = 1005 ∧
      (after (.powerOn false 0) base).licences.retainedLost = true := by decide +kernel

/-- The part in WAIT_TABLE over a header of layout revision 1. -/
def waiting : State := stored 0 [1] (inState .waitTable base)

theorem witness_tableAccepted :
    waiting.device = .waitTable ∧ wide waiting.tableLo 0 % 4096 = 0 ∧ shapeOk waiting ∧
      (∀ w ∈ [(4, 4), (0x200, 256), (0x400, 1024), (0x800, 1024), (0xC00, 1024), (0x1000, 1024)],
        accessFails (hostActs waiting.host HostActs.none).writeFails (wide waiting.tableLo 0 + w.1) w.2 =
          false) ∧
      ∃ bs, hostRead (hostActs waiting.host HostActs.none) (wide waiting.tableLo 0) 64 = some bs ∧
        field bs 0 2 = 1 ∧ field bs 8 2 = 0 :=
  ⟨rfl, by decide +kernel, by decide +kernel, by decide +kernel, _, rfl, by decide +kernel⟩

theorem witness_tableRefused :
    wide ({ waiting with tableLo := 0x800 }).tableLo 0 % 4096 ≠ 0 ∧
      hostRead (hostActs (readFailing 63 1 waiting).host HostActs.none) 0 64 = none ∧
      (∃ bs, hostRead (hostActs (inState .waitTable base).host HostActs.none) 0 64 = some bs ∧
        field bs 0 2 ≠ 1) ∧
      accessFails (hostActs (writeFailing 0x13FF 1 waiting).host HostActs.none).writeFails 0x1000 1024 =
        true :=
  ⟨by decide +kernel, by decide +kernel, ⟨_, rfl, by decide +kernel⟩, by decide +kernel⟩

theorem test_table_acceptance :
    (after (.tableBaseHiWrite 0 HostActs.none) { waiting with tableLo := 0x800 }).reason = .align ∧
      (after (.tableBaseHiWrite 0 HostActs.none) (readFailing 63 1 waiting)).reason = .read ∧
      (after (.tableBaseHiWrite 0 HostActs.none) (inState .waitTable base)).reason = .layout ∧
      (after (.tableBaseHiWrite 0 HostActs.none) waiting).device = .running := by decide +kernel

theorem witness_statusRecord :
    onAir.clockUnit.source ≠ .acquiring ∧ onAir.device = .running ∧ shapeOk onAir ∧
      (onAir.lane .b).state ≠ .empty := by decide +kernel

/-- Record Layouts, Lane Status Record: PLAYING 4, P 1,001 of 3,000, reel 2 of 3, 24 frames per second,
48,000 Hz, a starve run of 1, and an absent fault record's frame fields. -/
theorem test_statusRecord :
    let bytes := fun (a n : Nat) => memReadBytes (after (.frameBoundary .b) onAir).host.mem (0x800 + a) n
    bytes 0 24 = [2, 0, 0, 0, 4, 0, 4, 0, 0xE9, 3, 0, 0, 0xB8, 11, 0, 0, 2, 3, 24, 0, 0x80, 0xBB, 0, 0] ∧
      (bytes 0x28 4, bytes 0x204 8) = ([1, 0, 0, 0], List.replicate 8 0xFF) ∧
      bytes 0x178 16 = [0x59, 0x1B, 0, 0, 0xB8, 11, 0, 0, 0x34, 8, 0, 0, 0, 0, 0, 1] := by decide +kernel

/-- `base` with a field of lane B's record changed since its last boundary. -/
def noted : State := { base with recordChanged := ⟨false, true, false, false⟩ }

theorem witness_emptyBoundary :
    (∀ s ∈ [base, noted], s.clockUnit.source ≠ .acquiring ∧ s.device = .running ∧ shapeOk s ∧
      (s.lane .b).state = .empty) ∧
      recordDiffers base (after (.frameBoundary .b) base) .b = false ∧
      base.recordChanged.get .b = false ∧ noted.recordChanged.get .b = true := by decide +kernel

/-- R176: an EMPTY lane's record is written at the first boundary after a field has changed, though the field
has changed back, and at no other; other commands note the fields that they change. -/
theorem test_emptyBoundary :
    let training := fun (b : Bool) => modLink .b (trainLink b) base
    ((after (.frameBoundary .b) base).lane .b).statusCount = 0 ∧
      ((after (.frameBoundary .b) noted).lane .b).statusCount = 2 ∧
      (after (.frameBoundary .b) noted).recordChanged = ⟨false, false, false, false⟩ ∧
      (after (.lockAchieved .b) (training false)).recordChanged = ⟨false, true, false, false⟩ ∧
      (after (.lockLost .b) { training true with recordChanged := noted.recordChanged }).recordChanged =
        ⟨false, true, false, false⟩ ∧
      (after (.lockAchieved .b) base).recordChanged = base.recordChanged := by decide +kernel

theorem witness_register_words :
    (3 : Word32).getLsbD 0 = true ∧ (2 : Word32).getLsbD 0 = false ∧
      (0x0C : BitVec 5) ∉ [(0x00 : BitVec 5), 0x04, 0x08, 0x10, 0x18] := by decide +kernel

theorem test_registerWrite_control_resets :
    (after (.registerWrite 0x08 3 HostActs.none false) base).device = .reset ∧
      (after (.registerWrite 0x08 2 HostActs.none false) base).clockUnit.source = .holdover ∧
      (after (.registerWrite 0x00 0x1000 HostActs.none false) base).tableLo = 0 := by decide +kernel

theorem test_attention_read_clears :
    (after .attentionRead { base with attention := 0x41 }).readData = 0x41 ∧
      (after .attentionRead { base with attention := 0x41 }).attention = 0 ∧
      interruptLine (after (.attentionMaskWrite 0x40) { base with attention := 0x41 }) = true ∧
      interruptLine (after (.attentionMaskWrite 0x02) { base with attention := 0x41 }) = false := by
  decide +kernel

theorem test_maintenance_change :
    (after (.maintenanceInputChange true) (inState .waitTable base)).attention = 0x40 ∧
      (after (.maintenanceInputChange false) base).attention = 0 := by decide +kernel

theorem witness_tableAccessFailure :
    onAir.device = .running ∧ inRunStates (onAir.lane .b).state = true ∧
      ((withB { loaded .armed 0 with startSecond := some 2000 } base).lane .b).state = .armed ∧
      (inState .waitTable base).device ≠ .running := by decide +kernel

theorem test_tableAccessFailure_ends_the_run :
    let t := after (.tableAccessFailure .read (.slot .device)) onAir
    (t.device, t.reason, t.haltArea) = (.halted, .haltRead, some (.slot .device)) ∧
      ((t.lane .b).state, (t.lane .b).lastCause) = (.ended, .emergency) ∧
      reasonDetail t.haltArea = 0x14 := by decide +kernel

/-! ## The Clock Unit -/

theorem witness_clock_source :
    base.device ≠ .reset ∧ base.device ≠ .waitClock ∧ base.clockUnit.source = .internal ∧
      (clocked true .external true base).clockUnit.source ≠ .internal ∧
      (clocked true .external true base).device = .running ∧
      (clocked true .external true base).clockUnit.refLocked = true ∧
      (clocked true .holdover false base).clockUnit.refLocked = false ∧
      (clocked true .holdover false base).clockUnit.source ≠ .acquiring ∧
      (clocked true .holdover true base).clockUnit.source = .holdover ∧
      anyLaneRunning (clocked true .holdover true base) = false ∧
      anyLaneRunning (clocked true .holdover true onAir) = true := by decide +kernel

theorem test_clock_source_moves :
    (after (.clockSourceSelect true) base).clockUnit.source = .holdover ∧
      (after (.clockSourceSelect true) (clocked false .internal true base)).clockUnit.source =
        .external ∧
      (after .referenceLoss (clocked true .external true onAir)).clockUnit.source = .holdover ∧
      (after .referenceLock (clocked true .holdover false onAir)).clockUnit.source = .holdover ∧
      (after .referenceLock (clocked true .holdover false base)).clockUnit.source = .external ∧
      (after .clockSwitchBack (clocked true .holdover true base)).clockUnit.source = .external := by
  decide +kernel

/-- The part in WAIT_CLOCK over a sound header, a TABLE_BASE_HI write stored or not. -/
def waitingClock (written : Bool) : State :=
  { clocked true .acquiring false (inState .waitClock waiting) with hiStored := written }

/-- Lane B HELD with every output mute, the reference locked again in HOLDOVER. -/
def lastLane : State := clocked true .holdover true (withB (loaded .held 9) base)

theorem witness_clock_waits :
    (∀ b ∈ [false, true], (waitingClock b).device = .waitClock ∧
      (waitingClock b).clockUnit.refLocked = false ∧ (waitingClock b).clockUnit.source = .acquiring) ∧
      State.reset.device = .reset ∧ (clocked true .acquiring false State.reset).clockUnit.refLocked = false ∧
      (clocked true .acquiring false State.reset).clockUnit.source = .acquiring := by decide +kernel

theorem witness_last_lane :
    lastLane.clockUnit.source = .holdover ∧ lastLane.clockUnit.refLocked = true ∧
      anyLaneRunning lastLane = true ∧ exec (.stop .b rq) lastLane = .next (after (.stop .b rq) lastLane) ∧
      anyLaneRunning (after (.stop .b rq) lastLane) = false ∧
      (after (.stop .b rq) lastLane).device ≠ .reset :=
  ⟨rfl, rfl, by decide +kernel, rfl, by decide +kernel, by decide +kernel⟩

/-- Booth Table, DEVICE STATES, and Sound Rendering, the switch back. -/
theorem test_clock_waits_and_the_last_lane :
    (after (.clockSourceSelect false) (waitingClock false)).device = .waitTable ∧
      (after .referenceLock (waitingClock true)).device = .running ∧
      (after .referenceLock (waitingClock true)).clockUnit = ⟨true, .external, true⟩ ∧
      (after (.clockSourceSelect true) (clocked false .internal true State.reset)).clockUnit.source =
        .external ∧
      (after (.stop .b rq) lastLane).clockUnit.source = .external := by decide +kernel

/-! ## The Table Interface -/

theorem witness_unservable :
    kindUnknown (.lane .b) 18 = true ∧ kindUnknown .device 0 = true ∧ kindUnknown .device 27 = true ∧
      base.device = .running ∧ (inState .halted base).device ≠ .running ∧
      8192 < (rqBlock 0 8193).blockLen.toNat ∧ (rqBlock 0 8192).blockLen.toNat ≤ 8192 ∧
      (rqBlock 0 8192).blockLen.toNat ≠ 0 ∧
      accessFails (readFailing 0x31FFF 1 base).host.readFails (rqBlock 0 8192).blockAddr.toNat
        (rqBlock 0 8192).blockLen.toNat = true := by decide +kernel

theorem witness_request_rows :
    (10, Instr.hold .b rq) ∈ laneRequests .b rq ∧
      (22, Instr.setClock rq) ∈ deviceRequests rq false := by decide +kernel

theorem test_unknown_kind_is_answered :
    (memReadBytes (after (.unknownRequestKind (.lane .b) 18 rq) base).host.mem 0x80 8) =
        [3, 18, 7, 0, 0, 0, 9, 0] ∧
      (after (.unknownRequestKind (.lane .b) 18 rq) base).attention = 2 := by decide +kernel

theorem witness_summon :
    base.device = .running ∧ base.summonFlags = 0 ∧ base.journal.withheld = 0 ∧
      postedRequest (memReadBytes (stored 0x80 [1, 16, 7] base).host.mem (slotAddr base (.lane .b)) 64) =
        some (16, rq) ∧
      postedRequest (memReadBytes base.host.mem (slotAddr base (.lane .b)) 64) = none ∧
      (16, Instr.testIndicators .b rq) ∈ laneRequests .b rq ∧
      (inState .waitTable base).device = .waitTable ∧ (inState .halted base).device = .halted := by
  decide +kernel

theorem test_summon_serves_its_slot :
    (after (.summon 2 HostActs.none false) (stored 0x80 [1, 16, 7] base)).attention = 2 ∧
      (after (.summon 1 HostActs.none false) (stored 0x80 [1, 16, 7] base)).attention = 0 ∧
      (after (.summon 0x21 HostActs.none false) (inState .waitTable base)).summonFlags = 1 := by decide +kernel

/-- The worked full journal: write index 9, read index 10, sequence 4,000. -/
def fullRing (n : Nat) : State := stored 8 [10] { base with journal := ⟨9, 4000, n, 10⟩ }

/-- A ring whose write index stands at its last entry. -/
def lastEntry : State := { base with journal := ⟨255, 0, 0, 1⟩ }

theorem witness_journal_shapes : ∀ s ∈ [base, fullRing 3, lastEntry], shapeOk s := by decide +kernel

theorem witness_journal :
    base.journal.withheld = 0 ∧
      (base.journal.writeIndex + 1) % 256 ≠ base.journal.readIndex ∧
      ((fullRing 0).journal.writeIndex + 1) % 256 = (fullRing 0).journal.readIndex ∧
      ((fullRing 0).journal.writeIndex + 1) % 256 =
        fromLe (memReadBytes (fullRing 0).host.mem (tableAddr (fullRing 0) + 8) 2) % 256 ∧
      (fullRing 3).journal.withheld ≠ 0 ∧ (inState .waitTable base).device ≠ .running := by decide +kernel

/-- A ring found full, or with entries withheld, whose read index has since moved on to the index given. -/
def readOn (n : Nat) (index : Byte) : State := stored 8 [index] (fullRing n)

theorem witness_journal_read_on :
    (∀ q ∈ [(0, 14), (3, 14), (3, 11)],
      (readOn q.1 q.2).device = .running ∧ shapeOk (readOn q.1 q.2) ∧
        ((readOn q.1 q.2).journal.writeIndex + 1) % 256 = (readOn q.1 q.2).journal.readIndex ∧
        fromLe (memReadBytes (readOn q.1 q.2).host.mem (tableAddr (readOn q.1 q.2) + 8) 2) % 256 =
          q.2.toNat) ∧
      (9 + 1) % 256 ≠ (14 : Byte).toNat ∧ (9 + 2) % 256 ≠ (14 : Byte).toNat ∧
      (9 + 2) % 256 = (11 : Byte).toNat := by decide +kernel

/-- An offer that finds room by its re-read, and one that follows a GAP with room and without. -/
theorem test_offers_after_a_read :
    let e : JournalEntry := ⟨.cueFired, some .b, 0, []⟩
    (offer e (readOn 0 14)).journal = ⟨10, 4001, 0, 14⟩ ∧
      (offer e (readOn 3 14)).journal = ⟨11, 4002, 0, 14⟩ ∧
      (offer e (readOn 3 11)).journal = ⟨10, 4001, 1, 11⟩ := by decide +kernel

/-- Booth Table, A FULL JOURNAL, steps 1 to 4. -/
theorem test_full_journal_of_the_manual :
    (offer ⟨.cueFired, some .b, 0, []⟩ (fullRing 0)).journal = ⟨9, 4000, 1, 10⟩ ∧
      (after .journalGap (fullRing 3)).journal = ⟨9, 4000, 3, 10⟩ ∧
      (after .journalGap (stored 8 [14] (fullRing 3))).journal = ⟨10, 4001, 0, 14⟩ ∧
      memReadBytes (after .journalGap (stored 8 [14] (fullRing 3))).host.mem 0x2120 6 =
        [0xA0, 0x0F, 0, 0, 15, 0xFF] := by decide +kernel

/-! ## Lane requests -/

theorem witness_reaches : reaches (.lane .b) rq base ∧ reaches .device rq base :=
  ⟨⟨rfl, [], rfl⟩, rfl, [], rfl⟩

theorem witness_unaccepted :
    (7, Instr.start .b rq) ∈ laneRequests .b rq ∧ acceptedIn 7 (base.lane .b) = false ∧
      acceptedIn 11 (loaded .playing 0) = false ∧ acceptedIn 8 (base.lane .b) = false ∧
      wide rq.w0 rq.w1 ≤ 2 ^ 40 - 1 := by decide +kernel

/-- A start second one above the clock's range. -/
def rqLate : Req := { rq with w1 := 256 }

theorem witness_startAt_range :
    reaches (.lane .b) rqLate base ∧ 2 ^ 40 - 1 < wide rqLate.w0 rqLate.w1 := ⟨⟨rfl, [], rfl⟩, by decide +kernel⟩

theorem test_startAt_out_of_range :
    memReadBytes (after (.startAt .b rqLate) base).host.mem 0x86 2 = [2, 0] := by decide +kernel

/-- The bytes of the three-reel show: its list at 10000H, its two descriptors at 11000H. -/
def showBytes : State :=
  stored 0x11000
      ([0, 1, 0, 24] ++ le 4 5 ++ le 8 0x20000 ++ le 4 1248 ++ le 4 0 ++ zeros 8 ++
        [1, 0, 1, 24] ++ le 4 5 ++ le 8 0x20000 ++ le 4 1248 ++ le 4 0 ++ le 4 48000)
    (stored 0x10000
      ([24, 3] ++ zeros 30 ++
        [(1000, 0), (1200, 48), (800, 0)].flatMap fun r =>
          le 4 r.1 ++ le 4 r.2 ++ le 8 0x11000 ++ le 8 0x11020 ++ zeros 40)
      licensed)

theorem witness_loadShow :
    reaches (.lane .b) (rqW0 0x10000) showBytes ∧ (showBytes.lane .b).state = .empty ∧
      (showBytes.lane .b).link.state ≠ .testing ∧
      ∃ sh, loadableShow (markTaken (.lane .b) showBytes) .b (wide (rqW0 0x10000).w0 (rqW0 0x10000).w1) =
        .ok sh :=
  ⟨⟨rfl, [], rfl⟩, by decide +kernel, by decide +kernel, _, rfl⟩

/-- Lane Operation, the worked sequence, step 1. -/
theorem test_loadShow_of_the_manual :
    let x := (after (.loadShow .b (rqW0 0x10000)) showBytes).lane .b
    x.state = .loading ∧ x.p = 0 ∧ x.loaded.map Show.total = some 3000 ∧
      x.tally = tallyOf .built .pending 0 ∧
      (x.loaded.map fun sh => sh.reels.map Reel.start) = some [0, 1000, 2200] := by decide +kernel

theorem test_loadShow_refuses_a_long_reel :
    let s := stored 0x10020 (le 4 1249) showBytes
    (memReadBytes (after (.loadShow .b (rqW0 0x10000)) s).host.mem 0x80 8) =
      [3, 1, 7, 1, 0, 0, 2, 4] := by decide +kernel

theorem firstBad_of {α : Type} (ok : α → Bool) (xs : List α) (i : Nat) (h : xs[i]?.map ok = some false)
    (h' : ∀ x ∈ xs.take i, ok x = true) : firstBad ok xs i := by
  cases hx : xs[i]? with
  | none => rw [hx] at h; cases h
  | some y =>
    rw [hx] at h
    refine ⟨(List.getElem?_eq_some_iff.mp hx).1, fun x e => ?_, fun j hj x e => h' x ?_⟩
    · exact Option.some.inj (by rw [hx] at e; cases e; exact h)
    · exact List.mem_of_getElem? (i := j) (by rw [List.getElem?_take, if_pos hj]; exact e)

/-- The show of the manual with bytes of it changed. -/
def spoiled (a : Nat) (bs : List Byte) : State := stored a bs showBytes

/-- What Load Show reads of a state's show list; an empty list should a read fail. -/
def rawIn (s : State) : RawShow :=
  match readShow (markTaken (.lane .b) s).host 0x10000 with
  | .ok raw => raw
  | .error _ => ⟨0, 0, 0, []⟩

/-- The show spoiled for each reel check of R4 in turn, with the reel at fault: no picture in reel 3, a
descriptor of another kind and of another rate, a reel 2 one frame too long, a sample rate that is none, 25
channels and 3 eyes. -/
def spoiledShows : List (Nat × List Byte × Nat) :=
  [(0x100A8, zeros 8, 2), (0x11020, [2], 0), (0x11023, [25], 0), (0x10060, le 4 1201, 1),
    (0x11038, le 4 44100, 0), (0x11022, [25], 0), (0x11001, [3], 0)]

theorem witness_reel_checks :
    ∀ k < 7, ∀ q, spoiledShows[k]? = some q →
      let s := spoiled q.1 q.2.1
      (s.lane .b).state = .empty ∧ (rawIn s).rate = 24 ∧ (rawIn s).reels.length = 3 ∧
        (∀ c ∈ (reelChecks (rawIn s)).take k, ∀ r ∈ (rawIn s).reels, c.1 r = true) ∧
        ((reelChecks (rawIn s))[k]?.map fun c => (rawIn s).reels[q.2.2]?.map c.1) = some (some false) ∧
        ∀ c, (reelChecks (rawIn s))[k]? = some c → ∀ r ∈ (rawIn s).reels.take q.2.2, c.1 r = true := by
  decide +kernel

theorem witness_reel_check_fails :
    readShow (markTaken (.lane .b) (spoiled 0x10060 (le 4 1201))).host 0x10000 =
        .ok (rawIn (spoiled 0x10060 (le 4 1201))) ∧
      reaches (.lane .b) (rqW0 0x10000) (spoiled 0x10060 (le 4 1201)) ∧
      firstBad rangeOk (rawIn (spoiled 0x10060 (le 4 1201))).reels 1 :=
  ⟨rfl, ⟨rfl, [], rfl⟩, firstBad_of _ _ _ (by decide +kernel) (by decide +kernel)⟩

/-- The three-reel show with reel 3's frames, its range and its tracks drawn out to a length. -/
def longShow (n : Nat) : State :=
  stored 0x11010 (le 4 (n + 48)) (stored 0x11030 (le 4 (n + 48)) (spoiled 0x100A0 (le 4 n)))

theorem witness_load_refusals :
    hostRead (markTaken (.lane .b) (readFailing 0x1001F 1 showBytes)).host 0x10000 32 = none ∧
      (∀ n ∈ [0, 65], (hostRead (markTaken (.lane .b) (spoiled 0x10001 [n])).host 0x10000 32).map
        (fun bs => field bs 1 1) = some n.toNat) ∧
      readReels (markTaken (.lane .b) (readFailing 0x100DF 1 showBytes)).host 0x10000 3 1 = .error 0 ∧
      readReels (markTaken (.lane .b) (readFailing 0x1103F 1 showBytes)).host 0x10000 3 1 = .error 1 ∧
      (rawIn (spoiled 0x10000 [23])).rate = 23 ∧
      (showOfRaw licensed.licences.keys (rawIn (longShow 16775016))).total = 16777216 ∧
      (∀ c ∈ reelChecks (rawIn (longShow 16775016)), ∀ r ∈ (rawIn (longShow 16775016)).reels, c.1 r = true) ∧
      (∀ r ∈ (rawIn showBytes).reels, keysKnown (State.reset).licences.keys r = false) ∧
      ((findLicence (modLicences (fun t => { t with records := [some { licence7001 with laneMask := 1 }] })
        showBytes).licences.records 7001).any fun x => admitsLane x .b) = false := by decide +kernel

theorem witness_load_key_unknown :
    firstBad (keysKnown State.reset.licences.keys) (rawIn showBytes).reels 0 :=
  firstBad_of _ _ _ (by decide +kernel) (by decide +kernel)

/-- Nine licences, each with a key of its own, and a show of nine reels that uses them all. -/
def nineLicences : State :=
  stored 0x11000 ((List.range 9).flatMap fun i => [0, 1, 0, 24] ++ le 4 (i + 1) ++ le 8 0x20000 ++ le 4 9 ++ zeros 12)
    (stored 0x10000
      ([24, 9] ++ zeros 30 ++
        (List.range 9).flatMap fun i => le 4 1 ++ zeros 4 ++ le 8 (0x11000 + 32 * i) ++ zeros 48)
      { base with
        licences := { table with keys := (List.range 9).map fun i => some ⟨i + 1, i + 1, 0⟩ } })

theorem witness_licence_count :
    8 < (showLicences (showOfRaw nineLicences.licences.keys (rawIn nineLicences)).reels).length ∧
      (∀ c ∈ reelChecks (rawIn nineLicences), ∀ r ∈ (rawIn nineLicences).reels, c.1 r = true) ∧
      ∀ r ∈ (rawIn nineLicences).reels, keysKnown nineLicences.licences.keys r = true := by decide +kernel

/-- Lane Operation, R4: the refusals in order, as code, reason and index. -/
theorem test_load_refusals :
    let answer := fun (s : State) =>
      let t := after (.loadShow .b (rqW0 0x10000)) s
      memReadBytes t.host.mem 0x83 1 ++ memReadBytes t.host.mem 0x86 2
    (spoiledShows.map fun q => answer (spoiled q.1 q.2.1)) =
        [[3, 2, 3], [1, 2, 30], [1, 2, 2], [2, 2, 4], [1, 2, 5], [1, 2, 6], [1, 2, 31]] ∧
      answer (longShow 16775016) = [0, 2, 7] ∧ answer nineLicences = [0, 2, 8] := by decide +kernel

theorem witness_unload :
    reaches (.lane .b) rq onAir ∧ (onAir.lane .b).state ≠ .empty ∧
      tallyOpen (tallyOf .closed .counted 0) = false := ⟨⟨rfl, [], rfl⟩, by decide +kernel⟩

theorem test_unload_releases :
    let t := after (.unload .b rq) (modLicences (fun t =>
      { t with records := [some { licence7001 with inFlight := 1 }] }) onAir)
    (t.lane .b).state = .empty ∧ t.licences.records = [some licence7001] ∧
      ((t.lane .b).lastCause, (t.lane .b).tally.phase) = (.unload, .absent) := by decide +kernel

theorem test_laneReset_restores_settings :
    let t := after (.laneReset .b rq)
      (withB { loaded .ended 3000 with level := 5, contacts := 9, lastCause := .complete } base)
    ((t.lane .b).level, (t.lane .b).contacts, (t.lane .b).lastCause) = (70, 0, .none) ∧
      (t.lane .b).link.state = .locked := by decide +kernel

/-- Lane B with the run of the keyed show at its end. -/
def ended : State :=
  withB { loaded .ended 3000 with
    loaded := some (showOf keyedPlan), lastCause := .complete, tally := tallyOf .closed .counted 2100 }
    licensed

theorem witness_rewind :
    reaches (.lane .b) rq ended ∧ (ended.lane .b).state = .ended ∧
      (ended.lane .b).link.state ≠ .testing ∧ (ended.lane .b).loaded = some (showOf keyedPlan) :=
  ⟨⟨rfl, [], rfl⟩, by decide +kernel, by decide +kernel, rfl⟩

theorem test_rewind_rebuilds_the_tally :
    let x := (after (.rewind .b rq) ended).lane .b
    (x.state, x.p, x.lastCause) = (.loading, 0, .complete) ∧ x.tally = tallyOf .built .pending 0 := by
  decide +kernel

/-- Options out of range on both sides: prime depth 7, starve limit 601, fade rate 0. -/
def rqOptions : Req := { rq with w0 := 7, w1 := 1, w2 := 601, w3 := 0, w4 := 241, w5 := 0, w6 := 1, w7 := 0x0103 }

theorem witness_options :
    reaches (.lane .b) rqOptions base ∧ (base.lane .b).state = .empty ∧ rqOptions.w1.toNat ≤ 1 ∧
      rqOptions.w6.toNat ≤ 1 ∧ 1 < ({ rqOptions with w1 := 2 }).w1.toNat :=
  ⟨⟨rfl, [], rfl⟩, by decide +kernel⟩

theorem test_options_are_clamped :
    ((after (.setLaneOptions .b rqOptions) base).lane .b).options =
        ⟨8, .strict, 600, 1, 240, 1, true, 3, 1⟩ ∧
      ((after (.setLaneOptions .b { rqOptions with w6 := 2 }) base).lane .b).options = defaultOptions := by
  decide +kernel

theorem witness_level : reaches (.lane .b) rq onAir ∧ (onAir.lane .b).state ≠ .empty :=
  ⟨⟨rfl, [], rfl⟩, by decide +kernel⟩

theorem test_level_is_clamped :
    ((after (.setLevel .b (rqW0 101)) onAir).lane .b).level = 100 ∧
      ((after (.setLevel .b (rqW0 50)) onAir).lane .b).sound.target.head? = some (.level (-60)) ∧
      ((after (.setLevel .b (rqW0 50)) base).lane .b).level = 70 := by decide +kernel

theorem test_indicators_cleared_when_answered :
    let s := withB { loaded .ready 0 with indicators := ⟨1, 0x203, 1⟩ } base
    ((after (.testIndicators .b rq) s).lane .b).indicators = ⟨1, 0, 1⟩ ∧
      memReadBytes (after (.testIndicators .b rq) s).host.mem 0xB0 4 = [3, 2, 0, 0] := by decide +kernel

/-- A routing block with codes at the ends of their ranges. -/
def routingBlock : List Byte := [0, 1, 24, 65, 72] ++ List.replicate 19 1

/-- A trims block: −201, +61 and 0 with the mute flag, then zeros. -/
def trimsBlock : List Byte := [0x37, 0xFF, 0, 0, 61, 0, 0, 0, 0, 0, 1, 0] ++ zeros 84

theorem witness_routing :
    blockCopy (.lane .b) (rqBlock 0 24) (stored 0x30000 routingBlock base) = .ok routingBlock ∧
      acceptedIn 6 (base.lane .b) = true ∧ (rqBlock 0 24).w0 = 0 ∧ routingBlock.length = 24 ∧
      (∀ i < 24, (sourceOf (field routingBlock i 1)).isSome = true) ∧
      acceptedIn 6 { playing 0 with options := { defaultOptions with liveUpdate := true } } = true ∧
      (∀ n ∈ [25, 64, 73], sourceOf n = none) :=
  ⟨rfl, by decide +kernel⟩

theorem witness_trims :
    blockCopy (.lane .b) (rqBlock 1 96) (stored 0x30000 trimsBlock base) = .ok trimsBlock ∧
      (rqBlock 1 96).w0 = 1 ∧ trimsBlock.length = 96 ∧ (loaded .ready 0).sound.stage ≠ .noSection ∧
      acceptedIn 6 (loaded .ready 0) = true ∧ (base.lane .b).sound.stage = .noSection :=
  ⟨rfl, by decide +kernel⟩

theorem witness_section :
    blockCopy (.lane .b) (rqBlock 2 24) (stored 0x30000 routingBlock base) = .ok routingBlock ∧
      blockCopy (.lane .b) (rqBlock 0 23) (stored 0x30000 routingBlock base) = .ok (routingBlock.take 23) ∧
      blockCopy (.lane .b) (rqBlock 1 24) (stored 0x30000 routingBlock base) = .ok routingBlock ∧
      (rqBlock 2 24).w0 ≠ 0 ∧ (rqBlock 2 24).w0 ≠ 1 ∧ (routingBlock.take 23).length ≠ 24 ∧
      routingBlock.length ≠ 96 := ⟨rfl, rfl, rfl, by decide +kernel⟩

/-- Lane B playing with both sections staged. -/
def staged : State :=
  withB { playing 5 with
    sound :=
      { (playing 5).sound with
        stagedRouting := some (List.replicate 24 (.aux 8))
        stagedTrims := some (List.replicate 24 ⟨60, true⟩) } } licensed

theorem witness_swap :
    staged.clockUnit.source ≠ .acquiring ∧ (staged.lane .b).sound.stagedRouting.isSome = true ∧
      (staged.lane .b).sound.stagedTrims.isSome = true ∧
      (onAir.lane .b).sound.stagedRouting = none := by decide +kernel

theorem test_sections_swap_at_the_boundary :
    let x := (after (.frameBoundary .b) staged).lane .b
    (x.sound.routing.head?, x.sound.trims.head?, x.sound.target.head?) =
        (some (.aux 8), some ⟨60, true⟩, some .mute) ∧
      (x.sound.stagedRouting, x.sound.stagedTrims) = (none, none) ∧
      memReadBytes (after (.writeSoundMap .b (rqBlock 2 24)) (stored 0x30000 routingBlock base)).host.mem
        0x86 2 = [2, 12] := by decide +kernel

theorem test_trims_are_clamped :
    let x := (after (.writeSoundMap .b (rqBlock 1 96))
      (stored 0x30000 trimsBlock (withB (loaded .ready 0) base))).lane .b
    x.sound.trims.take 3 = [⟨-200, false⟩, ⟨60, false⟩, ⟨0, true⟩] ∧ x.sound.stage = .complete := by
  decide +kernel

theorem test_routing_is_staged_while_live :
    let x := (after (.writeSoundMap .b (rqBlock 0 24))
      (stored 0x30000 routingBlock
        (withB { playing 0 with options := { defaultOptions with liveUpdate := true } } licensed))).lane .b
    x.sound.stagedRouting.map (fun r => r.take 5) =
        some [.none, .main 1, .main 24, .aux 1, .aux 8] ∧
      x.sound.routing.head? = some (.main 1) := by decide +kernel

/-! ## Starting, holding, seeking, stopping -/

/-- The part with lane B READY on the keyed show. -/
def readyB : State :=
  withB { loaded .ready 0 with loaded := some (showOf keyedPlan), tally := tallyOf .built .pending 0 }
    licensed

/-- What grants licence 7,001 grants every licence of the tally. -/
theorem may_start (l : LaneId) (s : State) (x : Licence) (e : TallyEntry)
    (h1 : emergencyBlocks s l = false ∧ (s.lane l).sound.stage = .complete ∧
      (s.lane l).link.state = .locked ∧ (s.lane l).link.headStatus = .ready)
    (h2 : (s.lane l).tally.entries = [e]) (h3 : findLicence s.licences.records e.licence = some x)
    (h4 : grants l (s.lane l).link.headId x) : mayStart l s := by
  refine ⟨h1.1, h1.2.1, h1.2.2.1, h1.2.2.2, ?_⟩
  intro f hf y hy
  rw [h2, List.mem_singleton] at hf
  subst hf
  rw [h3] at hy
  cases hy
  exact h4

theorem witness_start :
    reaches (.lane .b) rq readyB ∧ (readyB.lane .b).state = .ready ∧ mayStart .b readyB ∧
      wide rq.w0 rq.w1 ≤ 2 ^ 40 - 1 ∧ readyB.licences.clockValid = true ∧
      wide rq.w0 rq.w1 ≤ readyB.licences.clock :=
  ⟨⟨rfl, [], rfl⟩, by decide +kernel,
    may_start .b readyB licence7001 ⟨7001, 3000, 2100, 0, .pending⟩ (by decide +kernel) rfl (by decide +kernel)
      (by decide +kernel),
    by decide +kernel⟩

/-- Lane Operation, the worked sequence, step 3. -/
theorem test_start_of_the_manual :
    let t := after (.start .b rq) readyB
    (t.lane .b).state = .playing ∧ (t.lane .b).tally = tallyOf .running .reserved 0 ∧
      (findLicence t.licences.records 7001).map Licence.inFlight = some 1 ∧
      (t.lane .b).sound.applied = List.replicate 24 (.level 0) := by decide +kernel

/-- Showing Count, TWO LANES AND THE LAST SHOWING, step 2: 4 + 1 is not below 5. -/
theorem test_last_showing_is_refused :
    let s := modLicences (fun t =>
      { t with records := [some { licence7001 with allowance := 5, counted := 4, inFlight := 1 }] }) readyB
    ((after (.start .b rq) s).lane .b).state = .ready ∧
      memReadBytes (after (.start .b rq) s).host.mem 0x86 2 = [4, 28] ∧
      memReadBytes (after (.start .b rq) s).host.mem 0xB0 2 = [0x59, 0x1B] := by decide +kernel

theorem witness_startAt :
    (readyB.lane .b).state = .ready ∧ readyB.licences.clock < wide (rqW0 1001).w0 (rqW0 1001).w1 ∧
      wide (rqW0 1001).w0 (rqW0 1001).w1 ≤ 2 ^ 40 - 1 ∧
      reaches (.lane .b) (rqW0 1001) readyB :=
  ⟨by decide +kernel, by decide +kernel, by decide +kernel, rfl, [], rfl⟩

/-- The part with lane B ARMED for second 1,001, the next one. -/
def armedB : State :=
  withB { readyB.lane .b with state := .armed, startSecond := some 1001 } readyB

theorem witness_cancelStart : reaches (.lane .b) rq armedB ∧ (armedB.lane .b).state = .armed :=
  ⟨⟨rfl, [], rfl⟩, by decide +kernel⟩

theorem test_arming_and_disarming :
    ((after (.startAt .b (rqW0 1001)) readyB).lane .b).startSecond = some 1001 ∧
      ((after (.startAt .b (rqW0 1000)) readyB).lane .b).state = .playing ∧
      ((after (.cancelStart .b rq) armedB).lane .b).state = .ready ∧
      ((after (.stop .b rq) armedB).lane .b).startSecond = none := by decide +kernel

theorem witness_holds :
    reaches (.lane .b) (rqW0 1) onAir ∧ (onAir.lane .b).state = .playing ∧
      (onAir.lane .b).loaded = some (showOf keyedPlan) ∧ (rqW0 1).w0.toNat ≤ 1 ∧
      1 < (rqW0 2).w0.toNat ∧
      ((withB { playing 5 with hold := some ⟨.inputHold, .now, 0⟩ } licensed).lane .b).hold ≠ none :=
  ⟨⟨rfl, [], rfl⟩, by decide +kernel, rfl, by decide +kernel⟩

/-- Lane Operation, THE REEL-END HOLD, steps 5 and 6, and the NOW hold that follows them. -/
theorem test_holds_of_the_manual :
    let s := withB (playing 600) licensed
    let h := fun (t : State) => (t.lane .b).hold
    let t := after (.hold .b (rqW0 1)) s
    h t = some ⟨.operatorReelEnd, .reelEnd 1, 0⟩ ∧
      h (after (.hold .b (rqW0 1)) t) = some ⟨.operatorReelEnd, .reelEnd 1, 1⟩ ∧
      h (after (.hold .b (rqW0 0)) t) = some ⟨.operatorReelEnd, .now, 1⟩ ∧
      h (after (.cancelHold .b rq) t) = none := by decide +kernel

/-- The part with lane B HELD at show frame 1,500. -/
def heldB : State :=
  withB { playing 1500 with state := .held, holdTimer := 43198, holdLimit := 43200 } licensed

/-- The first input an EMERGENCY input of lane B that has not been accepted. -/
def stopPressed (s : State) : State :=
  { s with
    inputs := ⟨⟨.emergency, 2, .activeClosed, 20⟩, initialInput.filter⟩ :: List.replicate 7 initialInput }

theorem witness_resume :
    reaches (.lane .b) rq heldB ∧ (heldB.lane .b).state = .held ∧ emergencyBlocks heldB .b = false ∧
      emergencyBlocks (stopPressed heldB) .b = true ∧ emergencyBlocks (stopPressed heldB) .a = false :=
  ⟨⟨rfl, [], rfl⟩, by decide +kernel⟩

/-- What refuses licence 7,001 refuses the start with it. -/
theorem start_refused (l : LaneId) (s : State) (x : Licence) (e : TallyEntry) (before : List TallyEntry)
    (why : Reason) (h1 : (s.lane l).tally.entries = before ++ [e])
    (h2 : findLicence s.licences.records e.licence = some x)
    (h3 : reservationRefused l (s.lane l).link.headId x why)
    (h4 : ∀ f ∈ before, ∀ y, findLicence s.licences.records f.licence = some y →
      grants l (s.lane l).link.headId y) : startRefusedFor l s e.licence why :=
  ⟨before, e, [], x, h1, rfl, h2, h3, h4⟩

/-- The part READY with licence 7,001 as given. -/
def readyWith (x : Licence) : State := modLicences (fun t => { t with records := [some x] }) readyB

/-- Licence 7,001 as each test of R85 refuses it to lane B's head. -/
def refusedLicences : List (Licence × Reason) :=
  [({ licence7001 with state := .clockUnknown }, .clock), ({ licence7001 with state := .waiting }, .notOpen),
    ({ licence7001 with state := .closed }, .notOpen), ({ licence7001 with laneMask := 0xD }, .lane),
    ({ licence7001 with heads := [5] }, .headNotPermitted),
    ({ licence7001 with allowance := 12 }, .allowance), ({ licence7001 with counted := 65535 }, .allowance)]

theorem witness_start_refusals :
    emergencyBlocks (stopPressed readyB) .b = true ∧ emergencyBlocks readyB .b = false ∧
      (∀ q ∈ refusedLicences,
        reservationRefused .b (readyB.lane .b).link.headId q.1 q.2 ∧
          findLicence (readyWith q.1).licences.records 7001 = some q.1 ∧
          ((readyWith q.1).lane .b).sound.stage = .complete ∧
          ((readyWith q.1).lane .b).link.state = .locked ∧
          ((readyWith q.1).lane .b).link.headStatus = .ready) ∧
      MapStage.routing ≠ .complete ∧ LinkState.training ≠ .locked ∧ HeadStatus.notReady ≠ .ready := by
  decide +kernel

theorem witness_start_refused :
    reaches (.lane .b) rq (readyWith { licence7001 with allowance := 12 }) ∧
      startRefusedFor .b (readyWith { licence7001 with allowance := 12 }) 7001 .allowance :=
  ⟨⟨rfl, [], rfl⟩,
    start_refused .b _ { licence7001 with allowance := 12 } ⟨7001, 3000, 2100, 0, .pending⟩ [] .allowance
      rfl rfl (by decide +kernel) (by simp)⟩

/-- The part READY with its clock invalid. -/
def clockless : State := modLicences (fun t => { t with clockValid := false }) readyB

theorem witness_startAt_clockless :
    reaches (.lane .b) rq clockless ∧ (clockless.lane .b).state = .ready ∧
      clockless.licences.clockValid = false := ⟨⟨rfl, [], rfl⟩, by decide +kernel⟩

/-- Lane Operation, R10: the refusals in order. -/
theorem test_start_refusals :
    let answer := fun (s : State) => memReadBytes (after (.start .b rq) s).host.mem 0x86 2
    let lane := readyB.lane .b
    (refusedLicences.map fun q => answer (readyWith q.1)) =
        [[4, 29], [4, 26], [4, 26], [4, 25], [4, 27], [4, 28], [4, 28]] ∧
      answer (stopPressed readyB) = [10, 0] ∧
      answer (withB { lane with sound := { lane.sound with stage := .routing } } readyB) = [11, 0] ∧
      answer (withB { lane with link := { lane.link with state := .training } } readyB) = [12, 0] ∧
      answer (withB { lane with link := { lane.link with headStatus := .notReady } } readyB) = [13, 0] ∧
      memReadBytes (after (.startAt .b rq) clockless).host.mem 0x86 2 = [14, 0] := by decide +kernel

theorem witness_seek :
    (heldB.lane .b).loaded = some (showOf keyedPlan) ∧
      (nthReel (showOf keyedPlan) (rqW0 1).w0.toNat).isSome = true ∧
      (nthReel (showOf keyedPlan) (rqW0 3).w0.toNat).isSome = true ∧
      nthReel (showOf keyedPlan) (rqW0 0).w0.toNat = none ∧
      nthReel (showOf keyedPlan) (rqW0 4).w0.toNat = none :=
  ⟨rfl, by decide +kernel⟩

theorem test_resume_and_seek :
    ((after (.resume .b rq) heldB).lane .b).state = .playing ∧
      ((after (.resume .b rq) (stopPressed heldB)).lane .b).state = .held ∧
      ((after (.seek .b (rqW0 2)) heldB).lane .b).p = 1000 ∧
      ((after (.seek .b (rqW0 2)) heldB).lane .b).tracks.main.fetch = some ⟨2, 48⟩ ∧
      ((after (.seek .b (rqW0 2)) heldB).lane .b).holdTimer = 43198 ∧
      ((after (.seek .b (rqW0 4)) heldB).lane .b).state = .held := by decide +kernel

/-- An entry of the awaiting-confirmation list, eligible and of the run. -/
def sentFrame (seq p : Nat) : Awaiting := ⟨seq, p, true, true⟩

/-- A state with lane B's awaiting-confirmation list, its counter after it. -/
def listed (list : List Awaiting) (seq : Nat) (s : State) : State :=
  modLink .b (fun k => { k with awaiting := list, seq := seq }) s

theorem witness_stop :
    reaches (.lane .b) rq onAir ∧ (onAir.lane .b).tally.phase = .running ∧
      hasMark (onAir.lane .b).link.awaiting = false ∧
      hasMark ((listed [sentFrame 4 999] 5 onAir).lane .b).link.awaiting = true ∧
      reaches (.lane .b) rq (listed [sentFrame 4 999] 5 onAir) :=
  ⟨⟨rfl, [], rfl⟩, by decide +kernel, by decide +kernel, by decide +kernel, rfl, [], rfl⟩

theorem test_stop_fades_or_ends :
    ((after (.stop .b rq) onAir).lane .b).state = .stopping ∧
      ((after (.stop .b rq) onAir).lane .b).tally.phase = .closed ∧
      ((after (.stop .b rq) (listed [sentFrame 4 999] 5 onAir)).lane .b).tally.phase = .closing ∧
      ((after (.stop .b rq) (withB { loaded .held 9 with hold := none } base)).lane .b).state =
        .ended := by decide +kernel

theorem witness_linkTest :
    reaches (.lane .b) (rqW0 65535) ended ∧ acceptedIn 17 (ended.lane .b) = true ∧
      1 ≤ (rqW0 1).w0.toNat ∧ (rqW0 65535).w0.toNat ≤ 65535 ∧ 65535 < (rqW0 65536).w0.toNat ∧
      (ended.lane .b).link.state = .locked ∧ (base.lane .b).link.state ≠ .locked ∧
      acceptedIn 17 (base.lane .b) = true :=
  ⟨⟨rfl, [], rfl⟩, by decide +kernel⟩

theorem test_linkTest_starts :
    let x := (after (.linkTest .b (rqW0 3)) ended).lane .b
    (x.link.state, x.link.test.left, x.link.test.settle, x.link.headStatus) =
        (.testing, 3, 8, .unknown) ∧
      ((after (.linkTest .b (rqW0 0)) ended).lane .b).link.state = .locked ∧
      memReadBytes (after (.linkTest .b (rqW0 3)) base).host.mem 0x86 1 = [12] := by decide +kernel

/-! ## The device requests -/

/-- A package of licence 9,001, issue 1, K 70, every lane, one key of id 6. -/
def package : List Byte :=
  zeros 8 ++ le 4 9001 ++ le 2 1 ++ [70, 15] ++ zeros 4 ++ le 2 0 ++ [0, 1] ++ le 8 0 ++ le 8 5000 ++
    le 4 6 ++ zeros 4 ++ List.replicate 16 1 ++ zeros 16

theorem witness_install :
    licensed.device = .running ∧
      blockCopy .device (rqBlock 0 80) (stored 0x30000 package licensed) = .ok package ∧
      installRefusal (stored 0x30000 package licensed) package true = none ∧
      findLicence licensed.licences.records (packageOf package).id = none :=
  ⟨rfl, rfl, by decide +kernel⟩

/-- The same package as a replacement, issue 2, of licence 7,001. -/
def replacement : List Byte := zeros 8 ++ le 4 7001 ++ le 2 2 ++ package.drop 14

theorem witness_replacement :
    installRefusal (stored 0x30000 replacement licensed) replacement true = none ∧
      findLicence licensed.licences.records (packageOf replacement).id = some licence7001 := by decide +kernel

theorem test_install_fills_a_record :
    let t := after (.installLicence (rqBlock 0 80) true) (stored 0x30000 package licensed)
    (findLicence t.licences.records 9001).map (fun x => (x.counted, x.state, x.keys)) =
        some (0, .opened, [(6, 1)]) ∧
      (findLicence (after (.installLicence (rqBlock 0 80) true)
        (stored 0x30000 replacement licensed)).licences.records 7001).map
          (fun x => (x.counted, x.issue, x.keys)) = some (12, 2, [(6, 0)]) ∧
      findLicence (after (.installLicence (rqBlock 0 80) false)
        (stored 0x30000 package licensed)).licences.records 9001 = none := by decide +kernel

/-- The package of licence 9,001 with one of its fields at byte `i` replaced. -/
def packageWith (i : Nat) (bs : List Byte) : List Byte := package.take i ++ bs ++ package.drop (i + bs.length)

/-- The part with its table of one record, and with a second key of another licence in a slot. -/
def fullTable : State :=
  { licensed with
    licences := { licensed.licences with records := [some licence7001], keys := [some ⟨6, 7001, 0⟩, none] } }

/-- R74, R179: the window of an installed package is in booth clock values, without bits 40 to 63. -/
theorem test_package_window :
    (packageOf (packageWith 29 [1, 2, 3])).notBefore = 0 ∧
      (packageOf (packageWith 36 [1, 2])).notAfter = 2 ^ 32 + 5000 := by decide +kernel

theorem witness_install_refusals :
    (package.length = 56 + 8 * (packageOf package).headCount + 24 * (packageOf package).keyCount ∧
        (packageOf package).target = licensed.licences.deviceKeyId.toNat ∧ termsHold (packageOf package)) ∧
      (packageWith 0 [1]).length = 80 ∧ (packageOf (packageWith 0 [1])).target = 1 ∧
      (package.drop 1).length ≠
        56 + 8 * (packageOf (package.drop 1)).headCount + 24 * (packageOf (package.drop 1)).keyCount ∧
      (∀ q ∈ [(12, [0]), (14, [0]), (14, [101]), (15, [0]), (15, [16]), (24, [0x88, 0x13]), (40, zeros 4)],
        ¬ termsHold (packageOf (packageWith q.1 q.2))) ∧
      (packageOf replacement).id = 7001 ∧ (packageOf replacement).issue = 2 ∧ licence7001.issue = 1 ∧
      (packageOf (replacement.take 12 ++ [1] ++ replacement.drop 13)).issue ≤ licence7001.issue ∧
      referencedBy onAir 7001 ≠ none ∧ referencedBy licensed 7001 = none ∧
      (packageOf (replacement.take 20 ++ [11] ++ replacement.drop 21)).allowance = 11 ∧
      11 < licence7001.counted ∧
      (packageOf package).keys.map Prod.fst = [6] ∧
      heldElsewhere fullTable.licences.keys 9001 6 = true ∧
      heldElsewhere licensed.licences.keys 9001 6 = false ∧
      ¬ hasRoom { fullTable.licences with keys := [none] } (packageOf package) ∧
      ¬ hasRoom { licensed.licences with keys := [some ⟨5, 7001, 0⟩] } (packageOf package) := by
  decide +kernel

/-- Licence Table, R78: the refusals in order. -/
theorem test_install_refusals :
    let answer := fun (b : List Byte) (s : State) =>
      memReadBytes (after (.installLicence (rqBlock 0 (BitVec.ofNat 16 b.length)) true)
        (stored 0x30000 b s)).host.mem 0x146 2
    answer (packageWith 0 [1]) licensed = [7, 0] ∧ answer (packageWith 14 [101]) licensed = [2, 14] ∧
      answer (replacement.take 12 ++ [1] ++ replacement.drop 13) licensed = [2, 15] ∧
      answer replacement onAir = [5, 0] ∧
      answer (replacement.take 20 ++ [11] ++ replacement.drop 21) licensed = [2, 16] ∧
      answer package fullTable = [2, 17] ∧
      answer package (modLicences (fun t => { t with keys := [some ⟨5, 7001, 0⟩] }) licensed) = [3, 0] := by
  decide +kernel

theorem witness_remove :
    reaches .device (rqW0 7001) licensed ∧
      findLicence licensed.licences.records (rqW0 7001).w0.toNat = some licence7001 ∧
      referencedBy licensed (rqW0 7001).w0.toNat = none ∧
      findLicence licensed.licences.records (rqW0 7002).w0.toNat = none ∧
      laneReferences (onAir.lane .b) (rqW0 7001).w0.toNat = true ∧
      laneReferences (onAir.lane .a) (rqW0 7001).w0.toNat = false :=
  ⟨⟨rfl, [], rfl⟩, by decide +kernel⟩

theorem test_remove_frees_or_is_refused :
    recordsInUse (after (.removeLicence (rqW0 7001)) licensed).licences = 0 ∧
      slotsInUse (after (.removeLicence (rqW0 7001)) licensed).licences = 0 ∧
      memReadBytes (after (.removeLicence (rqW0 7001)) onAir).host.mem 0x140 8 =
        [3, 19, 7, 1, 0, 0, 5, 0] := by decide +kernel

/-- A request with a buffer of 200 bytes at 40000H for licence 7,001. -/
def rqBuffer : Req := { rqW0 7001 with w2 := 0x40000, w4 := 200 }

theorem witness_reads :
    reaches .device rqBuffer licensed ∧ (licenceImage licence7001).length ≤ rqBuffer.w4.toNat ∧
      accessFails licensed.host.writeFails (bufferAddr rqBuffer) (licenceImage licence7001).length =
        false ∧
      slotAddr licensed .device + 64 ≤ bufferAddr rqBuffer ∧
      accessFails (writeFailing 0x400C7 1 licensed).host.writeFails (bufferAddr rqBuffer)
        (licenceImage licence7001).length = true ∧
      reaches .device rqBuffer (writeFailing 0x400C7 1 licensed) ∧
      accessFails licensed.host.writeFails (bufferAddr rqBuffer)
        (12 * min (recordsInUse licensed.licences) (rqBuffer.w4.toNat / 12)) = false :=
  ⟨⟨rfl, [], rfl⟩, by decide +kernel, by decide +kernel, by decide +kernel, by decide +kernel, ⟨rfl, [], rfl⟩, by decide +kernel⟩

theorem witness_records_distinct : recordsDistinct licensed.licences.records := by decide +kernel

theorem witness_read_refusals :
    reaches .device (rqW0 7002) licensed ∧
      findLicence licensed.licences.records (rqW0 7002).w0.toNat = none ∧
      (rqW0 7001).w4.toNat < (licenceImage licence7001).length ∧
      reaches .device { rqBuffer with w4 := 12 } (writeFailing 0x4000B 1 licensed) ∧
      1 ≤ recordsInUse licensed.licences ∧
      accessFails (writeFailing 0x4000B 1 licensed).host.writeFails (bufferAddr { rqBuffer with w4 := 12 })
        (12 * min (recordsInUse licensed.licences) (({ rqBuffer with w4 := 12 } : Req).w4.toNat / 12)) =
        true :=
  ⟨⟨rfl, [], rfl⟩, by decide +kernel, by decide +kernel, ⟨rfl, [], rfl⟩, by decide +kernel, by decide +kernel⟩

theorem test_read_refusals :
    let answer := fun (t : State) => memReadBytes t.host.mem 0x146 2
    answer (after (.readLicence (rqW0 7002)) licensed) = [2, 18] ∧
      answer (after (.readLicence (rqW0 7001)) licensed) = [2, 19] ∧
      answer (after (.listLicences { rqBuffer with w4 := 12 }) (writeFailing 0x4000B 1 licensed)) =
        [2, 20] := by decide +kernel

/-- Record Layouts, Read Licence image and List Licences entry: 7,001 is 1B59H, counted 12, OPEN 4. -/
theorem test_licence_records_as_read :
    memReadBytes (after (.readLicence rqBuffer) licensed).host.mem 0x40000 20 =
        [0x59, 0x1B, 0, 0, 1, 0, 70, 15, 0, 0, 0, 0, 0, 0, 12, 0, 0, 4, 0, 1] ∧
      memReadBytes (after (.listLicences rqBuffer) licensed).host.mem 0x40000 12 =
        [0x59, 0x1B, 0, 0, 4, 0, 12, 0, 0, 0, 0, 0] ∧
      memReadBytes (after (.readIdentity rq) licensed).host.mem 0x170 12 =
        [0, 0, 0, 0, 0, 0, 0, 0, 1, 0, 0, 0] := by decide +kernel

/-- The maintenance contact asserted. -/
def keyed (s : State) : State := { s with maintenance := true }

theorem witness_clock_requests :
    reaches .device (rqW0 5) (keyed base) ∧
      wide (rqW0 5).w0 (rqW0 5).w1 ≤ 2 ^ 40 - 1 ∧ (keyed base).maintenance = true ∧
      State.reset.licences.clockValid = false ∧ base.licences.clockValid = true ∧
      base.maintenance = false ∧ 2 ^ 40 - 1 < wide rq.w0 256 ∧
      (∀ l ∈ [LaneId.a, .b, .c, .d], ((keyed base).lane l).state ≠ .armed) ∧
      -3600 ≤ (rqW0 (-3600)).w0.toInt ∧ (rqW0 3600).w0.toInt ≤ 3600 ∧ 3600 < (rqW0 3601).w0.toInt :=
  ⟨⟨rfl, [], rfl⟩, by decide +kernel⟩

/-- Licence Table, adjustments across midnight: the clock, the day recorded and its allowance. -/
def midnight (clock day left : Nat) : State :=
  { base with licences := { table with clock := clock, adjustDay := some day, adjustLeft := left } }

/-- The clock and the adjustment record after an adjustment. -/
def adjusted (delta : Word32) (s : State) : Nat × Option Nat × Nat :=
  let t := (after (.adjustClock (rqW0 delta)) s).licences
  (t.clock, t.adjustDay, t.adjustLeft)

/-- Steps 1, 2, 3, 6 and 7 of the manual's sequence. -/
theorem test_adjustments_of_the_manual :
    adjusted 300 (midnight 1710780000 19799 0) = (1710780300, some 19800, 300) ∧
      adjusted (-500) (midnight 1710780300 19800 300) = (1710780000, some 19800, 0) ∧
      adjusted 10 (midnight 1710780000 19800 0) = (1710780000, some 19800, 0) ∧
      adjusted (-200) (midnight 1710806450 19800 0) = (1710806250, some 19801, 400) ∧
      adjusted 50 (midnight 1710806250 19801 400) = (1710806250, some 19801, 400) := by decide +kernel

theorem test_setClock_needs_the_key :
    (after (.setClock (rqW0 5)) base).licences.clock = 1000 ∧
      (after (.setClock (rqW0 5)) (keyed base)).licences.clock = 5 := by decide +kernel

theorem witness_factoryClear :
    (keyed licensed).maintenance = true ∧
      (∀ l ∈ [LaneId.a, .b, .c, .d], ((keyed licensed).lane l).state = .empty) ∧
      licensed.maintenance = false ∧ ((keyed onAir).lane .b).state ≠ .empty ∧
      ((keyed onAir).lane .a).state = .empty ∧ reaches .device rq (keyed licensed) :=
  ⟨by decide +kernel, by decide +kernel, by decide +kernel, by decide +kernel, by decide +kernel, rfl, [], rfl⟩

theorem test_factoryClear :
    let t := after (.factoryClear rq) (keyed licensed)
    (recordsInUse t.licences, slotsInUse t.licences, t.licences.clockValid, t.licences.clock) =
        (0, 0, false, 1000) ∧
      memReadBytes (after (.factoryClear rq) (keyed onAir)).host.mem 0x140 8 =
        [3, 25, 7, 1, 0, 0, 1, 0] ∧
      recordsInUse (after (.factoryClear rq) licensed).licences = 1 := by decide +kernel

/-- An input settings block: input 0 EMERGENCY of every lane with a debounce of 0, the rest REPORT. -/
def inputBlock : List Byte :=
  [3, 0xFF, 1, 0, 0, 0, 0, 0] ++ (List.range 7).flatMap fun _ => [1, 0, 0, 0, 20, 0, 0, 0]

theorem witness_setInputs :
    base.device = .running ∧ base.inputs.length = 8 ∧ inputBlock.length = 64 ∧
      blockCopy .device (rqBlock 0 64) (stored 0x30000 inputBlock base) = .ok inputBlock ∧
      (∀ i < 8, (functionOf (field inputBlock (8 * i) 1)).isSome = true ∧
        (polarityOf (field inputBlock (8 * i + 2) 1)).isSome = true) ∧
      blockCopy .device rq base = .ok [] :=
  ⟨rfl, by decide +kernel, by decide +kernel, rfl, by decide +kernel, rfl⟩

/-- The input settings block with one byte replaced. -/
def inputBlockWith (i : Nat) (b : Byte) : List Byte := inputBlock.set i b

theorem witness_setInputs_refusals :
    (∀ i ∈ [0, 7], functionOf (field (inputBlockWith (8 * i) 4) (8 * i) 1) = none ∧
      (∀ j < i, (functionOf (field (inputBlockWith (8 * i) 4) (8 * j) 1)).isSome = true)) ∧
      (∀ i ∈ [0, 7], polarityOf (field (inputBlockWith (8 * i + 2) 2) (8 * i + 2) 1) = none ∧
        (∀ j < 8, (functionOf (field (inputBlockWith (8 * i + 2) 2) (8 * j) 1)).isSome = true) ∧
        (∀ j < i, (polarityOf (field (inputBlockWith (8 * i + 2) 2) (8 * j + 2) 1)).isSome = true)) ∧
      (inputBlockWith 56 4).length = 64 := by decide +kernel

theorem test_setInputs_refusals :
    let answer := fun (b : List Byte) =>
      let t := after (.setInputs (rqBlock 0 64)) (stored 0x30000 b base)
      memReadBytes t.host.mem 0x143 1 ++ memReadBytes t.host.mem 0x146 2
    answer (inputBlockWith 56 4) = [7, 2, 22] ∧ answer (inputBlockWith 58 2) = [7, 2, 23] ∧
      answer ((inputBlockWith 2 2).set 56 4) = [7, 2, 22] := by decide +kernel

theorem test_setInputs_restarts_the_changed :
    let t := after (.setInputs (rqBlock 0 64)) (stored 0x30000 inputBlock base)
    t.inputs.head?.map Input.settings = some ⟨.emergency, 15, .activeOpen, 1⟩ ∧
      t.inputs.drop 1 = List.replicate 7 initialInput ∧
      memReadBytes t.host.mem 0x170 12 = [1, 20, 20, 20, 20, 20, 20, 20, 1, 0, 0, 0] := by decide +kernel

/-! ## Frame boundaries -/

/-- Lane B at show frame 5,000 of a one-reel show keyed to licence 7,001, its heads for P as given. -/
def longLane (heads : List QueueEntry) : Lane :=
  let r := reelWith 9000 0 { keyedPlan with frames := 9000 }
  { playing 5000 with
    loaded := some ⟨24, 48000, 0, 0, 9000, [r]⟩
    tally := ⟨.running, [⟨7001, 9000, 6300, 0, .reserved⟩], [[0]], 0, .none⟩
    tracks := ⟨track heads (some ⟨1, 5001⟩), track [] (some ⟨1, 5000⟩), emptyTrack⟩ }

/-- The manual's list before its step 1: 65,533 to 0, the counter at 1. -/
def beforeStep1 (heads : List QueueEntry) : State :=
  listed [sentFrame 65533 4996, sentFrame 65534 4997, sentFrame 65535 4998, sentFrame 0 4999] 1
    (withB (longLane heads) licensed)

theorem witness_presenting :
    ∀ heads ∈ [[entryOf 5000 picture], []],
      (beforeStep1 heads).clockUnit.source ≠ .acquiring ∧
        ((beforeStep1 heads).lane .b).state = .playing ∧ holdDue ((beforeStep1 heads).lane .b) = false ∧
        presentFault ((beforeStep1 heads).lane .b) = none ∧
        ((beforeStep1 heads).lane .b).tally.phase = .running ∧
        linkGood ((beforeStep1 heads).lane .b) = true ∧
        ((beforeStep1 heads).lane .b).starveRun + 1 ≤ ((beforeStep1 heads).lane .b).options.starveLimit ∧
        ((beforeStep1 heads).lane .b).loaded.map (fun sh => decide (5000 + 1 < sh.total)) = some true := by
  decide +kernel

theorem witness_presenting_without_a_link :
    let x := { longLane [] with link := { lockedLink with state := .training }, linkGrace := 47, starveRun := 119 }
    linkGood x = false ∧ x.linkGrace + 1 ≤ x.options.linkGrace ∧ realUnits x x.p = none ∧
      x.starveRun + 1 ≤ x.options.starveLimit := by decide +kernel

/-- Projector Link, A LOST LOCK DURING PLAY, step 1. -/
theorem test_presenting_of_the_manual :
    let x := (after (.frameBoundary .b) (beforeStep1 [entryOf 5000 picture])).lane .b
    (x.p, x.link.seq, x.lastReal, x.starveRun) = (5001, 2, some 5000, 0) ∧
      x.link.awaiting.map Awaiting.seq = [65533, 65534, 65535, 0, 1] ∧
      x.link.awaiting.getLast? = some (sentFrame 1 5000) ∧ x.tracks.picture.queue = [] ∧
      x.tracks.main.fetch = some ⟨1, 5001⟩ := by decide +kernel

/-- The same boundary without a picture: BLACK, CONCEALED, not eligible. -/
theorem test_concealed_frame :
    let x := (after (.frameBoundary .b) (beforeStep1 [])).lane .b
    (x.p, x.starveRun, x.link.awaiting.getLast?) = (5001, 1, some ⟨1, 5000, false, true⟩) ∧
      x.indicators.held = 5 := by decide +kernel

/-- Lane B at the reel end of the worked show with its REEL_END hold pending. -/
def atReelEnd : State :=
  withB { playing 1000 with hold := some ⟨.operatorReelEnd, .reelEnd 1, 1⟩, linkGrace := 3 } licensed

theorem witness_holdTaken :
    atReelEnd.clockUnit.source ≠ .acquiring ∧ (atReelEnd.lane .b).state = .playing ∧
      (nthReel (showOf keyedPlan) 2).map Reel.start = some (atReelEnd.lane .b).p ∧
      linkGood (atReelEnd.lane .b) = true ∧ (atReelEnd.lane .b).tally.phase = .running ∧
      (47 : Nat) + 1 ≤ (atReelEnd.lane .b).options.linkGrace := by decide +kernel

/-- Lane Operation, THE REEL-END HOLD, step 8. -/
theorem test_holdTaken_of_the_manual :
    let x := (after (.holdTaken .b) atReelEnd).lane .b
    (x.state, x.p, x.hold, x.holdTimer, x.holdLimit, x.linkGrace) = (.held, 1000, none, 0, 43200, 0) ∧
      x.sound.target = List.replicate 24 .mute ∧ x.tally = tallyOf .running .reserved 0 ∧
      after (.holdTaken .b) onAir = onAir := by
  refine ⟨?_, ?_, ?_, rfl⟩ <;> decide +kernel

/-- Lane B one frame from the starve limit, and one from the link grace limit. -/
def starving : State := withB { playing 1500 with starveRun := 120 } licensed

/-- Lane B with its link DOWN at the grace limit. -/
def unlinked (hold : Option HoldRecord) : State :=
  withB { playing 1500 with link := initialLink, linkGrace := 48, hold := hold } licensed

/-- Lane B at the first frame of reel 2 with the stores of reels 1 and 2, that of reel 2 with `n` cues
visible. -/
def atReelTwo (k : Link) (n : Nat) : State :=
  let cues := (List.range n).map fun i => { workedCue with number := i + 1, inFrame := 40, outFrame := 60 }
  withB { playing 1000 with
    link := k
    overlay :=
      { initialOverlay with
        current1 := { noStore with reel := 1, state := .lost }
        next1 := { noStore with reel := 2, state := .decoded, palette := [(1, 2, 3)], cues := cues } } }
    licensed

theorem witness_reelStart :
    ∀ s ∈ [atReelTwo lockedLink 0, atReelTwo initialLink 5],
      presents (s.lane .b) ∧ (s.lane .b).loaded = some (showOf keyedPlan) ∧
        (reelOf (showOf keyedPlan) 1000).map (fun q => (q.1, q.2.start)) = some (2, 1000) ∧
        (s.lane .b).overlay.current1.reel + 1 = 2 ∧ shapeOk s ∧ ringRoom 1 s ∧
        (s.lane .b).tally.phase ≠ .closing ∧ cueTableOf (s.lane .b) = none := by decide +kernel

theorem witness_within_a_reel :
    presents ((unlinked none).lane .b) ∧ ((unlinked none).lane .b).link.state ≠ .locked ∧
      (reelOf (showOf keyedPlan) ((unlinked none).lane .b).p).map
        (fun q => decide (q.2.start ≠ ((unlinked none).lane .b).p)) = some true := by decide +kernel

/-- Subtitle Overlay, succession: the store of reel 2 becomes current and its palette goes out; of five cues
four are drawn and OVERLAY_SATURATED is set; REEL_START 2 is the first entry. -/
theorem test_reelStart :
    let t := after (.frameBoundary .b) (atReelTwo lockedLink 0)
    let x := t.lane .b
    let y := (after (.frameBoundary .b) (atReelTwo initialLink 5)).lane .b
    (x.overlay.current1.reel, x.overlay.next1.reel, x.overlay.next1.state) = (2, 3, .none) ∧
      (match x.link.forward with
        | .frame r => r.palettes
        | _ => []) = [(.one, [(1, 2, 3)])] ∧
      (memReadBytes t.host.mem 0x2004 2, memReadBytes t.host.mem 0x2010 8) =
        ([2, 1], [0xE8, 3, 0, 0, 2, 0, 0, 0]) ∧
      (x.overlay.palettePending, y.overlay.palettePending) = (⟨false, false⟩, ⟨true, true⟩) ∧
      (y.overlay.active, y.indicators.held &&& 0x10) = (⟨4, 0⟩, 0x10) := by decide +kernel

theorem witness_timers :
    holdDue (starving.lane .b) = false ∧ presentFault (starving.lane .b) = none ∧
      linkGood (starving.lane .b) = true ∧ realUnits (starving.lane .b) 1500 = none ∧
      (starving.lane .b).options.starveLimit < (starving.lane .b).starveRun + 1 ∧
      linkGood ((unlinked none).lane .b) = false ∧ holdDue ((unlinked none).lane .b) = false ∧
      presentFault ((unlinked none).lane .b) = none ∧
      ((unlinked none).lane .b).options.linkGrace < ((unlinked none).lane .b).linkGrace + 1 ∧
      holdDue ((unlinked (some ⟨.inputHold, .now, 0⟩)).lane .b) = true ∧
      (1500 + 1 < (showOf keyedPlan).total) ∧
      ((withB { heldB.lane .b with holdTimer := 43199 } heldB).lane .b).holdLimit ≤ 43199 + 1 := by decide +kernel

theorem test_timers_stop_the_lane :
    let x := (after (.starveLimitExpiry .b) starving).lane .b
    let y := (after (.linkGraceExpiry .b) (unlinked none)).lane .b
    let z := (after (.linkGraceExpiry .b) (unlinked (some ⟨.inputHold, .now, 0⟩))).lane .b
    (x.state, x.lastCause, x.p) = (.stopping, .starved, 1501) ∧
      (y.state, y.lastCause, y.p) = (.stopping, .linkLost, 1501) ∧
      (z.state, z.lastCause, z.p) = (.stopping, .linkLost, 1500) := by decide +kernel

theorem test_holdLimit_expires_at_its_limit :
    let s := withB { heldB.lane .b with holdTimer := 43199 } heldB
    ((after (.holdLimitExpiry .b) s).lane .b).lastCause = .holdExpired ∧
      after (.holdLimitExpiry .b) heldB = heldB ∧
      ((after (.frameBoundary .b) heldB).lane .b).holdTimer = 43199 := by
  refine ⟨?_, rfl, ?_⟩ <;> decide +kernel

/-- The part with lane B LOADING or SEEKING, its queues primed. -/
def primedB (st : LaneState) : State :=
  withB { primedLane st with holdLimit := if st = .seeking then 43200 else 0 } base

theorem witness_priming :
    essencePrimed ((primedB .loading).lane .b) = true ∧ ((primedB .loading).lane .b).state = .loading ∧
      ((primedB .loading).lane .b).tally.phase ≠ .closing ∧
      ((primedB .loading).lane .b).overlay.current1.state ≠ .fetching ∧
      ((primedB .loading).lane .b).overlay.current2.state ≠ .fetching ∧
      firstReelLicences ((primedB .loading).lane .b) = [] ∧
      firstReelLicences (playing 0) = [7001, 7001] ∧ licenceOpen licensed 7001 = true ∧
      essencePrimed ((primedB .seeking).lane .b) = true ∧
      ((primedB .seeking).lane .b).holdTimer + 1 < ((primedB .seeking).lane .b).holdLimit := by decide +kernel

theorem test_priming :
    ((after (.primed .b) (primedB .loading)).lane .b).state = .ready ∧
      ((after (.seekPrimed .b) (primedB .seeking)).lane .b).state = .held ∧
      ((after (.seekPrimed .b) (primedB .seeking)).lane .b).holdTimer = 1 ∧
      ((after (.frameBoundary .b)
        (withB { primedLane .loading with tracks := ⟨primedTrack 0, track [] none, emptyTrack⟩ }
          base)).lane .b).state = .loading := by decide +kernel

/-- Lane B ENDED with its closing window open at a count. -/
def closingB (n : Nat) : State :=
  listed [sentFrame 4 2999] 5
    (modLicences (fun t => { t with records := [some { licence7001 with inFlight := 1 }] })
      (withB { ended.lane .b with tally := { tallyOf .closing .reserved 2000 with window := n } } ended))

theorem witness_closing :
    ((closingB 7).lane .b).state = .ended ∧ ((closingB 7).lane .b).tally.phase = .closing ∧
      hasMark ((closingB 7).lane .b).link.awaiting = true ∧ ((closingB 7).lane .b).tally.window + 1 = 8 ∧
      ((closingB 6).lane .b).tally.window + 1 < 8 ∧ ((closingB 6).lane .b).link.awaiting.length < 8 ∧
      ((closingB 6).lane .b).link.state = .locked ∧ (closingB 7).clockUnit.source ≠ .acquiring := by
  decide +kernel

theorem test_window_closes_at_eight :
    let t := after (.closingWindowExpired .b) (closingB 7)
    (t.lane .b).tally.phase = .closed ∧ t.licences.records = [some licence7001] ∧
      ((after (.frameBoundary .b) (closingB 6)).lane .b).tally.phase = .closing := by decide +kernel

/-- Lane B's window at a count, its list full with one entry of the run, the oldest. -/
def fullClosing (n : Nat) : State :=
  modLink .b
    (fun k =>
      { k with
        awaiting := sentFrame 4 2999 :: (List.range 7).map fun i => ⟨5 + i, 3000, false, false⟩, seq := 12 })
    (closingB n)

theorem witness_window_expires :
    ((fullClosing 7).lane .b).tally.entries ≠ [] ∧ shapeOk (fullClosing 7) ∧ ringRoom 1 (fullClosing 7) ∧
      hasMark (((listed [sentFrame 4 2999, sentFrame 5 2999] 6 (closingB 6)).lane .b).link.awaiting.drop 1)
        = true := by
  decide +kernel

/-- R101, R102: the eighth boundary closes the window EXPIRED, with the last entry of the run still in the full
list; an earlier one drops that entry to make room, and the window closes DRAINED. -/
theorem test_window_expires_or_drains :
    let words := fun (t : State) => [0x2014, 0x2018, 0x201C].map fun a => fromLe (memReadBytes t.host.mem a 4)
    let expired := after (.closingWindowExpired .b) (fullClosing 7)
    let drained := after (.frameBoundary .b) (fullClosing 6)
    (words expired, (expired.lane .b).tally.window, (expired.lane .b).link.unseen) =
        ([(fullClosing 7 |>.lane .b).tally.endCause.ctorIdx, 1, 1], 8, 1) ∧
      ((words drained).drop 1, (drained.lane .b).tally.phase, (drained.lane .b).link.unseen) =
        ([0, 1], .closed, 1) := by decide +kernel

/-- Lane B's link in a test with its settle at a count, two records sent and the second tallied. -/
def testing (left settle : Nat) : State :=
  withB { loaded .ended 3000 with
    link :=
      { lockedLink with
        state := .testing, seq := 12, test := ⟨left, settle, 0, [(10, false), (11, true)]⟩ } } base

theorem witness_linkTestEnds :
    ((testing 0 1).lane .b).state = .ended ∧ ((testing 0 1).lane .b).link.state = .testing ∧
      ((testing 0 1).lane .b).link.test.left = 0 ∧ ((testing 0 1).lane .b).link.test.settle = 1 := by decide +kernel

theorem test_linkTest_result :
    let k := ((after (.linkTestComplete .b) (testing 0 1)).lane .b).link
    (k.state, k.lockFlag, k.heldTest) = (.training, true, ⟨.fail, 1, 2⟩) ∧
      ((after (.frameBoundary .b) (testing 1 8)).lane .b).link.forward = .test 12 ∧
      after (.linkTestComplete .b) (testing 0 2) = testing 0 2 := by
  refine ⟨?_, ?_, rfl⟩ <;> decide +kernel

/-! ## Cues -/

/-- A cue table with its entry 1 (990, late allowed by the flags given) and entry 2 (1,000). -/
def cued (flags : Byte) (p : Nat) : State :=
  stored 0x50010 (le 4 995 ++ [6, 6, flags])
    (stored 0x50020 (le 4 1000 ++ [1, 0, 1])
      (withB
        { loaded .playing p with loaded := some { show3 with cueTable := 0x50000 }, contacts := 1 }
        base))

/-- Booth Automation, CUES THROUGH AN EDIT AND A SEEK, steps 5 and 7, and 7 without LATE_OK. -/
theorem test_cues_of_the_manual :
    ((after (.frameBoundary .b) (cued 7 1000)).lane .b).contacts = 0 ∧
      ((after (.frameBoundary .b) (cued 7 1000)).lane .b).scanner.marks.take 3 =
        [.clear, .clear, .fired 1000 1000] ∧
      memReadBytes (after (.frameBoundary .b) (cued 7 1000)).host.mem 0x50028 8 =
        [1, 0, 0, 0, 0xE8, 3, 0, 0] ∧
      ((after (.frameBoundary .b) (cued 5 1003)).lane .b).contacts = 7 ∧
      ((after (.frameBoundary .b) (cued 5 1003)).lane .b).scanner.marks.take 3 =
        [.clear, .fired 1003 995, .missed 1003 1000] := by decide +kernel

theorem witness_presents :
    let x := (cued 7 1000).lane .b
    presents x ∧ x.loaded = some { show3 with cueTable := 0x50000 } ∧ cueTableOf x = some 0x50000 ∧
      soundFor { show3 with cueTable := 0x50000 } x .main 1000 = .gap ∧ shapeOk (cued 7 1000) ∧
      (∀ r ∈ eventAreas (cued 7 1000) .b, r.1 + r.2 ≤ 0x50000) ∧
      (readHostWords (cued 7 1000).host 0x50000 32 0).isSome = true ∧
      readHostWords (readFailing 0x501F7 1 (cued 7 1000)).host 0x50000 32 0 = none ∧
      (x.scanner.marks.length, x.scanner.writePending.length) = (32, 32) ∧
      cueTableOf (onAir.lane .b) = none := by decide +kernel

theorem witness_cue_entries :
    let w := fun (n : Nat) => hostWordOf (memReadBytes (cued 5 1003).host.mem (0x50000 + 16 * n) 8)
    markAfter 1003 3000 (w 1) .clear = .fired 1003 995 ∧ markAfter 1003 3000 (w 2) .clear = .missed 1003 1000 ∧
      markAfter 1003 3000 (w 3) .clear = .clear ∧
      accessFails (writeFailing 0x5002F 1 (cued 5 1003)).host.writeFails (partAddr 0x50000 2) 8 = true ∧
      accessFails (cued 5 1003).host.writeFails (partAddr 0x50000 2) 8 = false := by decide +kernel

/-- A table that cannot be read leaves the scan unmade; a part word that cannot be written stays pending. -/
theorem test_cue_accesses_that_fail :
    let x := (after (.frameBoundary .b) (readFailing 0x501F7 1 (cued 7 1000))).lane .b
    let y := (after (.frameBoundary .b) (writeFailing 0x5002F 1 (cued 5 1003))).lane .b
    (x.scanner.readError, x.contacts, x.scanner.marks.take 3) = (true, 1, [.clear, .clear, .clear]) ∧
      y.scanner.writePending.take 4 = [false, false, true, false] ∧
      (y.indicators.held &&& indicatorBit .cueMissed ≠ 0) ∧ x.indicators.held &&& indicatorBit .soundGap ≠ 0 := by
  decide +kernel

/-- The part word of a clear mark holds no mark frame (Record Layouts, no value). -/
theorem test_clear_part_word :
    memReadBytes (after (.start .b rq)
      (withB { readyB.lane .b with loaded := some { showOf keyedPlan with cueTable := 0x50000 } }
        readyB)).host.mem 0x50018 8 = [0, 0, 0, 0, 0xFF, 0xFF, 0xFF, 0xFF] := by decide +kernel

theorem witness_tiles :
    presents ((beforeStep1 []).lane .b) ∧ ((beforeStep1 []).lane .b).link.state = .locked ∧
      presents ((unlinked none).lane .b) ∧ ((unlinked none).lane .b).link.state ≠ .locked ∧
      (heldB.lane .b).state ≠ .playing ∧ (heldB.lane .b).link.state = .locked ∧
      (((withB { heldB.lane .b with link := initialLink } heldB).lane .b).link.state ≠ .locked) := by
  decide +kernel

/-- Tile 459 is lit by a cue at its corner; a lane outside PLAYING clears every tile of its map. -/
theorem test_tiles :
    tileLit [⟨.one, 896, 256, workedCue⟩] 0 459 = true ∧
      let s := withB { heldB.lane .b with overlay := { initialOverlay with tileMap := [427, 459] } } heldB
      let x := (after (.frameBoundary .b) s).lane .b
      x.overlay.tileMap = [] ∧
        (match x.link.forward with
          | .frame r => r.tiles
          | _ => []) = [.clear 427, .clear 459] := by decide +kernel

/-- Lane B at its last show frame with a REEL_END hold of the last reel pending. -/
def lastFrame : State :=
  withB { playing 2999 with hold := some ⟨.operatorReelEnd, .reelEnd 3, 1⟩ } licensed

theorem witness_completes :
    presents (lastFrame.lane .b) ∧ (lastFrame.lane .b).loaded = some (showOf keyedPlan) ∧
      (showOf keyedPlan).total ≤ (lastFrame.lane .b).p + 1 ∧ (lastFrame.lane .b).tally.phase = .running ∧
      (lastFrame.lane .b).hold = some ⟨.operatorReelEnd, .reelEnd (showOf keyedPlan).reels.length, 1⟩ ∧
      cueTableOf (lastFrame.lane .b) = none ∧ isReelStart (showOf keyedPlan) (lastFrame.lane .b).p = false ∧
      (lastFrame.lane .b).link.state ≠ .testing ∧ shapeOk lastFrame ∧ ringRoom 1 lastFrame := by decide +kernel

theorem test_show_completes :
    let t := after (.frameBoundary .b) lastFrame
    let x := t.lane .b
    (x.state, x.lastCause, x.p, x.hold) = (.ended, .complete, 3000, none) ∧
      memReadBytes t.host.mem 0x2004 2 = [6, 1] ∧
      memReadBytes t.host.mem 0x2010 12 = [0xB8, 11, 0, 0, 5, 0, 0, 0, 1, 0, 0, 0] := by decide +kernel

/-- Lane B under STRICT with the head for P poisoned, track frame 548 of reel 2. -/
def poisonedHead : State :=
  withB { playing 1500 with
    options := { defaultOptions with integrity := .strict }
    tracks := ⟨track [⟨⟨2, 548⟩, 1500, .poisoned .malformed⟩] none, emptyTrack, emptyTrack⟩ } licensed

theorem witness_strict_fault :
    poisonedHead.clockUnit.source ≠ .acquiring ∧ (poisonedHead.lane .b).state = .playing ∧
      holdDue (poisonedHead.lane .b) = false ∧
      presentFault (poisonedHead.lane .b) = some (.malformed, .picture, 548) ∧
      (poisonedHead.lane .b).tally.phase = .running ∧ (poisonedHead.lane .b).link.state = .locked := by
  decide +kernel

theorem test_strict_fault :
    let x := (after (.frameBoundary .b) poisonedHead).lane .b
    (x.state, x.lastCause, x.p) = (.fault, .fault, 1500) ∧
      x.sound.applied = List.replicate 24 .mute ∧
      x.faultRecord.map (fun r => (r.cause, r.p, r.track, r.frame, r.licences)) =
        some (.malformed, 1500, .picture, 548, [7001]) := by decide +kernel

/-- R147, R150: the last sample instants before a boundary that takes FAULT are played and held, and the lines
carry zero after it. -/
theorem test_strict_fault_samples :
    let s := withB { poisonedHead.lane .b with
      sound :=
        { (poisonedHead.lane .b).sound with
          period := [1000000, -3] :: List.replicate 23 [], periodLen := 2
          applied := List.replicate 24 (.level 0) } } poisonedHead
    let x := (after (.frameBoundary .b) s).lane .b
    (x.state, x.sound.outLen, playedSlot x 1 0 0, playedSlot x 1 0 1, lineSlot x 1 0 0) =
      (.fault, 2, ⟨true, 256000000⟩, ⟨true, 0xFFFFFD00⟩, ⟨true, 0⟩) := by decide +kernel

theorem witness_testRecords :
    ∀ q ∈ [(1, 8), (0, 2)], ((testing q.1 q.2).lane .b).state = .ended ∧
      ((testing q.1 q.2).lane .b).link.state = .testing ∧
      ((testing q.1 q.2).lane .b).link.test.left = q.1 ∧ 1 < ((testing q.1 q.2).lane .b).link.test.settle := by
  decide +kernel

theorem witness_testRecords_lists :
    ∀ q ∈ [(1, 8), (0, 2)], listOk ((testing q.1 q.2).lane .b) ∧ windowOk ((testing q.1 q.2).lane .b) := by
  intro q hq
  simp only [List.mem_cons, List.not_mem_nil, or_false] at hq
  rcases hq with rfl | rfl <;> exact ⟨⟨by decide, trivial, by decide⟩, by decide⟩

theorem test_testRecords :
    ((after (.frameBoundary .b) (testing 1 8)).lane .b).link.test =
        ⟨0, 8, 0, [(10, false), (11, true), (12, false)]⟩ ∧
      ((after (.frameBoundary .b) (testing 0 2)).lane .b).link.test.settle = 1 ∧
      ((after (.linkTestComplete .b) (testing 0 1)).lane .b).link.forward = .training true := by decide +kernel

/-! ## Clocks and ticks -/

theorem witness_firing :
    (armedB.lane .b).state = .armed ∧ (armedB.lane .b).startSecond = some 1001 ∧
      1001 ≤ min (2 ^ 40 - 1) (armedB.licences.clock + 1) ∧
      ∀ m ∈ [LaneId.a, .c, .d], (armedB.lane m).state ≠ .armed := by decide +kernel

/-- The part as R13 judges it at the second event that fires lane B. -/
def judgedB : State :=
  { armedB with
    licences :=
      { armedB.licences with
        clock := 1001, records := recordsEvaluated true 1001 armedB.licences.records } }

theorem witness_firing_granted : mayStart .b judgedB :=
  may_start .b judgedB licence7001 ⟨7001, 3000, 2100, 0, .pending⟩ (by decide +kernel) rfl (by decide +kernel) (by decide +kernel)

theorem witness_firing_refused : ¬ mayStart .b (stopPressed judgedB) := fun h =>
  absurd h.1 (by decide +kernel)

theorem test_firing :
    let t := after .secondEvent armedB
    (t.licences.clock, (t.lane .b).state) = (1001, .playing) ∧
      ((after (.startAtFiring .b) (stopPressed armedB)).lane .b).state = .ready ∧
      ((after (.startAtFiring .b) (withB { armedB.lane .b with startSecond := some 1002 } armedB)).lane
        .b).state = .armed := by decide +kernel

theorem test_window_edge_at_a_second :
    let s := modLicences (fun t => { t with clock := 4999 }) licensed
    (findLicence (after .secondEvent s).licences.records 7001).map Licence.state = some .closed ∧
      (after .secondEvent (modLicences (fun t => { t with clock := 2 ^ 40 - 1 }) base)).licences.clock =
        2 ^ 40 - 1 := by decide +kernel

/-- Lane B STOPPING with every output at a gain, the targets mute. -/
def fading (v : Int) : State :=
  withB { loaded .stopping 1500 with
    lastCause := .operator
    sound := { mapped with applied := List.replicate 24 (.level v) } } base

theorem witness_ticks :
    onAir.clockUnit.source ≠ .acquiring ∧ (onAir.lane .b).state ≠ .stopping ∧
      ((fading (-888)).lane .b).state = .stopping ∧ fadeDue .b (fading (-888)) = false ∧
      ((fading (-889)).lane .b).sound.applied.length = ((fading (-889)).lane .b).sound.target.length ∧
      (∀ w ∈ ((fading (-889)).lane .b).sound.target, w = .mute) ∧
      (-889 : Int) - ((fading (-889)).lane .b).options.fadeRate ≤ -890 := by decide +kernel

theorem test_fade_completes :
    ((after (.fadeComplete .b) (fading (-889))).lane .b).state = .ended ∧
      ((after (.fadeComplete .b) (fading (-889))).lane .b).lastCause = .operator ∧
      ((after (.millisecondTick .b) (fading (-888))).lane .b).sound.applied =
        List.replicate 24 (.level (-889)) ∧
      ((after (.fadeComplete .b) (fading (-888))).lane .b).state = .stopping := by decide +kernel

/-- Lane B playing with main channel 1 on output 1 at gain 0, a period of four samples going out. -/
def sounding : State :=
  withB { playing 5 with
    sound :=
      { (playing 5).sound with
        period := [1000000, -3, 7, 9] :: List.replicate 23 [], periodLen := 4, tickLen := 3 } } licensed

/-- Sound Rendering, THE TDM LINES: each sample instant of a tick in its slot, the frame sync at slot 0; and
zero on every line from a mute at once on, with what was played before it held. -/
theorem test_lines :
    let x := (after (.millisecondTick .b) sounding).lane .b
    let y := (after (.unload .b rq) (after (.millisecondTick .b) sounding)).lane .b
    (x.sound.periodPos, x.sound.outLen) = (3, 3) ∧
      (lineSlot x 1 0 0, lineSlot x 1 0 1, lineSlot x 1 1 0) =
        (⟨true, 256000000⟩, ⟨true, 0xFFFFFD00⟩, ⟨false, 0⟩) ∧
      (lineInstant x 1 3, (lineInstant x 3 2).map List.length) = (none, some 8) ∧
      (lineSlot y 1 0 0, playedSlot y 1 0 0, y.sound.outLen) = (⟨true, 0⟩, ⟨true, 256000000⟩, 3) := by
  decide +kernel

/-- Sound Rendering: at +12.0 dB a sample of 3,000,000 saturates, counts and sets CLIP, at a tick and at the
end of the period. -/
theorem test_clips :
    let loud := withB { sounding.lane .b with
      sound :=
        { (sounding.lane .b).sound with
          period := [3000000, 0, 0, -3000000] :: List.replicate 23 []
          applied := List.replicate 24 (.level 120) } } sounding
    let x := (after (.millisecondTick .b) loud).lane .b
    let y := (after (.frameBoundary .b) loud).lane .b
    (x.sound.clipCount, x.indicators.held, lineSlot x 1 0 0) = (1, 8, ⟨true, 0x7FFFFF00⟩) ∧
      (y.sound.clipCount, y.indicators.held &&& 8, lineSlot y 1 0 3) = (2, 8, ⟨true, 0x80000000⟩) := by
  decide +kernel

/-! ## The building inputs -/

/-- The stop contact of the manual, input 3: its filter, with the input ticks so far, lane A playing
nothing. -/
def stopContact (f : InputFilter) (ticks : Nat) (s : State) : State :=
  { s with
    inputTicks := ticks
    inputs := (List.replicate 8 ⟨initialInput.settings, { initialInput.filter with fresh := false, level := .inactive }⟩).set 3
      ⟨⟨.emergency, 1, .activeClosed, 20⟩, f⟩ }

/-- The filter of the manual at ticks 1,019, 1,419 and 2,699. -/
def filterAt (raw : Bool) (stable : Nat) (chatter : Bool) (history : List Nat) : InputFilter :=
  ⟨raw, false, stable, .inactive, chatter, history⟩

/-- The filter of a restarted input, its last raw sample active (R168). -/
def restarted : InputFilter := { filterAt true 700 false [] with fresh := true, level := .unknown }

theorem witness_inputTick :
    ∀ f ∈ [filterAt true 18 false [], filterAt true 998 true [], restarted],
      let s := stopContact f 1018 base
      s.clockUnit.source ≠ .acquiring ∧ s.inputs.length = 8 ∧
        ∀ i < 8, (s.inputs[i]?.map fun x => decide (onlySampled ((8 : BitVec 8).getLsbD i) x)) =
          some true := by decide +kernel

/-- R165, R166: the tick that reaches the debounce, and the 1,000th in CHATTERING, do more. -/
theorem witness_inputTick_boundary :
    ∀ f ∈ [filterAt true 19 false [], filterAt true 999 true []],
      ((stopContact f 1018 base).inputs[3]?.map fun x => decide (onlySampled true x)) = some false := by
  decide +kernel

/-- R168: the first sample after a restart is taken afresh, and the stable count begins at it. -/
theorem test_restarted_input :
    let t := after (.inputTick 8) (stopContact restarted 1018 base)
    t.inputs[3]?.map Input.filter = some { restarted with fresh := false, stable := 0 } ∧
      ((after (.inputTick 8) (stopContact (filterAt true 998 true []) 1018 base)).inputs[3]?.map
        fun x => (x.filter.stable, x.filter.chattering)) = some (999, true) := by decide +kernel

theorem witness_debounce :
    ∀ q ∈ [([], 1019), ([1020, 1120, 1220, 1320], 1419), ([1, 2, 3, 420], 1419)],
      let s := stopContact (filterAt true 19 false q.1) q.2 base
      s.inputs[3]? = some ⟨⟨.emergency, 1, .activeClosed, 20⟩, filterAt true 19 false q.1⟩ ∧
        s.inputs.length = 8 ∧ readContact .activeClosed ((8 : BitVec 8).getLsbD 3) = true ∧
        20 ≤ min 1000 (19 + 1) ∧ levelOf true ≠ .inactive := by decide +kernel

theorem witness_chatterLeft :
    (stopContact (filterAt false 999 true []) 2699 base).inputs[3]? =
        some ⟨⟨.emergency, 1, .activeClosed, 20⟩, filterAt false 999 true []⟩ ∧
      readContact .activeClosed ((0 : BitVec 8).getLsbD 3) = false ∧ levelOf false = .inactive ∧
      levelOf true ≠ .inactive := by decide +kernel

/-- The input 3 of the manual at its debounce, and leaving CHATTERING with a change of level. -/
def changing : List (State × BitVec 8 × List FilterEvent) :=
  [(stopContact (filterAt true 19 false []) 1019 onAir, 8, [⟨.accepted, .inactive, .active⟩]),
    (stopContact (filterAt true 19 false [1, 2, 3, 420]) 900 onAir, 8,
      [⟨.chatterEntered, .inactive, .inactive⟩]),
    (stopContact (filterAt true 999 true []) 2699 onAir, 8,
      [⟨.chatterLeft, .inactive, .inactive⟩, ⟨.accepted, .inactive, .active⟩]),
    (stopContact (filterAt false 999 true []) 2699 onAir, 0, [⟨.chatterLeft, .inactive, .inactive⟩])]

theorem witness_handedOn :
    ∀ q ∈ changing,
      (∀ j < 8, j ≠ 3 → nextEvents q.1 j q.2.1 = []) ∧ nextEvents q.1 3 q.2.1 = q.2.2 ∧ shapeOk q.1 ∧
        ringRoom q.2.2.length q.1 ∧ q.1.device ≠ .halted ∧
        (q.1.inputs[3]?.map fun x => x.settings.function) = some .emergency := by decide +kernel

/-- What input 3's filter is after a command. -/
def filter3 (t : State) : Option (InputLevel × Bool × List Nat) :=
  t.inputs[3]?.map fun x => (x.filter.level, x.filter.chattering, x.filter.history)

/-- Booth Automation, A CHATTERING STOP CONTACT, ticks 1,020, 1,420 and 2,700. -/
theorem test_stop_contact_of_the_manual :
    filter3 (after (.inputTick 8) (stopContact (filterAt true 19 false []) 1019 base)) =
        some (.active, false, [1020]) ∧
      filter3 (after (.inputDebounceAccept 3 8)
        (stopContact (filterAt true 19 false [1020, 1120, 1220, 1320]) 1419 base)) =
        some (.inactive, true, []) ∧
      filter3 (after (.chatterLeft 3 0) (stopContact (filterAt false 999 true []) 2699 base)) =
        some (.inactive, false, []) ∧
      filter3 (after (.chatterLeft 3 8) (stopContact (filterAt true 999 true []) 2699 base)) =
        some (.active, false, [2700]) := by decide +kernel

theorem test_stop_contact_ends_the_run :
    let s := { stopContact (filterAt true 19 false []) 1019 onAir with
      lanes := ⟨{ playing 500 with contacts := 3, options := { defaultOptions with emergencyMask := 1 } },
        initialLane, initialLane, initialLane⟩ }
    let x := (after (.inputTick 8) s).lane .a
    (x.state, x.lastCause, x.contacts) = (.ended, .emergency, 2) := by decide +kernel

/-- An exit from CHATTERING that changes the level: both INPUT entries, and the lane of the mask stopped. -/
theorem test_exit_with_a_change :
    let s := { stopContact (filterAt true 999 true []) 2699 onAir with
      lanes := ⟨playing 500, initialLane, initialLane, initialLane⟩ }
    let t := after (.chatterLeft 3 8) s
    memReadBytes t.host.mem 0x2004 1 = [12] ∧
      memReadBytes t.host.mem 0x2014 12 = [3, 0, 0, 0, 3, 0, 0, 0, 2, 0, 0, 0] ∧
      memReadBytes t.host.mem 0x2034 12 = [3, 0, 0, 0, 3, 0, 0, 0, 0, 0, 0, 0] ∧
      (t.lane .a).state = .ended := by decide +kernel

theorem witness_acceptedInputs :
    onAir.device ≠ .halted ∧ (2 : BitVec 4).getLsbD (laneIndex .b) = true ∧
      (2 : BitVec 4).getLsbD (laneIndex .a) = false ∧ inRunStates (onAir.lane .b).state = true ∧
      (armedB.lane .b).state = .armed := by decide +kernel

/-! ## The fetch engine -/

/-- Lane B of the manual's late chunk at P = 500: PICTURE at 504, MAIN well ahead, its map entry for 504 as
given (length and flags). -/
def late (len : Nat) (flags : Byte) : State :=
  stored (0x20000 + 16 * 504) (le 8 0x60000 ++ le 4 len ++ [flags])
    (withB
      { loaded .playing 500 with
        tracks :=
          ⟨track ((List.range 4).map fun i => entryOf (500 + i) picture) (some ⟨1, 504⟩),
            track ((List.range 11).map fun i => entryOf (500 + i) picture) (some ⟨1, 511⟩), emptyTrack⟩ }
      base)

theorem witness_grant :
    (late 20 1).device = .running ∧ (late 20 1).engine.flight = none ∧
      grantLane (late 20 1) = some .b ∧ essenceWork (late 20 1) .b = some .picture ∧
      subtitleWork (late 20 1) .b = none ∧ ((late 20 1).lane .b).loaded = some show3 ∧
      (((late 20 1).lane .b).tracks.get .picture).fetch = some ⟨1, 504⟩ ∧
      positionPlan show3 .picture ⟨1, 504⟩ = some clearPlan :=
  ⟨by decide +kernel, rfl, by decide +kernel, by decide +kernel, by decide +kernel, rfl, rfl, rfl⟩

theorem witness_grant_entries :
    hostRead (readFailing 0x21F8F 1 (late 20 1)).host (0x20000 + 16 * 504) 16 = none ∧
      (∃ bs, hostRead (late 20 0).host (0x20000 + 16 * 504) 16 = some bs ∧
        (bs.getD 12 0).getLsbD 0 = false) ∧
      (∃ bs, hostRead (late 19 1).host (0x20000 + 16 * 504) 16 = some bs ∧
        (bs.getD 12 0).getLsbD 0 = true ∧
        essenceLengthOk .picture clearPlan (lanePeriod ((late 19 1).lane .b)) (field bs 8 4) = false) ∧
      ∃ bs, hostRead (late 20 1).host (0x20000 + 16 * 504) 16 = some bs ∧
        (bs.getD 12 0).getLsbD 0 = true ∧
        essenceLengthOk .picture clearPlan (lanePeriod ((late 20 1).lane .b)) (field bs 8 4) = true :=
  ⟨by decide +kernel, ⟨_, rfl, by decide +kernel⟩, ⟨_, rfl, by decide +kernel⟩, ⟨_, rfl, by decide +kernel⟩⟩

/-- The Unpacker, A CHUNK THAT IS LATE, step 1; and the same grant with the chunk resident. -/
theorem test_grants_of_the_manual :
    let x := (after .fetchGrant (late 20 0)).lane .b
    (x.tracks.picture.waiting, x.tracks.picture.wanted) = (true, some ⟨1, 504, true⟩) ∧
      (after .fetchGrant (late 20 1)).engine =
        ⟨.c, some ⟨.b, 0, .essence .picture ⟨1, 504⟩, 0x60000, 20⟩⟩ ∧
      ((after .fetchGrant (late 19 1)).lane .b).tracks.picture.queue.getLast? =
        some (entryOf 504 (.poisoned .malformed)) := by decide +kernel

/-- Lane B's SUBTITLE_1 store asking for its first chunk, the map entry as given, a wanted record held. -/
def asking (len : Nat) (flags : Byte) (w : Option Wanted) : State :=
  let r := { reelWith 1000 0 clearPlan with subtitles := ⟨some { clearPlan with chunks := 2 }, none⟩ }
  stored 0x20000 (le 8 0x60000 ++ le 4 len ++ [flags])
    (withB
      { loaded .playing 500 with
        loaded := some ⟨24, 48000, 0, 0, 1000, [r]⟩, subWanted := ⟨w, none⟩
        overlay := { initialOverlay with current1 := { noStore with reel := 1, state := .fetching } } }
      base)

theorem witness_subtitleGrant :
    let s := asking 17 1 none
    (s.device, s.engine.flight, grantLane s) = (.running, none, some .b) ∧
      subtitleWork s .b = some .current1 ∧ essenceWork s .b = none ∧
      (storePlan (s.lane .b) .current1).map TrackPlan.chunkMap = some 0x20000 ∧
      hostRead (readFailing 0x2000F 1 s).host 0x20000 16 = none ∧
      (∀ q ∈ [(16, 1), (17, 1), (4194304, 1), (4194305, 1), (17, 0)],
        (hostRead (asking q.1 (BitVec.ofNat 8 q.2) none).host 0x20000 16).map
          (fun bs => ((bs.getD 12 0).getLsbD 0, field bs 8 4)) = some (decide (q.2 = 1), q.1)) ∧
      (((asking 17 0 (some ⟨2, 0, false⟩)).lane .b).subWanted.get (placeTrack .current1)).any
        (fun w => decide (w.reel ≠ 1)) = true := by decide +kernel

theorem test_subtitleGrants :
    let st := fun (t : State) => (t.lane .b).overlay.current1
    (after .fetchGrant (asking 17 1 none)).engine.flight =
        some ⟨.b, 0, .subtitle .one 1 0, 0x60000, 17⟩ ∧
      ((st (after .fetchGrant (asking 16 1 none))).state, (st (after .fetchGrant (asking 16 1 none))).loss) =
        (.lost, .chunk) ∧
      (st (after .fetchGrant (asking 17 0 none))).waiting = true ∧
      ((after .fetchGrant (asking 17 0 none)).lane .b).subWanted.one.map (fun w => (w.reel, w.frame)) =
        some (1, 0) ∧
      ((after .fetchGrant (asking 17 0 (some ⟨2, 0, false⟩))).lane .b).subWanted.one =
        some ⟨2, 0, false⟩ := by decide +kernel

/-- A picture chunk of one unit of three bytes, with its check value. -/
def pictureChunk : List Byte := [1, 0, 0, 0, 3, 0, 0, 0, 9, 8, 7] ++ zeros 16

/-- The late picture in flight. -/
def inFlight (generation : Nat) : State :=
  stored 0x60000 pictureChunk
    { late 27 1 with engine := ⟨.c, some ⟨.b, generation, .essence .picture ⟨1, 504⟩, 0x60000, 27⟩⟩ }

/-- A main sound chunk in flight: 6,000 bytes of samples and 16 of check value. -/
def soundInFlight : State :=
  { inFlight 0 with engine := ⟨.c, some ⟨.b, 0, .essence .main ⟨1, 511⟩, 0x60000, 6016⟩⟩ }

theorem witness_completion :
    (inFlight 0).engine.flight = some ⟨.b, 0, .essence .picture ⟨1, 504⟩, 0x60000, 27⟩ ∧
      (0 : Nat) = ((inFlight 0).lane .b).generation ∧ (1 : Nat) ≠ ((inFlight 1).lane .b).generation ∧
      positionPlan show3 .picture ⟨1, 504⟩ = some clearPlan ∧
      ((inFlight 0).lane .b).p ≤ positionFrame show3 ⟨1, 504⟩ ∧
      positionFrame show3 ⟨1, 499⟩ < ((inFlight 0).lane .b).p ∧
      hostRead (readFailing 0x6001A 1 (inFlight 0)).host 0x60000 27 = none ∧
      (hostRead (inFlight 0).host 0x60000 27).isSome = true ∧
      positionPlan show3 .main ⟨1, 511⟩ = some clearPlan ∧ clearPlan.key = none ∧
      ((soundInFlight.lane .b).p ≤ positionFrame show3 ⟨1, 511⟩) :=
  ⟨rfl, rfl, by decide +kernel, rfl, by decide +kernel, by decide +kernel, by decide +kernel, by decide +kernel, rfl, rfl, by decide +kernel⟩

theorem test_completions :
    let q := fun (t : State) => (t.lane .b).tracks.picture.queue.getLast?
    q (after (.fetchCompletion true []) (inFlight 0)) =
        some (entryOf 504 (.ready (.picture [[9, 8, 7]]))) ∧
      q (after (.fetchCompletion false []) (inFlight 0)) = some (entryOf 504 (.poisoned .integrity)) ∧
      q (after (.fetchCompletion true []) (inFlight 1)) = some (entryOf 503 picture) ∧
      (after (.fetchCompletion true []) (inFlight 0)).engine.flight = none := by decide +kernel

/-- The late picture in flight from a keyed track. -/
def keyedInFlight : State :=
  withB { (inFlight 0).lane .b with loaded := some (showOf keyedPlan) } (inFlight 0)

theorem witness_content :
    positionPlan (showOf keyedPlan) .picture ⟨1, 504⟩ = some keyedPlan ∧
      (field (pictureChunk.take 11) 0 1 = 1 ∧ 1 ≤ field (pictureChunk.take 11) 4 4 ∧
        4 + 4 * 1 + field (pictureChunk.take 11) 4 4 = (pictureChunk.take 11).length) ∧
      field (2 :: (pictureChunk.take 11).drop 1) 0 1 ≠ 1 := by decide +kernel

theorem test_content :
    let q := fun (t : State) => ((t.lane .b).tracks.picture.queue.getLast?).map QueueEntry.body
    q (after (.fetchCompletion true [1, 0, 0, 0, 3, 0, 0, 0, 1, 2, 3]) keyedInFlight) =
        some (.ready (.picture [[1, 2, 3]])) ∧
      q (after (.fetchCompletion true []) (stored 0x60000 [2] (inFlight 0))) =
        some (.poisoned .malformed) := by decide +kernel

/-- A show whose reel 1 has SUBTITLE_1 in two chunks, lane B playing it with the store asked for. -/
def subtitled : State :=
  let r := { reelWith 1000 0 clearPlan with subtitles := ⟨some { clearPlan with chunks := 2 }, none⟩ }
  stored 0x60000 (List.replicate 27 5)
    { withB
        { loaded .playing 500 with
          loaded := some ⟨24, 48000, 0, 0, 1000, [r]⟩
          overlay := { initialOverlay with current1 := { noStore with reel := 1, state := .fetching } } }
        base with
      engine := ⟨.c, some ⟨.b, 0, .subtitle .one 1 0, 0x60000, 27⟩⟩ }

theorem witness_subtitleChunk :
    subtitled.engine.flight = some ⟨.b, 0, .subtitle .one 1 0, 0x60000, 27⟩ ∧
      hasFetchWork (subtitled.lane .b).state = true ∧
      allPlaces.find? (servesStore (subtitled.lane .b) .one 1) = some .current1 ∧
      (storePlan (subtitled.lane .b) .current1).map TrackPlan.chunks = some 2 ∧
      (storePlan (subtitled.lane .b) .current1).map TrackPlan.key = some none ∧
      hostRead subtitled.host 0x60000 27 = some (List.replicate 27 5) ∧
      ((getStore (subtitled.lane .b).overlay .current1).received ++
        (List.replicate 27 (5 : Byte)).take 11).length < 104 ∧
      (getStore (subtitled.lane .b).overlay .current1).headerJudged = false ∧
      (getStore (subtitled.lane .b).overlay .current1).fetchChunk + 1 < 2 := by decide +kernel

theorem test_subtitleChunk :
    let st := fun (t : State) => (t.lane .b).overlay.current1
    ((st (after (.subtitleChunkCompletion true []) subtitled)).state,
        (st (after (.subtitleChunkCompletion true []) subtitled)).fetchChunk,
        (st (after (.subtitleChunkCompletion true []) subtitled)).received.length) = (.fetching, 1, 11) ∧
      ((st (after (.subtitleChunkCompletion false []) subtitled)).state,
        (st (after (.subtitleChunkCompletion false []) subtitled)).loss) = (.lost, .chunk) := by decide +kernel

/-- A subtitle container of length `size` with one cue of 2 by 2 pixels, in at 0 and out at 1,000
milliseconds, its bitmap at the start of its area. -/
def container (size : Nat) : List Byte :=
  le 4 size ++ le 2 1 ++ zeros 2 ++ List.replicate 96 0xFF ++
    (le 2 7 ++ [3, 0] ++ le 4 0 ++ le 4 1000 ++ zeros 8 ++ le 2 10 ++ le 2 20 ++ le 2 2 ++ le 2 2 ++ zeros 4) ++
    [1, 2, 3, 4]

/-- A chunk of the subtitle store of lane B in flight, of a track of one chunk or two. -/
def arriving (chunks : Nat) (content : List Byte) : State :=
  let r := { reelWith 1000 0 clearPlan with subtitles := ⟨some { clearPlan with chunks := chunks }, none⟩ }
  stored 0x60000 (content ++ List.replicate 16 5)
    { withB
        { loaded .playing 500 with
          loaded := some ⟨24, 48000, 0, 0, 1000, [r]⟩
          overlay := { initialOverlay with current1 := { noStore with reel := 1, state := .fetching } } }
        base with
      engine := ⟨.c, some ⟨.b, 0, .subtitle .one 1 0, 0x60000, content.length + 16⟩⟩ }

theorem witness_chunkTaken :
    ((container 140).length = 140 ∧ field (container 140) 4 2 = 1 ∧ field (container 140) 0 4 = 140) ∧
      (∀ q ∈ [(1, (container 140).take 103), (2, (container 140).take 103), (1, container 135),
          (1, container 139), (1, container 141), (2, (container 140).take 135),
          (2, (container 140).take 136), (1, container 140)],
        let s := arriving q.1 q.2
        (hostRead s.host 0x60000 (q.2.length + 16)).map (fun bs => bs.take (bs.length - 16)) = some q.2 ∧
          allPlaces.find? (servesStore (s.lane .b) .one 1) = some .current1 ∧
          (storePlan (s.lane .b) .current1).map (fun p => (p.chunks, p.key)) = some (q.1, none) ∧
          (getStore (s.lane .b).overlay .current1).headerJudged = false ∧
          ((s.lane .b).loaded.bind fun sh => nthReel sh 1) ≠ none) ∧
      (135 < 104 + 32 * 1 ∧ 104 + 32 * 1 ≤ 139 ∧ 139 < 140 ∧ 140 < 141) := by decide +kernel

theorem witness_windows_and_stores :
    everyLane windowOk (closingB 7) ∧ hasMark ((closingB 7).lane .b).link.awaiting = true ∧
      (∀ n ∈ [1, 2], everyLane storesOk (arriving n (container 140))) ∧
      everyLane storesOk (after (.subtitleChunkCompletion true []) (arriving 2 ((container 140).take 136))) := by
  decide +kernel

/-- Subtitle Overlay, the container: header, excess, shortage, records, and DECODED. -/
theorem test_containers :
    let st := fun (t : State) => (t.lane .b).overlay.current1
    let state := fun (n : Nat) (bs : List Byte) =>
      let x := st (after (.subtitleChunkCompletion true []) (arriving n bs))
      (x.state, x.loss, x.cues.length)
    state 1 ((container 140).take 103) = (.lost, .container, 0) ∧
      state 1 (container 135) = (.lost, .container, 0) ∧ state 1 (container 139) = (.lost, .container, 0) ∧
      state 1 (container 141) = (.lost, .container, 0) ∧
      state 2 ((container 140).take 135) = (.fetching, .none, 0) ∧
      state 2 ((container 140).take 136) = (.fetching, .none, 1) ∧
      state 1 (container 140) = (.decoded, .none, 1) ∧
      (st (after (.subtitleChunkCompletion true []) (arriving 1 (container 140)))).cues =
        [⟨7, 0, 24, 0, 0, 10, 20, 2, 2, 3, 0, [1, 2, 3, 4]⟩] := by decide +kernel

/-- Subtitle Overlay, TWO STORES AND THE BITMAP MEMORY: sixteen cues of 115,200 bytes in 1,694,304 free. -/
theorem test_allocation_of_the_manual :
    let cue := fun (n w h : Nat) => { workedCue with number := n, w := w, h := h }
    ((allocate 1694304 ((List.range 16).map fun i => cue (i + 1) 1200 96)).length,
      (allocate 81504 [cue 1 640 80, cue 2 640 80, cue 3 200 100]).length) = (14, 1) := by decide +kernel

/-! ## The projector link -/

/-- The manual's list at its step 7: sequence numbers 0 to 7, the counter at 8, one unseen so far 2. -/
def eightWaiting : State :=
  modLink .b (fun k => { k with unseen := 2, late := 1, errorCount := 1 })
    (listed ((List.range 8).map fun i => sentFrame i (4999 + i)) 8 (withB (longLane []) licensed))

theorem witness_link :
    ((eightWaiting).lane .b).link.state = .locked ∧ (eightWaiting.lane .b).link.awaiting ≠ [] ∧
      ((testing 2 8).lane .b).link.state = .testing ∧ (base.lane .b).link.state = .down ∧
      ((modLink .b (fun k => { k with state := .training }) base).lane .b).link.state = .training := by
  decide +kernel

/-- Projector Link, A LOST LOCK DURING PLAY, steps 5 and 7. -/
theorem test_lost_lock_of_the_manual :
    let x := (after (.lockLost .b) eightWaiting).lane .b
    (x.link.state, x.link.unseen, x.link.headStatus, x.link.awaiting) = (.training, 10, .unknown, []) ∧
      (x.state, x.p, x.link.seq) = (.playing, 5000, 8) ∧
      ((after (.frameBoundary .b)
        (modLink .b (fun k => { k with unseen := 1 }) eightWaiting)).lane .b).link.awaiting.map
          Awaiting.seq = [1, 2, 3, 4, 5, 6, 7, 8] := by decide +kernel

theorem test_line_faults :
    let k := fun (t : State) => (t.lane .b).link
    ((k (after (.lineFaultDetected .b .crossed) eightWaiting)).state,
        (k (after (.lineFaultDetected .b .crossed) eightWaiting)).faultKind) = (.down, some .crossed) ∧
      (k (after (.lineGood .b) base)).state = .training ∧
      (k (after (.lineGood .b) base)).forward = .training false ∧
      (k (after (.lockAchieved .b) (after (.lineGood .b) base))).lockFlag = true ∧
      (k (after (.lockAchieved .b) (after (.lineGood .b) base))).forward = .training true ∧
      (k (after (.lineFaultDetected .b .short) (testing 2 8))).heldTest = ⟨.fail, 1, 2⟩ := by decide +kernel

/-- Lane B's link TRAINING with the lock flag set, a run on. -/
def relocking (heads : List Word64) : State :=
  modLicences (fun t => { t with records := [some { licence7001 with heads := heads }] })
    (modLink .b (fun k => { k with state := .training }) onAir)

theorem witness_headIdentity :
    ((relocking []).lane .b).link.state = .training ∧ ((relocking []).lane .b).link.lockFlag = true ∧
      inRunStates ((relocking []).lane .b).state = true ∧
      findLicence (relocking [5]).licences.records 7001 = some { licence7001 with heads := [5] } ∧
      permitsHead { licence7001 with heads := [5] } (some 6) = false ∧
      permitsHead licence7001 (some 6) = true ∧
      (((relocking [5]).lane .b).tally.entries.map fun e => (e.licence, entryHeld e)) = [(7001, true)] ∧
      ((onAir).lane .b).link.state = .locked := by decide +kernel

theorem test_headIdentity_judged :
    let x := (after (.headIdentityReport .b 6) (relocking [5])).lane .b
    let y := (after (.headIdentityReport .b 6) (relocking [])).lane .b
    (x.link.state, x.state, x.lastCause) = (.locked, .ended, .headChanged) ∧
      (y.link.state, y.state, y.link.headId) = (.locked, .playing, some 6) ∧
      ((after (.headStatusReport .b false) onAir).lane .b).link.headStatus = .notReady ∧
      after (.headStatusReport .b true) (testing 1 8) = testing 1 8 := by
  refine ⟨?_, ?_, ?_, noteChanges_self _⟩ <;> decide +kernel

/-- Lane B on air on a LOCKED link with one record awaited, licence 7,001 permitting the heads given. -/
def lockedOn (heads : List Word64) : State :=
  modLicences (fun t => { t with records := [some { licence7001 with heads := heads }] })
    (listed [sentFrame 4 999] 5 onAir)

theorem witness_locked_identity :
    ((lockedOn []).lane .b).link.state = .locked ∧ ((lockedOn []).lane .b).link.headId = some 9 ∧
      ((lockedOn []).lane .b).link.headId ≠ some 6 ∧ ((lockedOn []).lane .b).link.awaiting ≠ [] ∧
      ((lockedOn []).lane .b).tally.phase ≠ .closing ∧ inRunStates ((lockedOn []).lane .b).state = true ∧
      findLicence (lockedOn [9]).licences.records 7001 = some { licence7001 with heads := [9] } ∧
      permitsHead { licence7001 with heads := [9] } (some 6) = false := by decide +kernel

theorem test_locked_identity :
    let x := (after (.headIdentityReport .b 6) (lockedOn [9])).lane .b
    let y := (after (.headIdentityReport .b 6) (lockedOn [])).lane .b
    after (.headIdentityReport .b 9) (lockedOn []) = lockedOn [] ∧
      (x.state, x.lastCause, x.link.headId, x.link.awaiting) = (.ended, .headChanged, some 6, []) ∧
      (y.state, y.link.state, y.link.headStatus, y.link.unseen) = (.playing, .locked, .unknown, 1) := by
  refine ⟨noteChanges_self _, ?_, ?_⟩ <;> decide +kernel

theorem witness_linkJournaled :
    ∀ s ∈ [base, ended, testing 0 1, testing 2 8, eightWaiting, relocking [], lockedOn []],
      shapeOk s ∧ ringRoom 1 s ∧ (s.lane .b).tally.phase ≠ .closing := by decide +kernel

/-- R108, R111, R113, R124 and Record Layouts, Journal detail: the words of LINK_STATE entries. -/
theorem test_linkState_words :
    let words := fun (t : State) => [0x2014, 0x2018, 0x201C].map fun a => fromLe (memReadBytes t.host.mem a 4)
    words (after (.linkTestComplete .b) (testing 0 1)) = [2, 1, 2] ∧
      words (after (.lockLost .b) (testing 2 8)) = [2, 1, 2] ∧
      words (after (.headIdentityReport .b 0x100000006) (lockedOn [])) = [6, 1, 1] ∧
      words (after (.headIdentityReport .b 0x100000006) (relocking [])) = [1, 2, 6] ∧
      words (after (.lineFaultDetected .b .crossed) eightWaiting) = [2, 0, 3] := by decide +kernel

/-- The manual's list at its step 2, the entry's confirmed count one short of its threshold or two. -/
def reported (confirmed : Nat) : State :=
  modTally .b (fun t => { t with entries := [⟨7001, 9000, 6300, confirmed, .reserved⟩] })
    (modLicences (fun t => { t with records := [some { licence7001 with inFlight := 1 }] })
      (beforeStep1 []))

theorem witness_shown :
    ((reported 6299).lane .b).link.state = .locked ∧
      ((reported 6299).lane .b).link.awaiting =
        [sentFrame 65533 4996] ++ sentFrame 65534 4997 :: [sentFrame 65535 4998, sentFrame 0 4999] ∧
      (sentFrame 65534 4997).seq = (65534 : BitVec 16).toNat ∧
      (∀ o ∈ [sentFrame 65533 4996], o.seq ≠ (65534 : BitVec 16).toNat) ∧
      ((reported 6299).lane .b).tally.phase = .running ∧
      creditSet ((reported 6299).lane .b) 4997 = [0] ∧
      ((reported 6299).lane .b).tally.entries[0]? = some ⟨7001, 9000, 6300, 6299, .reserved⟩ ∧
      (6300 : Nat) ≤ 6299 + 1 ∧ (6298 : Nat) + 1 < 6300 ∧
      (∀ e ∈ ((reported 6299).lane .b).link.awaiting, e.seq ≠ (3 : BitVec 16).toNat) := by decide +kernel

/-- Projector Link, A LOST LOCK DURING PLAY, steps 2 and 6; and the count of a showing. -/
theorem test_shown_of_the_manual :
    let x := (after (.shownReport .b 65534) (reported 0)).lane .b
    let t := after (.shownReport .b 65534) (reported 6299)
    (x.link.awaiting.map Awaiting.seq, x.link.unseen, x.tally.entries.map TallyEntry.confirmed) =
        ([65535, 0], 1, [1]) ∧
      (after (.shownReport .b 3) (reported 0)).lane .b =
        setIndicator .lateTally (((modLink .b (fun k => { k with late := 1 }) (reported 0))).lane .b) ∧
      (t.lane .b).tally.entries.map TallyEntry.status = [.counted] ∧
      (findLicence t.licences.records 7001).map (fun y => (y.counted, y.inFlight)) = some (13, 0) := by
  decide +kernel

/-- The list above with a tally of two licences, both credited by the reel. -/
def reportedTwo : State :=
  modTally .b (fun t =>
      { t with
        entries := [⟨7001, 9000, 6300, 6299, .reserved⟩, ⟨7002, 9000, 6300, 3, .reserved⟩], credit := [[0, 1]] })
    (modLicences (fun t =>
        { t with
          records :=
            [some { licence7001 with inFlight := 1 }, some { licence7001 with id := 7002, inFlight := 1 }] })
      (beforeStep1 []))

theorem witness_shown_elsewhere :
    (∀ s ∈ [relocking [], testing 1 8],
      decodesReports (s.lane .b).link = true ∧ (s.lane .b).link.state ≠ .locked) ∧
      creditSet (reportedTwo.lane .b) 4997 = [0, 1] ∧ (creditSet (reportedTwo.lane .b) 4997).Nodup ∧
      ((reportedTwo.lane .b).tally.entries.map TallyEntry.licence).Nodup ∧
      (reportedTwo.lane .b).link.awaiting =
        [sentFrame 65533 4996] ++ sentFrame 65534 4997 :: [sentFrame 65535 4998, sentFrame 0 4999] ∧
      ((closingB 3).lane .b).tally.phase = .closing ∧ ((closingB 3).lane .b).link.state = .locked ∧
      ((closingB 3).lane .b).link.awaiting = [] ++ sentFrame 4 2999 :: [] ∧ hasMark [] = false ∧
      (listed [⟨4, 2999, false, true⟩] 5 (closingB 3)).lanes.b.link.awaiting =
        [] ++ (⟨4, 2999, false, true⟩ : Awaiting) :: [] := by decide +kernel

/-- Showing Count: two licences of one reel, and a window that drains. -/
theorem test_shown_elsewhere :
    let t := after (.shownReport .b 65534) reportedTwo
    let u := after (.shownReport .b 4) (listed [⟨4, 2999, false, true⟩] 5 (closingB 3))
    ((t.lane .b).tally.entries.map fun n => (n.confirmed, n.status)) = [(6300, .counted), (4, .reserved)] ∧
      (t.licences.records.map fun r => r.map fun x => (x.counted, x.inFlight)) =
        [some (13, 0), some (12, 1)] ∧
      ((after (.shownReport .b 4) (relocking [])).lane .b).link.late = 1 ∧
      (u.lane .b).tally.phase = .closed ∧ u.licences.records = [some licence7001] := by decide +kernel

theorem witness_reports :
    decodesReports (onAir.lane .b).link = true ∧ decodesReports (base.lane .b).link = false ∧
      ((10 : BitVec 16).toNat, false) ∈ ((testing 1 8).lane .b).link.test.sent ∧
      ((11 : BitVec 16).toNat, false) ∉ ((testing 1 8).lane .b).link.test.sent ∧
      (onAir.lane .b).link.state ≠ .testing := by decide +kernel

theorem test_reports_are_counted :
    let k := fun (t : State) => (t.lane .b).link
    ((k (after (.badReport .b) onAir)).errorCount, (k (after (.badReport .b) onAir)).test.errors) =
        (1, 0) ∧
      (k (after (.badReport .b) (testing 1 8))).test.errors = 1 ∧
      (k (after (.testTallyReport .b 10 true) (testing 1 8))).test =
        ⟨1, 8, 0, [(10, true), (11, true)]⟩ ∧
      (k (after (.testTallyReport .b 11 true) (testing 1 8))).test.errors = 1 := by decide +kernel

end Sys2Proof.Machine.Tests
end

