-- ==== Sys2Proof/Proofs/Fades.lean ====
section
/-! The fade lengths of a cue (R40, R43): the bound that a day's milliseconds set on a length in frames, what
the proportional clamp answers on each side of its test, and that a decoded cue keeps the fitted lengths. -/
namespace Sys2Proof.Machine

theorem msToFrames_le_of_day {t rate : Nat} (ht : t ≤ 86400000) (hrate : rate ≤ 60) :
    msToFrames t rate ≤ 5184000 := by
  have hprod : t * rate ≤ 86400000 * 60 := Nat.mul_le_mul ht hrate
  unfold msToFrames
  omega

theorem fitFades_of_le {d fi fo : Nat} (h : fi + fo ≤ d) : fitFades d fi fo = (fi, fo) := if_pos h

theorem fitFades_of_lt {d fi fo : Nat} (h : d < fi + fo) :
    fitFades d fi fo = (fi * d / (fi + fo), d - fi * d / (fi + fo)) := if_neg h.not_ge

/-- The fade-in's share of a duration is at most the duration: its length is part of the lengths' sum. -/
theorem fadeInShare_le_duration (d fi fo : Nat) : fi * d / (fi + fo) ≤ d :=
  Nat.div_le_of_le_mul (Nat.mul_le_mul_right d (Nat.le_add_right fi fo))

theorem fitFades_fst_le (d fi fo : Nat) : (fitFades d fi fo).1 ≤ fi := by
  rcases Nat.lt_or_ge d (fi + fo) with hlt | hle
  · rw [fitFades_of_lt hlt]
    refine Nat.div_le_of_le_mul ?_
    calc fi * d ≤ fi * (fi + fo) := Nat.mul_le_mul_left fi hlt.le
      _ = (fi + fo) * fi := Nat.mul_comm ..
  · rw [fitFades_of_le hle]

theorem fitFades_sum_of_lt {d fi fo : Nat} (h : d < fi + fo) :
    (fitFades d fi fo).1 + (fitFades d fi fo).2 = d := by
  rw [fitFades_of_lt h]
  exact Nat.add_sub_of_le (fadeInShare_le_duration d fi fo)

theorem fitFades_sum_le (d fi fo : Nat) : (fitFades d fi fo).1 + (fitFades d fi fo).2 ≤ d := by
  rcases Nat.lt_or_ge d (fi + fo) with hlt | hle
  · exact (fitFades_sum_of_lt hlt).le
  · rwa [fitFades_of_le hle]

/-- Lengths that do not fit: the fade-in is the whole number of frames at or just below its proportion. -/
theorem fitFades_fst_rounds_down {d fi fo : Nat} (h : d < fi + fo) :
    (fitFades d fi fo).1 * (fi + fo) ≤ fi * d ∧ fi * d < ((fitFades d fi fo).1 + 1) * (fi + fo) := by
  have hpos : 0 < fi + fo := Nat.zero_lt_of_lt h
  rw [fitFades_of_lt h]
  exact ⟨Nat.div_mul_le_self .., (Nat.div_lt_iff_lt_mul hpos).mp (Nat.lt_succ_self _)⟩

theorem cueOfRecord_fades (rate : Nat) (c : CueRecord) :
    ((cueOfRecord rate c).fadeIn, (cueOfRecord rate c).fadeOut) =
      fitFades ((cueOfRecord rate c).outFrame - (cueOfRecord rate c).inFrame)
        (msToFrames c.fadeIn rate) (msToFrames c.fadeOut rate) := rfl

/-- Settles O12: the clamp's lemmas on each side of its test, at the fade lengths in frames. -/
theorem fittedFadesFillTheCue : Obligations.FittedFadesFillTheCue := by
  refine ⟨fun d inTime outTime rate hin hout hrate => ?_, cueOfRecord_fades⟩
  intro fi fo fit
  have clamped (hlt : d < fi + fo) :
      fit.1 * (fi + fo) ≤ fi * d ∧ fi * d < (fit.1 + 1) * (fi + fo) ∧ fit.1 + fit.2 = d :=
    have ⟨hfloor, hceil⟩ := fitFades_fst_rounds_down hlt
    ⟨hfloor, hceil, fitFades_sum_of_lt hlt⟩
  exact ⟨msToFrames_le_of_day hin hrate, msToFrames_le_of_day hout hrate, fitFades_of_le, clamped,
    fitFades_sum_le d fi fo, fitFades_fst_le d fi fo⟩

end Sys2Proof.Machine
end

