-- ==== Sys2Proof/Proofs/Dither.lean ====
section
/-! The ordered dither of the overlay (R137): the matrix entry of a plane position, the transmitted alpha
below and from 240, and its sum over 16 consecutive sequence numbers. The sum rests on one count: over 16
consecutive numbers the remainder by 16 takes each of its values once, so it falls below `r` exactly `r`
times. -/
namespace Sys2Proof.Machine

/-! ## The matrix entry -/

theorem ditherMatrix_row_column :
    ∀ i < 4, ∀ j < 4,
      ditherMatrix[i]?.bind (·[j]?) = some ((ditherMatrix.getD i []).getD j 0) := by decide

theorem ditherMatrix_lookup (x y : Nat) :
    ditherMatrix[y % 4]?.bind (·[x % 4]?) = some (ditherEntry x y) :=
  ditherMatrix_row_column (y % 4) (Nat.mod_lt y (by decide)) (x % 4) (Nat.mod_lt x (by decide))

/-! ## The transmitted alpha -/

theorem ditherAlpha_le_fifteen {a : Nat} (ha : a ≤ 255) (b n : Nat) : ditherAlpha a b n ≤ 15 := by
  unfold ditherAlpha
  split
  · exact Nat.min_le_left ..
  · omega

/-- From 240 on the base is 15 already, and the dither adds nothing. -/
theorem ditherAlpha_of_ge {a : Nat} (hge : 240 ≤ a) (ha : a ≤ 255) (b n : Nat) :
    ditherAlpha a b n = 15 := by
  have hbase : a / 16 = 15 := by omega
  simp [ditherAlpha, hbase]

/-- Below 240 the bound 15 does not bite: the base, and one more while the remainder is below the low part. -/
theorem ditherAlpha_of_lt {a : Nat} (hlt : a < 240) (b n : Nat) :
    ditherAlpha a b n = a / 16 + if (b + n) % 16 < a % 16 then 1 else 0 := by
  have hstep : min 15 (a / 16 + 1) = a / 16 + 1 := by omega
  rw [ditherAlpha, Nat.add_mod_mod, hstep]
  split <;> rfl

/-- A sequence number's wrap at 65,536 does not disturb the dither, 16 dividing it. -/
theorem ditherAlpha_seq_wrap (a b n : Nat) : ditherAlpha a b (n % 65536) = ditherAlpha a b n := by
  have hwrap : n % 65536 % 16 = n % 16 := Nat.mod_mod_of_dvd n (by decide)
  rw [ditherAlpha, ditherAlpha, hwrap]

/-! ## The sum over 16 records -/

/-- Among 16 consecutive numbers the remainder by 16 takes each value once, wherever they begin. -/
theorem card_remainder_lt {r : Nat} (hr : r < 16) (c : Nat) :
    {n ∈ Finset.Ico c (c + 16) | n % 16 < r}.card = r := by
  have hperiod : Function.Periodic (fun n => n % 16 < r) 16 := (Nat.periodic_mod 16).comp (· < r)
  have hfirst : ∀ r < 16, Nat.count (fun n => n % 16 < r) 16 = r := by decide
  exact (Nat.filter_Ico_card_eq_of_periodic c 16 _ hperiod).trans (hfirst r hr)

theorem sum_ditherAlpha_of_lt {a : Nat} (hlt : a < 240) (b s : Nat) :
    ∑ i ∈ Finset.range 16, ditherAlpha a b (s + i) = a := by
  have hlow : a % 16 < 16 := Nat.mod_lt a (by decide)
  calc ∑ i ∈ Finset.range 16, ditherAlpha a b (s + i)
      = ∑ n ∈ Finset.Ico (b + s) (b + s + 16), (a / 16 + if n % 16 < a % 16 then 1 else 0) := by
        rw [Finset.sum_Ico_eq_sum_range, Nat.add_sub_cancel_left]
        simp only [ditherAlpha_of_lt hlt, Nat.add_assoc]
    _ = 16 * (a / 16) + {n ∈ Finset.Ico (b + s) (b + s + 16) | n % 16 < a % 16}.card := by
        simp [Finset.sum_add_distrib]
    _ = 16 * (a / 16) + a % 16 := by rw [card_remainder_lt hlow]
    _ = a := Nat.div_add_mod a 16

theorem sum_ditherAlpha {a : Nat} (ha : a ≤ 255) (b s : Nat) :
    ((List.range 16).map fun i => ditherAlpha a b ((s + i) % 65536)).sum = min a 240 := by
  simp only [ditherAlpha_seq_wrap]
  rcases Nat.lt_or_ge a 240 with hlt | hge
  · rw [Nat.min_eq_left hlt.le]
    exact sum_ditherAlpha_of_lt hlt b s
  · rw [Nat.min_eq_right hge]
    simp [ditherAlpha_of_ge hge ha]

/-- Settles O11: the matrix entry, the range of the transmitted alpha and its sum over 16 records; the
threshold test and the untouched colour are the model's definitions. -/
theorem ditherSumsToTheFadedAlpha : Obligations.DitherSumsToTheFadedAlpha :=
  fun _cues _a x y s ha =>
    ⟨ditherMatrix_lookup x y, fun _ => rfl, ditherAlpha_le_fifteen ha _,
      sum_ditherAlpha ha (ditherEntry x y) s, rfl⟩

end Sys2Proof.Machine
end

