-- ==== Sys2Proof/Proofs/Gains.lean ====
section
/-! The arithmetic of Sound Rendering (R149, R151, R152): the rounding of the gain table, the scaling of a
sample, and the length of a fade. The fade rests on one measure: the ticks that are enough at the rate 1, none
just at the target, which every tick at a rate of at least 1 takes down by one or more until it is 0. -/
namespace Sys2Proof.Machine

/-! ## The multiplier and the scaled sample -/

/-- The rounding of 4,194,304 × 10^(−r/200), both of its bounds raised to the power of 200. -/
theorem gainTable_rounds_half_up : ∀ r < 60,
    (2 * gainTable.getD r 0 - 1) ^ 200 * 10 ^ r ≤ (2 * 4194304) ^ 200 ∧
      (2 * 4194304) ^ 200 < (2 * gainTable.getD r 0 + 1) ^ 200 * 10 ^ r := by
  decide

theorem outputSample_eq_fdiv (x : Int) (m : Nat) :
    outputSample x m = max (-8388608) (min 8388607 ((x * (m : Int) + 524288).fdiv 1048576)) := by
  rw [Int.fdiv_eq_ediv_of_nonneg _ (by decide)]
  rfl

/-! ## The length of a fade -/

/-- Millisecond ticks that take an applied gain to its target at the rate 1: the mute end stands level with
the gain −890, one tick away from it (R149). -/
def fadeTicks : Gain → Gain → Nat
  | .mute, .mute => 0
  | .mute, .level w => max 1 (w + 890).toNat
  | .level v, .mute => max 1 (v + 890).toNat
  | .level v, .level w => (v - w).natAbs

theorem fadeTicks_eq_zero_iff (a w : Gain) : fadeTicks a w = 0 ↔ a = w := by
  match a, w with
  | .mute, .mute => simp [fadeTicks]
  | .mute, .level w => simp [fadeTicks]
  | .level v, .mute => simp [fadeTicks]
  | .level v, .level w => simp [fadeTicks, Int.sub_eq_zero]

theorem gainOk_level_iff (v : Int) : gainOk (.level v) = true ↔ -890 ≤ v ∧ v ≤ 120 := by
  simp [gainOk]

theorem fadeTicks_le_of_gainOk {a w : Gain} (ha : gainOk a = true) (hw : gainOk w = true) :
    fadeTicks a w ≤ 1010 := by
  match a, w with
  | .mute, .mute => exact Nat.zero_le 1010
  | .mute, .level w =>
    obtain ⟨hlow, hhigh⟩ := (gainOk_level_iff w).mp hw
    simp only [fadeTicks]
    omega
  | .level v, .mute =>
    obtain ⟨hlow, hhigh⟩ := (gainOk_level_iff v).mp ha
    simp only [fadeTicks]
    omega
  | .level v, .level w =>
    obtain ⟨hlow, hhigh⟩ := (gainOk_level_iff v).mp ha
    obtain ⟨hlow', hhigh'⟩ := (gainOk_level_iff w).mp hw
    simp only [fadeTicks]
    omega

/-- A tick moves the gain by the rate or as far as the target, and one tick is enough between the mute end and
−890. -/
theorem fadeTicks_stepGain_le {g : Nat} (hg : 1 ≤ g) (a w : Gain) :
    fadeTicks (stepGain g a w) w ≤ fadeTicks a w - 1 := by
  match a, w with
  | .mute, .mute => exact Nat.le_refl 0
  | .mute, .level w =>
    simp only [stepGain, fadeTicks]
    omega
  | .level v, .mute =>
    simp only [stepGain]
    split <;> simp only [fadeTicks] <;> omega
  | .level v, .level w =>
    simp only [stepGain]
    split <;> simp only [fadeTicks] <;> omega

/-- As many ticks as the measure are enough, and further ones change nothing. -/
theorem stepGain_iterate_eq_target {g n : Nat} {a w : Gain} (hg : 1 ≤ g) (hn : fadeTicks a w ≤ n) :
    (fun v => stepGain g v w)^[n] a = w := by
  induction n generalizing a with
  | zero => exact (fadeTicks_eq_zero_iff a w).mp (Nat.le_zero.mp hn)
  | succ n ih =>
    have hstep : fadeTicks (stepGain g a w) w ≤ n :=
      (fadeTicks_stepGain_le hg a w).trans (Nat.sub_le_of_le_add hn)
    exact ih hstep

/-- Settles O13: the table's rounding, the scaled sample, and the measure's bound on gains in range; the
multiplier's cases are the model's definition. -/
theorem gainsScaleSamplesAndFadesFinish : Obligations.GainsScaleSamplesAndFadesFinish :=
  ⟨⟨gainTable_rounds_half_up, fun _ _ _ => rfl, rfl, fun x m _ _ _ => outputSample_eq_fdiv x m⟩,
    fun _g _n _a _w hg hn ha hw =>
      stepGain_iterate_eq_target hg ((fadeTicks_le_of_gainOk ha hw).trans hn)⟩

end Sys2Proof.Machine
end

section
/-! The lengths of the records that the part writes into host memory (R179). A record is laid out by
`layFrom`; where its fields stand in rising order within its size, it is exactly as long as its area. -/

namespace Sys2Proof.Machine

/-- The fields of a record stand in rising order without overlap, and end within its size. -/
def fieldsFit : Nat → Nat → List (Nat × List Byte) → Prop
  | pos, size, [] => pos ≤ size
  | pos, size, (off, bs) :: rest => pos ≤ off ∧ fieldsFit (off + bs.length) size rest

theorem zeros_length (n : Nat) : (zeros n).length = n := List.length_replicate

theorem fieldsFit_le_size {pos size : Nat} {fs : List (Nat × List Byte)} (h : fieldsFit pos size fs) :
    pos ≤ size := by
  induction fs generalizing pos with
  | nil => exact h
  | cons f fs ih =>
    obtain ⟨hoff, hrest⟩ := h
    have := ih hrest
    omega

theorem layFrom_length {pos size : Nat} {fs : List (Nat × List Byte)} (h : fieldsFit pos size fs) :
    (layFrom pos size fs).length = size - pos := by
  induction fs generalizing pos with
  | nil => exact zeros_length _
  | cons f fs ih =>
    obtain ⟨hoff, hrest⟩ := h
    have hle := fieldsFit_le_size hrest
    simp only [layFrom, List.length_append, zeros_length, ih hrest]
    omega

/-- A list of values of one length each, one after the other. -/
theorem flatMap_length_of_each {α : Type} (xs : List α) (f : α → List Byte) (n : Nat)
    (h : ∀ x, (f x).length = n) : (xs.flatMap f).length = n * xs.length := by
  induction xs with
  | nil => rfl
  | cons x xs ih => rw [List.flatMap_cons, List.length_append, ih, h, List.length_cons, Nat.mul_succ]; omega

theorem frameField_length (f : Option Nat) : (frameField f).length = 4 := le_length _ _

theorem gainField_length (g : Gain) : (gainField g).length = 2 := by
  cases g
  · exact le_length _ _
  · exact leInt_length _ _

theorem trackField_length (s : State) (l : LaneId) (e : Essence) : (trackField s l e).length = 16 :=
  layFrom_length (by simp [fieldsFit, le_length, frameField_length])

theorem wantedField_length (w : Option Wanted) : (wantedField w).length = 8 :=
  layFrom_length (by simp [fieldsFit, le_length, frameField_length])

theorem storeField_length (st : Store) : (storeField st).length = 24 :=
  layFrom_length (by simp [fieldsFit, le_length])

theorem tallyField_length (e : TallyEntry) : (tallyField e).length = 16 := by
  simp [tallyField, le_length]

theorem holdField_length (h : Option HoldRecord) : (holdField h).length = 5 := by
  cases h
  · exact zeros_length 5
  · simp [holdField, le_length]

theorem faultField_length {r : Option FaultRecord}
    (h : (r.all fun r => decide (r.licences.length ≤ 8)) = true) : (faultField r).length = 48 := by
  cases r with
  | none => exact layFrom_length (by simp [fieldsFit, frameField_length])
  | some f =>
    have hf : f.licences.length ≤ 8 := by simpa using h
    have hl := flatMap_length_of_each f.licences (le 4) 4 fun _ => le_length _ _
    refine layFrom_length ?_
    simp only [fieldsFit, le_length, hl]
    omega

theorem laneStatusBody_length {s : State} {l : LaneId} (h : laneShapeOk (s.lane l)) :
    (laneStatusBody s l).length = 1020 := by
  obtain ⟨htrims, _, happlied, _, hentries, hfault⟩ := h
  have ha := flatMap_length_of_each (s.lane l).sound.applied gainField 2 gainField_length
  have he := flatMap_length_of_each (s.lane l).tally.entries tallyField 16 tallyField_length
  have ht := flatMap_length_of_each (s.lane l).sound.trims (fun t => leInt 2 t.trim) 2
    fun _ => leInt_length _ _
  refine layFrom_length ?_
  simp only [fieldsFit, List.length_append, le_length, frameField_length, holdField_length, ha, he, ht,
    faultField_length hfault, trackField_length, wantedField_length, storeField_length, zeros_length,
    laneStatusSize]
  omega

theorem deviceStatusBody_length {s : State} (h : s.inputs.length = 8) :
    (deviceStatusBody s).length = 252 := by
  have hi := flatMap_length_of_each s.inputs (fun i => le 1 i.filter.level.ctorIdx) 1
    fun _ => le_length _ _
  refine layFrom_length ?_
  simp only [fieldsFit, le_length, hi, deviceStatusSize]
  omega

theorem entryBytes_length (s : State) (e : JournalEntry) : (entryBytes s e).length = 32 := by
  have hw := flatMap_length_of_each (e.words.take 3) (le 4) 4 fun _ => le_length _ _
  have := List.length_take_le 3 e.words
  refine layFrom_length ?_
  simp only [fieldsFit, le_length, hw]
  omega

theorem answerBytes_length (kind : Nat) (rq : Req) (a : Answer) : (answerBytes kind rq a).length = 64 := by
  have hw := flatMap_length_of_each (a.words.take 4) (le 4) 4 fun _ => le_length _ _
  have := List.length_take_le 4 a.words
  refine layFrom_length ?_
  simp only [fieldsFit, le_length, hw, List.flatMap_cons, List.flatMap_nil, List.length_append,
    List.length_nil, List.length_cons]
  omega

theorem partWord_length (m : Mark) : (partWord m).length = 8 := by
  cases m
  · exact layFrom_length (by simp [fieldsFit, frameField_length])
  · exact layFrom_length (by simp [fieldsFit, le_length])
  · exact layFrom_length (by simp [fieldsFit, le_length])

end Sys2Proof.Machine
end

section
/-! What a report does to host memory. `Reported` says which fields of the state a journal entry, a withheld
one or a Device Status Record write touches; `Told` adds that the memory keeps its canonical form, the write
index its ring, and that only bytes of the report areas change (R176 to R178). -/

namespace Sys2Proof.Machine

/-- `t` is `s` after reports: only what reports touch has changed, and it has changed well. -/
structure Told (s t : State) : Prop where
  reported : Reported s t
  mem : memOk s → memOk t
  ring : s.journal.writeIndex < 256 → t.journal.writeIndex < 256
  bytes : s.inputs.length = 8 → s.journal.writeIndex < 256 →
    ∀ a, outside (reportAreas s) a → memRead t.host.mem a = memRead s.host.mem a

theorem Reported.reportAreas {s t : State} (h : Reported s t) : reportAreas t = reportAreas s := by
  obtain ⟨_, _, _, _, rfl⟩ := h; rfl

theorem Reported.host_fails {s t : State} (h : Reported s t) :
    t.host.readFails = s.host.readFails ∧ t.host.writeFails = s.host.writeFails := by
  obtain ⟨_, _, _, _, rfl⟩ := h; exact ⟨rfl, rfl⟩

theorem Told.refl (s : State) : Told s s := ⟨.refl s, id, id, fun _ _ _ _ => rfl⟩

theorem Told.trans {s t u : State} (h : Told s t) (k : Told t u) : Told s u where
  reported := h.reported.trans k.reported
  mem := k.mem ∘ h.mem
  ring := k.ring ∘ h.ring
  bytes hin hix a ha := by
    rw [k.bytes (by rw [h.reported.inputs]; exact hin) (h.ring hix) a
      (by rw [h.reported.reportAreas]; exact ha)]
    exact h.bytes hin hix a ha

/-- Bytes put inside one of the report areas. -/
theorem putBytes_told {a : Nat} {bs : List Byte} {s : State}
    (h : s.inputs.length = 8 → s.journal.writeIndex < 256 →
      ∃ r ∈ reportAreas s, r.1 ≤ a ∧ a + bs.length ≤ r.1 + r.2) : Told s (putBytes a bs s) where
  reported := putBytes_reported a bs s
  mem := memWf_memWrite a bs
  ring := id
  bytes hin hix x hx := by
    obtain ⟨r, hr, hlo, hhi⟩ := h hin hix
    refine memRead_memWrite_outside ?_
    rcases hx r hr with hlt | hle
    · omega
    · omega

theorem setAttention_told (n : Nat) (s : State) : Told s (setAttention n s) :=
  ⟨setAttention_reported n s, id, id, fun _ _ _ _ => rfl⟩

theorem statusCount_told (n : Nat) (s : State) : Told s { s with statusCount := n } :=
  ⟨⟨s.host.mem, s.journal, n, s.attention, rfl⟩, id, id, fun _ _ _ _ => rfl⟩

theorem journal_told {j : Journal} {s : State} (h : s.journal.writeIndex < 256 → j.writeIndex < 256) :
    Told s { s with journal := j } :=
  ⟨journal_reported j s, id, h, fun _ _ _ _ => rfl⟩

theorem deviceStatusNow_told (s : State) : Told s (deviceStatusNow s) := by
  refine (statusCount_told (nextCount s.statusCount) s).trans (putBytes_told fun hin _ => ?_)
  refine ⟨(deviceStatusAddr s, deviceStatusSize), by simp [reportAreas, deviceStatusAddr, tableAddr],
    le_refl _, ?_⟩
  rw [List.length_append, le_length, deviceStatusBody_length (s := s) hin]
  rfl

theorem writeDeviceStatus_told (s : State) : Told s (writeDeviceStatus s) := by
  unfold writeDeviceStatus
  split
  · exact deviceStatusNow_told s
  · exact .refl s

theorem putHeader_told {off : Nat} {bs : List Byte} (s : State) (h : 4 ≤ off)
    (hl : off + bs.length ≤ 8) : Told s (putBytes (tableAddr s + off) bs s) :=
  putBytes_told fun _ _ => ⟨(tableAddr s + 4, 4), by simp [reportAreas], by simp; omega, by simp; omega⟩

theorem setWithheld_told (n : Nat) (s : State) : Told s (setWithheld n s) :=
  (journal_told (s := s) (j := { s.journal with withheld := n }) id).trans
    (putHeader_told _ (by omega) (by simp [le_length]))

theorem withhold_told (s : State) : Told s (withhold s) :=
  (setWithheld_told _ s).trans (writeDeviceStatus_told _)

/-- The index and the sequence number past an entry. -/
theorem indexRises_told (s : State) :
    Told s { s with
      journal :=
        { s.journal with
          seq := (s.journal.seq + 1) % 2 ^ 32
          writeIndex := (s.journal.writeIndex + 1) % 256 } } :=
  journal_told fun _ => Nat.mod_lt (s.journal.writeIndex + 1) (Nat.succ_pos 255)

theorem putEntry_told (e : JournalEntry) (s : State) : Told s (putEntry e s) := by
  have hentry : Told s (putBytes (journalAddr s s.journal.writeIndex) (entryBytes s e) s) := by
    refine putBytes_told fun _ hix => ⟨(journalAddr s 0, 8192), by simp [reportAreas], ?_, ?_⟩
    · simp only [journalAddr]; omega
    · simp only [journalAddr, entryBytes_length]; omega
  exact ((((hentry.trans (indexRises_told _)).trans (putHeader_told _ (by omega) (by simp [le_length]))).trans
    (setAttention_told 5 _)).trans (writeDeviceStatus_told _))

theorem putGap_told (s : State) : Told s (putGap s) := (setWithheld_told 0 s).trans (putEntry_told _ _)

theorem rereadIndex_told (s : State) : Told s (rereadIndex s) := journal_told id

theorem refreshForOffer_told (s : State) : Told s (refreshForOffer s) := by
  unfold refreshForOffer
  split
  · exact .refl s
  · exact rereadIndex_told s

theorem offerNoted_told (e : JournalEntry) (s : State) : Told s (offerNoted e s).1 := by
  unfold offerNoted
  split
  · exact .refl s
  · dsimp only
    split
    · exact (refreshForOffer_told s).trans (withhold_told _)
    · split
      · exact (refreshForOffer_told s).trans (putEntry_told _ _)
      · split
        · exact ((refreshForOffer_told s).trans (putGap_told _)).trans (withhold_told _)
        · exact ((refreshForOffer_told s).trans (putGap_told _)).trans (putEntry_told _ _)

theorem offer_told (e : JournalEntry) (s : State) : Told s (offer e s) := offerNoted_told e s

theorem clockEntry_told (k : ClockEntry) (s : State) : Told s (clockEntry k s) := offer_told _ s

theorem gapCheck_told (s : State) : Told s (gapCheck s) := by
  unfold gapCheck
  split
  · dsimp only
    split
    · exact rereadIndex_told s
    · exact (rereadIndex_told s).trans (putGap_told _)
  · exact .refl s

end Sys2Proof.Machine
end

section
/-! What a piece of work keeps. Each invariant that a step keeps is a property of one lane, of the queues
with the transaction in flight, of host memory or of the registers; `LaneKeeps` and `Keeps` collect them, so
that each operation is walked through once. `LaneWork` adds what a piece of work of one lane leaves alone. -/

namespace Sys2Proof.Machine

/-! ## One lane -/

/-- The invariants of a lane but that of its closing window pass from `x` to `y`. -/
structure LaneApart (x y : Lane) : Prop where
  fields : laneFieldsOk x → laneFieldsOk y
  list : listOk x → listOk y
  sound : soundOk x → soundOk y
  stores : storesOk x → storesOk y
  shape : laneShapeOk x → laneShapeOk y

/-- The invariants of a lane pass from `x` to `y`. -/
structure LaneCore (x y : Lane) : Prop extends LaneApart x y where
  window : windowOk x → windowOk y

/-- No essence queue has grown under its fetch generation, or all are empty. -/
def QueueKept (x y : Lane) : Prop :=
  ((∀ e, (y.tracks.get e).queue.length ≤ (x.tracks.get e).queue.length) ∧
      y.generation = x.generation) ∨ ∀ e, (y.tracks.get e).queue = []

/-- The invariants of a lane and the bound of its queues pass from `x` to `y`. -/
structure LaneKeeps (x y : Lane) : Prop extends LaneCore x y where
  queue : QueueKept x y

theorem LaneApart.trans {x y z : Lane} (h : LaneApart x y) (k : LaneApart y z) : LaneApart x z :=
  ⟨k.fields ∘ h.fields, k.list ∘ h.list, k.sound ∘ h.sound, k.stores ∘ h.stores, k.shape ∘ h.shape⟩

theorem LaneCore.refl (x : Lane) : LaneCore x x := ⟨⟨id, id, id, id, id⟩, id⟩

theorem LaneCore.trans {x y z : Lane} (h : LaneCore x y) (k : LaneCore y z) : LaneCore x z :=
  ⟨h.toLaneApart.trans k.toLaneApart, k.window ∘ h.window⟩

theorem QueueKept.refl (x : Lane) : QueueKept x x := .inl ⟨fun _ => le_rfl, rfl⟩

theorem QueueKept.trans {x y z : Lane} (h : QueueKept x y) (k : QueueKept y z) : QueueKept x z := by
  rcases k with ⟨hle, hgen⟩ | hnil
  · rcases h with ⟨hle', hgen'⟩ | hnil'
    · exact .inl ⟨fun e => (hle e).trans (hle' e), hgen.trans hgen'⟩
    · exact .inr fun e => List.eq_nil_of_length_eq_zero (by have := hle e; rw [hnil' e] at this; simpa using this)
  · exact .inr hnil

theorem LaneKeeps.refl (x : Lane) : LaneKeeps x x := ⟨.refl x, .refl x⟩

theorem LaneKeeps.trans {x y z : Lane} (h : LaneKeeps x y) (k : LaneKeeps y z) : LaneKeeps x z :=
  ⟨h.toLaneCore.trans k.toLaneCore, h.queue.trans k.queue⟩

/-- The part of a lane of which the invariants speak: every other field is blanked. -/
def watched (x : Lane) : Lane :=
  { x with
    loaded := none
    p := 0
    holdLimit := 0
    lastCause := .none
    options := defaultOptions
    level := 0
    indicators := noIndicators
    subWanted := ⟨none, none⟩
    lastReal := none
    contacts := 0
    scanner := clearScanner
    statusCount := 0 }

/-- Where the watched part stands, every invariant stands. -/
theorem LaneKeeps.of_watched {x y : Lane} (h : watched y = watched x) : LaneKeeps x y where
  fields hx := show laneFieldsOk (watched y) by rw [h]; exact hx
  list hx := show listOk (watched y) by rw [h]; exact hx
  window hx := show windowOk (watched y) by rw [h]; exact hx
  sound hx := show soundOk (watched y) by rw [h]; exact hx
  stores hx := show storesOk (watched y) by rw [h]; exact hx
  shape hx := show laneShapeOk (watched y) by rw [h]; exact hx
  queue := show QueueKept (watched x) (watched y) by rw [h]; exact .refl _

theorem watched_of_bare {x y : Lane} (h : bare y = bare x) : watched y = watched x :=
  show watched (bare y) = watched (bare x) by rw [h]

/-- The bookkeeping of the Lane Status Record plays no part. -/
theorem LaneKeeps.of_bare {x y z : Lane} (h : bare z = bare y) (k : LaneKeeps x y) : LaneKeeps x z :=
  k.trans (.of_watched (watched_of_bare h))

@[simp] theorem watched_setIndicator (i : Indicator) (x : Lane) : watched (setIndicator i x) = watched x :=
  rfl

@[simp] theorem watched_setIndicatorIf (c : Bool) (i : Indicator) (x : Lane) :
    watched (setIndicatorIf c i x) = watched x := by cases c <;> rfl

theorem setIndicatorIf_state (c : Bool) (i : Indicator) (x : Lane) :
    (setIndicatorIf c i x).state = x.state := by cases c <;> rfl

theorem setIndicatorIf_keeps (c : Bool) (i : Indicator) (x : Lane) : LaneKeeps x (setIndicatorIf c i x) :=
  .of_watched (watched_setIndicatorIf c i x)

theorem LaneKeeps.indicatorIf {x y : Lane} (h : LaneKeeps x y) (c : Bool) (i : Indicator) :
    LaneKeeps x (setIndicatorIf c i y) := h.trans (setIndicatorIf_keeps c i y)

theorem LaneKeeps.indicator {x y : Lane} (h : LaneKeeps x y) (i : Indicator) :
    LaneKeeps x (setIndicator i y) := h.trans (.of_watched rfl)

/-! ## The part -/

/-- The invariants of the part pass from `s` to `t`, and the waiting commands stand. -/
structure Keeps (s t : State) : Prop where
  pending : t.pending = s.pending
  mem : memOk s → memOk t
  inputs : s.inputs.length = 8 → t.inputs.length = 8
  ring : s.journal.writeIndex < 256 → t.journal.writeIndex < 256
  device : deviceFieldsOk s → deviceFieldsOk t
  lanes : ∀ l, LaneCore (s.lane l) (t.lane l)
  queues : queuesOk s → queuesOk t

theorem Keeps.refl (s : State) : Keeps s s := ⟨rfl, id, id, id, id, fun _ => .refl _, id⟩

theorem Keeps.trans {s t u : State} (h : Keeps s t) (k : Keeps t u) : Keeps s u where
  pending := k.pending.trans h.pending
  mem := k.mem ∘ h.mem
  inputs := k.inputs ∘ h.inputs
  ring := k.ring ∘ h.ring
  device := k.device ∘ h.device
  lanes l := (h.lanes l).trans (k.lanes l)
  queues := k.queues ∘ h.queues

theorem everyLane_iff (P : Lane → Prop) (s : State) : everyLane P s ↔ ∀ l, P (s.lane l) :=
  ⟨fun h l => by
    obtain ⟨ha, hb, hc, hd⟩ := h
    cases l
    · exact ha
    · exact hb
    · exact hc
    · exact hd, fun h => ⟨h .a, h .b, h .c, h .d⟩⟩

theorem everyLane_mono {P : Lane → Prop} {s t : State} (h : ∀ l, P (s.lane l) → P (t.lane l)) :
    everyLane P s → everyLane P t :=
  fun hs => (everyLane_iff P t).2 fun l => h l ((everyLane_iff P s).1 hs l)

theorem shapeOk.lane {s : State} (h : shapeOk s) (l : LaneId) : laneShapeOk (s.lane l) :=
  (everyLane_iff laneShapeOk s).1 h.2.2 l

theorem Keeps.shapeOk {s t : State} (h : Keeps s t) : shapeOk s → shapeOk t :=
  fun ⟨hin, hix, hl⟩ => ⟨h.inputs hin, h.ring hix, everyLane_mono (fun l => (h.lanes l).shape) hl⟩

/-- Where the engine stands or is idle and no queue grew, the bound of the queues stands. -/
theorem queuesOk_of_kept {s t : State} (hf : t.engine.flight = s.engine.flight ∨ t.engine.flight = none)
    (hl : ∀ l, QueueKept (s.lane l) (t.lane l)) (h : queuesOk s) : queuesOk t := by
  intro l e
  rcases hl l with ⟨hle, hgen⟩ | hnil
  · refine le_trans ?_ (h l e)
    refine Nat.add_le_add (hle e) ?_
    rcases hf with hf | hf
    · have he : flightPosition t l e = flightPosition s l e := by unfold flightPosition; rw [hf, hgen]
      rw [he]
    · simp [flightPosition, hf]
  · simp only [queueLoad, hnil e, List.length_nil, Nat.zero_add, Config.queueDepth]
    split <;> omega

/-- A change of lanes, each well kept, beside which only fields change that no invariant reads. -/
theorem Keeps.of_lanes {s t : State} (hp : t.pending = s.pending) (hm : t.host.mem = s.host.mem)
    (hin : t.inputs = s.inputs) (hj : t.journal = s.journal)
    (hd : deviceFieldsOk s → deviceFieldsOk t)
    (hf : t.engine.flight = s.engine.flight ∨ t.engine.flight = none)
    (hl : ∀ l, LaneKeeps (s.lane l) (t.lane l)) : Keeps s t where
  pending := hp
  mem h := by unfold memOk; rw [hm]; exact h
  inputs h := hin ▸ h
  ring h := hj ▸ h
  device := hd
  lanes l := (hl l).toLaneCore
  queues := queuesOk_of_kept hf fun l => (hl l).queue

theorem Told.keeps {s t : State} (h : Told s t) : Keeps s t where
  pending := h.reported.pending
  mem := h.mem
  inputs hin := by rw [h.reported.inputs]; exact hin
  ring := h.ring
  device := by obtain ⟨_, _, _, _, rfl⟩ := h.reported; exact id
  lanes l := by rw [h.reported.lane l]; exact .refl _
  queues := by obtain ⟨_, _, _, _, rfl⟩ := h.reported; exact id

theorem forall_lane_of_self {P : Lane → Lane → Prop} {s t : State} {l : LaneId} (hr : ∀ x, P x x)
    (hl : P (s.lane l) (t.lane l)) (ho : ∀ m, m ≠ l → t.lane m = s.lane m) (m : LaneId) :
    P (s.lane m) (t.lane m) := by
  by_cases h : m = l
  · exact h ▸ hl
  · rw [ho m h]; exact hr _

theorem Keeps.modLane {s : State} {l : LaneId} {f : Lane → Lane} (h : LaneKeeps (s.lane l) (f (s.lane l))) :
    Keeps s (s.modLane l f) :=
  .of_lanes rfl rfl rfl rfl id (.inl rfl)
    (forall_lane_of_self .refl (by rw [State.lane_modLane_self]; exact h)
      fun _ hm => State.lane_modLane_ne _ _ hm)

theorem noteChanges_keeps (s t : State) : Keeps t (noteChanges s t) :=
  .of_lanes rfl rfl rfl rfl id (.inl rfl) fun _ => .refl _

/-! ## Areas of host memory -/

theorem memKept.refl (areas : List (Nat × Nat)) (s : State) : memKept areas s s :=
  ⟨fun _ _ => rfl, rfl, rfl⟩

theorem memKept.trans {areas : List (Nat × Nat)} {s t u : State} (h : memKept areas s t)
    (k : memKept areas t u) : memKept areas s u := by
  obtain ⟨hb, hr, hw⟩ := h
  obtain ⟨kb, kr, kw⟩ := k
  exact ⟨fun a ha => (kb a ha).trans (hb a ha), kr.trans hr, kw.trans hw⟩

theorem memKept.mono {areas more : List (Nat × Nat)} {s t : State} (h : memKept areas s t)
    (hsub : areas ⊆ more) : memKept more s t := by
  obtain ⟨hb, hf⟩ := h
  exact ⟨fun a ha => hb a fun r hr => ha r (hsub hr), hf⟩

theorem memKept_of_host {areas : List (Nat × Nat)} {s t : State} (h : t.host = s.host) :
    memKept areas s t := by
  unfold memKept; rw [h]; exact ⟨fun _ _ => rfl, rfl, rfl⟩

/-- A read of bytes outside every area finds what stood there. -/
theorem memReadBytes_of_kept {areas : List (Nat × Nat)} {s t : State} {a n : Nat} (h : memKept areas s t)
    (ho : ∀ r ∈ areas, a + n ≤ r.1 ∨ r.1 + r.2 ≤ a) :
    memReadBytes t.host.mem a n = memReadBytes s.host.mem a n := by
  refine List.map_congr_left fun i hi => h.1 _ fun r hr => ?_
  have := List.mem_range.1 hi
  rcases ho r hr with hlo | hhi
  · omega
  · omega

theorem Told.memKept {s t : State} (h : Told s t) (hs : shapeOk s) : memKept (reportAreas s) s t :=
  ⟨h.bytes hs.1 hs.2.1, h.reported.host_fails⟩

theorem putBytes_memKept (a : Nat) (bs : List Byte) (s : State) :
    memKept [(a, bs.length)] s (putBytes a bs s) :=
  ⟨fun _ hx => memRead_memWrite_outside (hx _ (List.mem_singleton_self _)), rfl, rfl⟩

/-! ## Work of one lane -/

/-- The clock source is EXTERNAL, or in HOLDOVER with the reference locked and a lane running: what the
switch back keeps (R156). -/
def switchWatched (s : State) : Prop :=
  (s.clockUnit.source = .holdover ∧ s.clockUnit.refLocked = true ∧ anyLaneRunning s = true) ∨
    s.clockUnit.source = .external

/-- Work of lane `l` but for the switch back: the invariants pass, everything outside the lane stands but what
reports touch, and of host memory only the lane's record, the reports and the areas `more` change. -/
structure LaneFrame (l : LaneId) (more : List (Nat × Nat)) (s t : State) : Prop where
  keeps : Keeps s t
  rest : restKept l s t
  mem : shapeOk s → memKept (eventAreas s l ++ more) s t

/-- Work of lane `l`, at whose end the switch back is made where it is due. -/
structure LaneWork (l : LaneId) (more : List (Nat × Nat)) (s t : State) : Prop extends
    LaneFrame l more s t where
  watch : switchWatched s → switchWatched t

theorem registersKept.refl (s : State) : registersKept s s :=
  ⟨rfl, rfl, rfl, rfl, rfl, rfl, rfl, rfl, rfl, rfl⟩

theorem registersKept.trans {s t u : State} (h : registersKept s t) (k : registersKept t u) :
    registersKept s u := by
  obtain ⟨h1, h2, h3, h4, h5, h6, h7, h8, h9, h10⟩ := h
  obtain ⟨k1, k2, k3, k4, k5, k6, k7, k8, k9, k10⟩ := k
  exact ⟨k1.trans h1, k2.trans h2, k3.trans h3, k4.trans h4, k5.trans h5, k6.trans h6, k7.trans h7,
    k8.trans h8, k9.trans h9, k10.trans h10⟩

theorem registersKept.tableAddr {s t : State} (h : registersKept s t) : tableAddr t = tableAddr s := by
  obtain ⟨_, _, _, hlo, hhi, _⟩ := h
  unfold Machine.tableAddr
  rw [hlo, hhi]

theorem restKept.refl (l : LaneId) (s : State) : restKept l s s :=
  ⟨fun _ _ => rfl, .refl s, ⟨rfl, rfl, rfl, rfl⟩, rfl, rfl, fun _ => rfl⟩

theorem restKept.trans {l : LaneId} {s t u : State} (h : restKept l s t) (k : restKept l t u) :
    restKept l s u := by
  obtain ⟨hl, hr, ⟨hi, ht, he, hp⟩, hx, hk, hs⟩ := h
  obtain ⟨kl, kr, ⟨ki, kt, ke, kp⟩, kx, kk, ks⟩ := k
  exact ⟨fun m hm => (kl m hm).trans (hl m hm), hr.trans kr,
    ⟨ki.trans hi, kt.trans ht, ke.trans he, kp.trans hp⟩, kx.trans hx, kk.trans hk,
    fun hn => (ks (by rw [hs hn]; exact hn)).trans (hs hn)⟩

theorem eventAreas_of_registers {s t : State} (h : registersKept s t) (l : LaneId) :
    eventAreas t l = eventAreas s l := by
  simp only [eventAreas, statusArea, reportAreas, laneStatusAddr, deviceStatusAddr, journalAddr,
    h.tableAddr]

theorem LaneFrame.refl (l : LaneId) (more : List (Nat × Nat)) (s : State) : LaneFrame l more s s :=
  ⟨.refl s, .refl l s, fun _ => .refl _ s⟩

theorem LaneFrame.trans {l : LaneId} {more : List (Nat × Nat)} {s t u : State}
    (h : LaneFrame l more s t) (k : LaneFrame l more t u) : LaneFrame l more s u where
  keeps := h.keeps.trans k.keeps
  rest := h.rest.trans k.rest
  mem hs := (h.mem hs).trans (by
    have := k.mem (h.keeps.shapeOk hs)
    rwa [eventAreas_of_registers h.rest.2.1] at this)

theorem LaneWork.refl (l : LaneId) (more : List (Nat × Nat)) (s : State) : LaneWork l more s s :=
  ⟨.refl l more s, id⟩

theorem LaneWork.trans {l : LaneId} {more : List (Nat × Nat)} {s t u : State} (h : LaneWork l more s t)
    (k : LaneWork l more t u) : LaneWork l more s u :=
  ⟨h.toLaneFrame.trans k.toLaneFrame, k.watch ∘ h.watch⟩

theorem LaneWork.mono {l : LaneId} {more all : List (Nat × Nat)} {s t : State} (h : LaneWork l more s t)
    (hsub : more ⊆ all) : LaneWork l all s t :=
  ⟨⟨h.keeps, h.rest, fun hs => (h.mem hs).mono (List.append_subset.2
    ⟨List.subset_append_left _ _, List.Subset.trans hsub (List.subset_append_right _ _)⟩)⟩, h.watch⟩

theorem anyLaneRunning_of_lanes {s t : State}
    (h : ∀ l, inRunStates (s.lane l).state = true → inRunStates (t.lane l).state = true) :
    anyLaneRunning s = true → anyLaneRunning t = true := by
  simp only [anyLaneRunning, List.any_eq_true]
  exact fun ⟨l, hl, hr⟩ => ⟨l, hl, h l hr⟩

theorem switchWatched_of_running {s t : State} (hc : t.clockUnit = s.clockUnit)
    (h : ∀ l, inRunStates (s.lane l).state = true → inRunStates (t.lane l).state = true) :
    switchWatched s → switchWatched t := by
  unfold switchWatched
  rw [hc]
  exact Or.imp_left fun ⟨hs, hr, ha⟩ => ⟨hs, hr, anyLaneRunning_of_lanes h ha⟩

theorem Told.work {s t : State} (h : Told s t) (l : LaneId) (more : List (Nat × Nat)) :
    LaneWork l more s t where
  keeps := h.keeps
  rest := by
    obtain ⟨_, _, _, _, rfl⟩ := h.reported
    exact .refl l s
  watch := switchWatched_of_running h.reported.clockUnit fun l hl => by rw [h.reported.lane l]; exact hl
  mem hs := (h.memKept hs).mono
    (List.Subset.trans (List.subset_cons_self _ _) (List.subset_append_left _ _))

theorem LaneFrame.modLane {s : State} {l : LaneId} {f : Lane → Lane} (more : List (Nat × Nat))
    (h : LaneKeeps (s.lane l) (f (s.lane l))) : LaneFrame l more s (s.modLane l f) where
  keeps := .modLane h
  rest := ⟨fun _ hm => State.lane_modLane_ne _ _ hm, .refl s, ⟨rfl, rfl, rfl, rfl⟩, rfl, rfl, fun _ => rfl⟩
  mem _ := memKept_of_host rfl

theorem LaneWork.modLane {s : State} {l : LaneId} {f : Lane → Lane} (more : List (Nat × Nat))
    (h : LaneKeeps (s.lane l) (f (s.lane l))) (hst : (f (s.lane l)).state = (s.lane l).state) :
    LaneWork l more s (s.modLane l f) where
  toLaneFrame := .modLane more h
  watch := switchWatched_of_running rfl <| forall_lane_of_self
    (P := fun x y => inRunStates x.state = true → inRunStates y.state = true) (fun _ => id)
    (by rw [State.lane_modLane_self, hst]; exact id) fun _ hm => State.lane_modLane_ne _ _ hm

/-- A change of fields that no invariant and no other unit reads, the lane's watched part standing. -/
theorem LaneWork.watchedLane {s : State} {l : LaneId} {f : Lane → Lane} (more : List (Nat × Nat))
    (h : watched (f (s.lane l)) = watched (s.lane l)) : LaneWork l more s (s.modLane l f) :=
  .modLane more (.of_watched h) (show (watched _).state = _ by rw [h]; rfl)

theorem laneStatusNow_work (l : LaneId) (more : List (Nat × Nat)) (s : State) :
    LaneWork l more s (laneStatusNow l s) := by
  have hput : LaneWork l more s
      (putBytes (laneStatusAddr s l) (le 4 (nextCount (s.lane l).statusCount) ++ laneStatusBody s l) s) :=
    { keeps := ⟨rfl, memWf_memWrite _ _, id, id, id, fun _ => .refl _, id⟩
      rest := .refl l s
      watch := id
      mem := fun hs => (putBytes_memKept _ _ s).mono (by
        rw [List.length_append, le_length, laneStatusBody_length (hs.lane l)]
        simp [eventAreas, statusArea, laneStatusSize]) }
  exact hput.trans (.watchedLane more rfl)

theorem writeLaneStatus_work (l : LaneId) (more : List (Nat × Nat)) (s : State) :
    LaneWork l more s (writeLaneStatus l s) := by
  unfold writeLaneStatus
  split
  · exact laneStatusNow_work l more s
  · exact .refl l more s

end Sys2Proof.Machine
end

section
/-! What each change of one lane keeps: the sound (R143 to R152), the change of state (R2), the stores of the
overlay (R126 to R133), the queues (R49 to R69). -/

namespace Sys2Proof.Machine

/-! ## Gains and samples (R148 to R151) -/

theorem gainOk_level {v : Int} (hlo : -890 ≤ v) (hhi : v ≤ 120) : gainOk (.level v) = true := by
  simp [gainOk, hlo, hhi]

theorem targetGain_ok (level : Nat) (t : Trim) (playing : Bool) : gainOk (targetGain level t playing) = true := by
  unfold targetGain
  split
  · rfl
  · split
    · rfl
    · exact gainOk_level (by unfold clampInt; omega) (by unfold clampInt; omega)

theorem targetGains_ok {level : Nat} {trims : List Trim} {playing : Bool} :
    ∀ g ∈ targetGains level trims playing, gainOk g = true := by
  intro g hg
  obtain ⟨t, _, rfl⟩ := List.mem_map.1 hg
  exact targetGain_ok level t playing

theorem targetGains_length (level : Nat) (trims : List Trim) (playing : Bool) :
    (targetGains level trims playing).length = trims.length := List.length_map _

theorem stepGain_ok {g : Nat} {a w : Gain} (ha : gainOk a = true) (hw : gainOk w = true) :
    gainOk (stepGain g a w) = true := by
  cases a with
  | mute =>
    cases w with
    | mute => rfl
    | level w =>
      obtain ⟨hlo, hhi⟩ := (gainOk_level_iff w).1 hw
      exact gainOk_level (by omega) (by omega)
  | level v =>
    obtain ⟨vlo, vhi⟩ := (gainOk_level_iff v).1 ha
    cases w with
    | mute =>
      by_cases h : max (-890) (v - (g : Int)) = -890
      · simp only [stepGain, h, if_true]; rfl
      · simp only [stepGain, h, if_false]
        exact gainOk_level (by omega) (by omega)
    | level w =>
      obtain ⟨hlo, hhi⟩ := (gainOk_level_iff w).1 hw
      by_cases h : v ≤ w
      · simp only [stepGain, h, if_true]
        exact gainOk_level (by omega) (by omega)
      · simp only [stepGain, h, if_false]
        exact gainOk_level (by omega) (by omega)

theorem exists_of_mem_zipWith {α β γ : Type} {f : α → β → γ} {as : List α} {bs : List β} {c : γ}
    (h : c ∈ List.zipWith f as bs) : ∃ a ∈ as, ∃ b ∈ bs, c = f a b := by
  rw [← List.map_uncurry_zip_eq_zipWith] at h
  obtain ⟨⟨a, b⟩, hmem, rfl⟩ := List.mem_map.1 h
  exact ⟨a, (List.of_mem_zip hmem).1, b, (List.of_mem_zip hmem).2, rfl⟩

theorem stepGains_ok {g : Nat} {as ws : List Gain} (ha : ∀ a ∈ as, gainOk a = true)
    (hw : ∀ w ∈ ws, gainOk w = true) : ∀ v ∈ stepGains g as ws, gainOk v = true := by
  intro v hv
  obtain ⟨a, hmem, w, hmem', rfl⟩ := exists_of_mem_zipWith hv
  exact stepGain_ok (ha a hmem) (hw w hmem')

theorem allMute_ok : ∀ g ∈ allMute, gainOk g = true := by
  intro g hg
  rw [List.eq_of_mem_replicate hg]
  rfl

theorem outputSample_range (x : Int) (m : Nat) :
    sampleMin ≤ outputSample x m ∧ outputSample x m ≤ sampleMax := by
  unfold outputSample clampInt sampleMin sampleMax
  omega

theorem samplesAhead_range {x : Sound} {n : Nat} :
    ∀ ys ∈ samplesAhead x n, ∀ y ∈ ys, sampleMin ≤ y ∧ y ≤ sampleMax := by
  intro ys hys y hy
  obtain ⟨xs, _, g, _, rfl⟩ := exists_of_mem_zipWith hys
  obtain ⟨v, _, rfl⟩ := List.mem_map.1 hy
  exact outputSample_range v _

theorem silence_range : ∀ ys ∈ silence, ∀ y ∈ ys, sampleMin ≤ y ∧ y ≤ sampleMax := by
  intro ys hys y hy
  rw [List.eq_of_mem_replicate hys] at hy
  exact absurd hy List.not_mem_nil

/-! ## Sound -/

/-- A change of the sound alone, its ranges and its lengths kept. -/
theorem LaneKeeps.of_sound {x : Lane} {k : Sound} (hs : soundOk x → soundOk { x with sound := k })
    (hl : laneShapeOk x → laneShapeOk { x with sound := k }) : LaneKeeps x { x with sound := k } :=
  ⟨⟨⟨id, id, hs, id, hl⟩, id⟩, .refl x⟩

theorem reformTargets_keeps (x : Lane) : LaneKeeps x (reformTargets x) :=
  .of_sound (fun ⟨ha, _, ho⟩ => ⟨ha, targetGains_ok, ho⟩)
    fun ⟨ht, _, ha, hr⟩ => ⟨ht, (targetGains_length ..).trans ht, ha, hr⟩

theorem advanceSound_keeps (n : Nat) (x : Lane) : LaneKeeps x { x with sound := advanceSound n x.sound } := by
  refine .of_sound (fun ⟨ha, ht, ho⟩ => ⟨ha, ht, ?_⟩) id
  simp only [advanceSound]
  split
  · exact ho
  · exact samplesAhead_range

theorem playSamples_keeps (n : Nat) (x : Lane) : LaneKeeps x (playSamples n x) := by
  unfold playSamples
  obtain ⟨i, h⟩ := setIndicatorIf_eq (decide (clipsAhead x.sound n ≠ 0)) .clip x
  rw [h]
  have hi : LaneKeeps x { x with indicators := i } := .of_watched rfl
  exact hi.trans (advanceSound_keeps n { x with indicators := i })

theorem playSamples_state (n : Nat) (x : Lane) : (playSamples n x).state = x.state :=
  setIndicatorIf_state _ _ x

theorem endPeriod_keeps (x : Lane) : LaneKeeps x (endPeriod x) :=
  (playSamples_keeps _ x).trans (.of_sound id id)

theorem endTick_keeps (x : Lane) : LaneKeeps x (endTick x) :=
  (playSamples_keeps _ x).trans (.of_sound id id)

theorem endPeriod_state (x : Lane) : (endPeriod x).state = x.state := playSamples_state _ x

theorem endTick_state (x : Lane) : (endTick x).state = x.state := playSamples_state _ x

theorem rampGains_keeps (x : Lane) : LaneKeeps x (rampGains x) :=
  .of_sound (fun ⟨ha, ht, ho⟩ => ⟨stepGains_ok ha ht, ht, ho⟩)
    fun ⟨hr, ht, ha, hs⟩ => ⟨hr, ht, by simp only [stepGains, List.length_zipWith, ha, ht]; rfl, hs⟩

theorem muteAtOnce_keeps (x : Lane) : LaneKeeps x (muteAtOnce x) :=
  .of_sound (fun ⟨_, ht, ho⟩ => ⟨allMute_ok, ht, ho⟩) fun ⟨hr, ht, _, hs⟩ => ⟨hr, ht, rfl, hs⟩

theorem silenceLines_keeps (x : Lane) : LaneKeeps x (silenceLines x) := .of_sound id id

theorem gainsAtStart_keeps (x : Lane) : LaneKeeps x (gainsAtStart x) :=
  .of_sound (fun ⟨_, ht, ho⟩ => ⟨targetGains_ok, ht, ho⟩)
    fun ⟨hr, ht, _, hs⟩ => ⟨hr, ht, (targetGains_length ..).trans hr, hs⟩

theorem unloadSound_keeps (x : Lane) : LaneKeeps x { x with sound := unloadSound x.sound } :=
  .of_sound (fun ⟨_, _, ho⟩ => ⟨allMute_ok, allMute_ok, ho⟩) fun ⟨hr, _, _, hs⟩ => ⟨hr, rfl, rfl, hs⟩

theorem resetSound_keeps (x : Lane) : LaneKeeps x { x with sound := resetSound x.sound } :=
  .of_sound (fun ⟨_, _, ho⟩ => ⟨allMute_ok, allMute_ok, ho⟩)
    fun ⟨_, _, _, _, hs⟩ => ⟨rfl, rfl, rfl, rfl, hs⟩

theorem presentSound_keeps (main aux : SoundResult) (x : Lane) : LaneKeeps x (presentSound main aux x) :=
  have hperiod : LaneKeeps x { x with
      sound := { x.sound with period := x.sound.routing.map (sourceSamples main aux) } } := .of_sound id id
  hperiod.indicatorIf _ _

/-- The staged sections, where there are any, in the place of the active ones (R145). -/
theorem stagedSections_keep (x : Lane) :
    LaneKeeps x { x with
      sound :=
        { x.sound with
          routing := x.sound.stagedRouting.getD x.sound.routing
          trims := x.sound.stagedTrims.getD x.sound.trims
          stagedRouting := none
          stagedTrims := none } } := by
  refine .of_sound id fun ⟨hr, ht, ha, hs, he⟩ => ⟨?_, ht, ha, rfl, he⟩
  show (x.sound.stagedTrims.getD x.sound.trims).length = 24
  cases h : x.sound.stagedTrims with
  | none => exact hr
  | some t => rw [h] at hs; simpa using hs

theorem swapStaged_eq (x : Lane) :
    swapStaged x = reformTargets { x with
      sound :=
        { x.sound with
          routing := x.sound.stagedRouting.getD x.sound.routing
          trims := x.sound.stagedTrims.getD x.sound.trims
          stagedRouting := none
          stagedTrims := none } } := by
  unfold swapStaged
  cases hr : x.sound.stagedRouting with
  | none => cases ht : x.sound.stagedTrims with
    | none => simp only [ht, Option.getD_none]; simp only [← hr, ← ht]
    | some t => simp only [ht, hr, Option.getD_none, Option.getD_some]
  | some r => cases ht : x.sound.stagedTrims with
    | none => simp only [ht, Option.getD_none, Option.getD_some]
    | some t => simp only [ht, Option.getD_some]

theorem swapStaged_keeps (x : Lane) : LaneKeeps x (swapStaged x) := by
  rw [swapStaged_eq]
  exact (stagedSections_keep x).trans (reformTargets_keeps _)

theorem swapStaged_state (x : Lane) : (swapStaged x).state = x.state := by rw [swapStaged_eq]; rfl

theorem applyTrims_keeps {t : List Trim} (ht : t.length = 24) (x : Lane) :
    LaneKeeps x { x with sound := applyTrims t x.sound } :=
  .of_sound id fun ⟨_, hg, ha, _, he⟩ => ⟨ht, hg, ha, rfl, he⟩

theorem stagedTrims_keeps {t : List Trim} (ht : t.length = 24) (x : Lane) :
    LaneKeeps x { x with sound := { x.sound with stagedTrims := some t } } :=
  .of_sound id fun ⟨hr, hg, ha, _, he⟩ => ⟨hr, hg, ha, by simpa using ht, he⟩

/-! ## The change of state -/

theorem laneFieldsOk_settleLane (st : LaneState) (c : Cause) (x : Lane) : laneFieldsOk (settleLane st c x) :=
  ⟨fun h => ⟨if_neg h, if_neg h, if_neg h⟩, fun h => if_neg (not_or.2 h), fun h => if_neg h, fun h => if_neg h⟩

theorem settleLane_keeps (st : LaneState) (c : Cause) (x : Lane) : LaneKeeps x (settleLane st c x) :=
  ⟨⟨⟨fun _ => laneFieldsOk_settleLane st c x, id, fun ⟨ha, _, ho⟩ => ⟨ha, targetGains_ok, ho⟩, id,
    fun ⟨ht, _, ha, hr⟩ => ⟨ht, (targetGains_length ..).trans ht, ha, hr⟩⟩, id⟩, .refl x⟩

/-! ## Stores of the overlay -/

/-- A change of the overlay alone, its stores well kept. -/
theorem LaneKeeps.of_overlay {x : Lane} {o : Overlay} (h : storesOk x → storesOk { x with overlay := o }) :
    LaneKeeps x { x with overlay := o } := ⟨⟨⟨id, id, id, h, id⟩, id⟩, .refl x⟩

/-- The bytes of bitmap memory that a lane's stores hold. -/
def heldTotal (o : Overlay) : Nat :=
  o.current1.heldBytes + o.current2.heldBytes + o.next1.heldBytes + o.next2.heldBytes

theorem heldTotal_setStore (o : Overlay) (pl : Place) (st : Store) :
    heldTotal (setStore o pl st) + (getStore o pl).heldBytes = heldTotal o + st.heldBytes := by
  cases pl <;> simp only [heldTotal, setStore, getStore] <;> omega

theorem getStore_setStore_ne (o : Overlay) {pl q : Place} (st : Store) (h : q ≠ pl) :
    getStore (setStore o pl st) q = getStore o q := by
  cases pl <;> cases q <;> first | rfl | exact absurd rfl h

theorem storesOk_iff (x : Lane) :
    storesOk x ↔
      (∀ pl, (getStore x.overlay pl).recordsJudged = true → (getStore x.overlay pl).headerJudged = true) ∧
        heldTotal x.overlay ≤ 4194304 :=
  and_congr_left' ⟨fun h pl => h pl (by cases pl <;> simp [allPlaces]), fun h pl _ => h pl⟩

theorem storesOk_putStore {pl : Place} {st : Store} {x : Lane}
    (hj : st.recordsJudged = true → st.headerJudged = true)
    (hb : heldTotal x.overlay + st.heldBytes ≤ 4194304 + (getStore x.overlay pl).heldBytes)
    (h : storesOk x) : storesOk (putStore pl st x) := by
  rw [storesOk_iff] at h ⊢
  refine ⟨fun q => ?_, ?_⟩
  · by_cases hq : q = pl
    · subst hq; simpa [putStore] using hj
    · rw [putStore, getStore_setStore_ne _ _ hq]; exact h.1 q
  · have := heldTotal_setStore x.overlay pl st
    show heldTotal (setStore x.overlay pl st) ≤ 4194304
    omega

/-- A store put in a place, judged no further and no larger than the store there. -/
theorem putStore_keeps {pl : Place} {st : Store} {x : Lane}
    (hj : ((getStore x.overlay pl).recordsJudged = true → (getStore x.overlay pl).headerJudged = true) →
      st.recordsJudged = true → st.headerJudged = true)
    (hb : st.heldBytes ≤ (getStore x.overlay pl).heldBytes) : LaneKeeps x (putStore pl st x) :=
  .of_overlay fun h => by
    have hs := (storesOk_iff x).1 h
    exact storesOk_putStore (hj (hs.1 pl)) (by omega) h

theorem noStore_keeps {pl : Place} {st : Store} {x : Lane} (hj : st.recordsJudged = false)
    (hb : st.heldBytes = 0) : LaneKeeps x (putStore pl st x) :=
  putStore_keeps (fun _ h => absurd h (by simp [hj])) (by omega)

/-- What a place holds once its store is asked for (R127). -/
def askedStore (loaded : Option Show) (reel : Nat) (t : Subtitle) : Store :=
  match loaded with
  | none => { noStore with reel := reel }
  | some sh => freshStore sh reel t

theorem askStore_eq (reel : Nat) (x : Lane) (pl : Place) :
    askStore reel x pl =
      setIndicatorIf (decide ((askedStore x.loaded reel (placeTrack pl)).state = .lost)) .subtitleLost
        (putStore pl (askedStore x.loaded reel (placeTrack pl)) x) := by
  unfold askStore askedStore freshStore askedState
  cases x.loaded with
  | none => rfl
  | some sh =>
    dsimp only [Option.bind_some]
    rcases Option.eq_none_or_eq_some ((nthReel sh reel).bind fun r => r.subtitles.get (placeTrack pl))
      with hp | ⟨t, hp⟩
    · simp only [hp]; rfl
    · by_cases h : t.chunks = 0
      · simp only [hp, h, if_true]; rfl
      · simp only [hp, h, if_false]; rfl

theorem askedStore_blank (loaded : Option Show) (reel : Nat) (t : Subtitle) :
    (askedStore loaded reel t).recordsJudged = false ∧ (askedStore loaded reel t).heldBytes = 0 := by
  cases loaded <;> exact ⟨rfl, rfl⟩

theorem askStore_keeps (reel : Nat) (x : Lane) (pl : Place) : LaneKeeps x (askStore reel x pl) := by
  rw [askStore_eq]
  obtain ⟨hj, hb⟩ := askedStore_blank x.loaded reel (placeTrack pl)
  exact (noStore_keeps hj hb).trans (setIndicatorIf_keeps _ _ _)

theorem foldl_keeps {α : Type} {f : Lane → α → Lane} (h : ∀ x a, LaneKeeps x (f x a)) (as : List α)
    (x : Lane) : LaneKeeps x (as.foldl f x) := by
  induction as generalizing x with
  | nil => exact .refl x
  | cons a as ih => exact (h x a).trans (ih _)

theorem askReel_keeps (reel : Nat) (x : Lane) : LaneKeeps x (askReel reel x) :=
  (foldl_keeps (askStore_keeps _) _ _).trans (foldl_keeps (askStore_keeps _) _ _)

theorem freeStores_keeps (x : Lane) : LaneKeeps x (freeStores x) :=
  .of_overlay fun _ => by
    rw [storesOk_iff]
    exact ⟨fun pl h => by cases pl <;> exact absurd (a := false = true) h Bool.false_ne_true, Nat.zero_le _⟩

theorem dropWanted_keeps (t : Subtitle) (reel : Nat) (x : Lane) : LaneKeeps x (dropWanted t reel x) := by
  unfold dropWanted
  split
  · exact .of_watched rfl
  · exact .refl x

theorem pendPalettes_keeps (x : Lane) : LaneKeeps x (pendPalettes x) := .of_overlay id

@[simp] theorem setIndicatorIf_overlay (c : Bool) (i : Indicator) (x : Lane) :
    (setIndicatorIf c i x).overlay = x.overlay := by cases c <;> rfl

@[simp] theorem setIndicatorIf_loaded (c : Bool) (i : Indicator) (x : Lane) :
    (setIndicatorIf c i x).loaded = x.loaded := by cases c <;> rfl

@[simp] theorem askStore_overlay (reel : Nat) (x : Lane) (pl : Place) :
    (askStore reel x pl).overlay = setStore x.overlay pl (askedStore x.loaded reel (placeTrack pl)) := by
  rw [askStore_eq, setIndicatorIf_overlay]; rfl

@[simp] theorem askStore_loaded (reel : Nat) (x : Lane) (pl : Place) :
    (askStore reel x pl).loaded = x.loaded := by
  rw [askStore_eq, setIndicatorIf_loaded]; rfl

@[simp] theorem dropWanted_overlay (t : Subtitle) (reel : Nat) (x : Lane) :
    (dropWanted t reel x).overlay = x.overlay := by unfold dropWanted; split <;> rfl

@[simp] theorem dropWanted_loaded (t : Subtitle) (reel : Nat) (x : Lane) :
    (dropWanted t reel x).loaded = x.loaded := by unfold dropWanted; split <;> rfl

/-- The stores move up: the next ones are the current ones, and the next places are asked for anew (R133). -/
theorem succession_overlay (i : Nat) (x : Lane) :
    (succession i x).overlay =
      { x.overlay with
        current1 := x.overlay.next1
        current2 := x.overlay.next2
        next1 := askedStore x.loaded (i + 1) .one
        next2 := askedStore x.loaded (i + 1) .two
        palettePending := ⟨true, true⟩ } := by
  simp only [succession, List.foldl_cons, List.foldl_nil, pendPalettes, askStore_overlay, askStore_loaded,
    dropWanted_overlay, dropWanted_loaded, setStore, placeTrack]

/-- The part of a lane beside its overlay of which the invariants speak. -/
def besideOverlay (x : Lane) : Lane := watched { x with overlay := initialOverlay }

/-- A change of the overlay and of fields that no invariant reads. -/
theorem LaneKeeps.of_besideOverlay {x y : Lane} (h : besideOverlay y = besideOverlay x)
    (hs : storesOk x → storesOk y) : LaneKeeps x y where
  fields hx := show laneFieldsOk (besideOverlay y) by rw [h]; exact hx
  list hx := show listOk (besideOverlay y) by rw [h]; exact hx
  window hx := show windowOk (besideOverlay y) by rw [h]; exact hx
  sound hx := show soundOk (besideOverlay y) by rw [h]; exact hx
  stores := hs
  shape hx := show laneShapeOk (besideOverlay y) by rw [h]; exact hx
  queue := show QueueKept (besideOverlay x) (besideOverlay y) by rw [h]; exact .refl _

@[simp] theorem besideOverlay_setIndicatorIf (c : Bool) (i : Indicator) (x : Lane) :
    besideOverlay (setIndicatorIf c i x) = besideOverlay x := by cases c <;> rfl

@[simp] theorem besideOverlay_askStore (reel : Nat) (x : Lane) (pl : Place) :
    besideOverlay (askStore reel x pl) = besideOverlay x := by
  rw [askStore_eq, besideOverlay_setIndicatorIf]; rfl

@[simp] theorem besideOverlay_dropWanted (t : Subtitle) (reel : Nat) (x : Lane) :
    besideOverlay (dropWanted t reel x) = besideOverlay x := by unfold dropWanted; split <;> rfl

theorem besideOverlay_succession (i : Nat) (x : Lane) :
    besideOverlay (succession i x) = besideOverlay x :=
  calc besideOverlay (succession i x)
      = besideOverlay (askStore (i + 1) (askStore (i + 1) _ .next1) .next2) := rfl
    _ = besideOverlay (dropWanted .two (servedReel x) (dropWanted .one (servedReel x) x)) := by
      rw [besideOverlay_askStore, besideOverlay_askStore]; rfl
    _ = besideOverlay x := by rw [besideOverlay_dropWanted, besideOverlay_dropWanted]

theorem succession_keeps (i : Nat) (x : Lane) : LaneKeeps x (succession i x) := by
  refine .of_besideOverlay (besideOverlay_succession i x) fun h => ?_
  obtain ⟨hj, hb⟩ := (storesOk_iff x).1 h
  rw [storesOk_iff, succession_overlay]
  refine ⟨fun pl => ?_, ?_⟩
  · cases pl with
    | current1 => exact hj .next1
    | current2 => exact hj .next2
    | next1 => exact fun h => absurd h (by simp [getStore, askedStore_blank])
    | next2 => exact fun h => absurd h (by simp [getStore, askedStore_blank])
  · simp only [heldTotal, askedStore_blank] at hb ⊢
    omega

end Sys2Proof.Machine
end

section
/-! What each change of one lane keeps, continued: the container (R128 to R131), the queues (R49 to R69), the
awaiting-confirmation list and the tally (R94 to R117), the changes that begin and end a show. -/

namespace Sys2Proof.Machine

/-! ## The container -/

theorem cueBytes_allocate_le (free : Nat) (cs : List Cue) : cueBytes (allocate free cs) ≤ free := by
  induction cs generalizing free with
  | nil => exact Nat.zero_le _
  | cons c cs ih =>
    rw [allocate]
    split
    · have := ih (free - c.w * c.h)
      simp only [cueBytes, List.map_cons, List.sum_cons] at this ⊢
      omega
    · exact Nat.zero_le _

theorem loseStore_keeps (pl : Place) (loss : StoreLoss) (x : Lane) : LaneKeeps x (loseStore pl loss x) := by
  refine LaneKeeps.indicator (LaneKeeps.trans ?_ (dropWanted_keeps _ _ _)) _
  exact putStore_keeps id (Nat.zero_le _)

theorem judgeStore_keeps {pl : Place} {x : Lane} (h : (getStore x.overlay pl).headerJudged = true) :
    LaneKeeps x (judgeStore pl x) := by
  unfold judgeStore
  dsimp only
  split
  · exact .refl x
  · refine LaneKeeps.indicatorIf ?_ _ _
    refine .of_overlay fun hs => storesOk_putStore (fun _ => h) ?_ hs
    have hfree := cueBytes_allocate_le (freeBitmap x.overlay)
    have htotal := ((storesOk_iff x).1 hs).2
    refine le_trans (Nat.add_le_add_left (hfree _) _) ?_
    have : freeBitmap x.overlay = 4194304 - heldTotal x.overlay := rfl
    omega

theorem decodeStore_keeps (pl : Place) (x : Lane) : LaneKeeps x (decodeStore pl x) := by
  have hput : LaneKeeps x (putStore pl { getStore x.overlay pl with
      state := .decoded
      cues := (getStore x.overlay pl).cues.map (withBitmap (getStore x.overlay pl).received)
      received := [] } x) := putStore_keeps id le_rfl
  unfold decodeStore
  dsimp only
  split
  · exact hput.trans (.of_overlay id)
  · exact hput

theorem judgeHeader_keeps (pl : Place) (x : Lane) : LaneKeeps x (judgeHeader pl x) := by
  unfold judgeHeader
  dsimp only
  split
  · exact .refl x
  · split
    · exact loseStore_keeps pl .container x
    · exact putStore_keeps (fun _ _ => rfl) le_rfl

theorem judgeExcess_keeps (pl : Place) (x : Lane) : LaneKeeps x (judgeExcess pl x) := by
  unfold judgeExcess
  dsimp only
  split
  · exact loseStore_keeps pl .container x
  · exact .refl x

theorem judgeCues_keeps (pl : Place) (x : Lane) : LaneKeeps x (judgeCues pl x) := by
  unfold judgeCues
  dsimp only
  split
  · next h => exact judgeStore_keeps h.2.1
  · exact .refl x

theorem judgeEnd_keeps (chunks : Nat) (pl : Place) (x : Lane) : LaneKeeps x (judgeEnd chunks pl x) := by
  unfold judgeEnd
  dsimp only
  split
  · exact .refl x
  · split
    · exact decodeStore_keeps pl x
    · exact loseStore_keeps pl .container x

theorem receiveChunk_keeps (chunks : Nat) (content : List Byte) (pl : Place) (x : Lane) :
    LaneKeeps x (receiveChunk chunks content pl x) := by
  have hput : LaneKeeps x (putStore pl { getStore x.overlay pl with
      received := (getStore x.overlay pl).received ++ content
      fetchChunk := (getStore x.overlay pl).fetchChunk + 1 } x) := putStore_keeps id le_rfl
  exact ((((hput.trans (judgeHeader_keeps pl _)).trans (judgeExcess_keeps pl _)).trans
    (judgeCues_keeps pl _)).trans (judgeEnd_keeps chunks pl _))

/-! ## Queues -/

/-- A change of the essence tracks alone under which no queue grows. -/
theorem LaneKeeps.of_tracks {x : Lane} {q : PerEssence EssenceTrack}
    (h : ∀ e, (q.get e).queue.length ≤ (x.tracks.get e).queue.length) : LaneKeeps x { x with tracks := q } :=
  ⟨⟨⟨id, id, id, id, id⟩, id⟩, .inl ⟨h, rfl⟩⟩

theorem setTrack_keeps {x : Lane} {e : Essence} {t : EssenceTrack}
    (h : t.queue.length ≤ (x.tracks.get e).queue.length) :
    LaneKeeps x { x with tracks := x.tracks.set e t } :=
  .of_tracks fun f => by
    by_cases hf : f = e
    · subst hf; rw [PerEssence.get_set_self]; exact h
    · rw [PerEssence.get_set_ne _ _ hf]

theorem advanceFetch_keeps (sh : Show) (e : Essence) (pos : Position) (x : Lane) :
    LaneKeeps x (advanceFetch sh e pos x) := setTrack_keeps le_rfl

theorem placeResult_core (e : Essence) (pos : Position) (body : EntryBody) (x : Lane) :
    LaneCore x (placeResult e pos body x) := by
  unfold placeResult
  split
  · exact .refl x
  · split
    · exact .refl x
    · refine LaneCore.trans ?_ (setIndicatorIf_keeps _ _ _).toLaneCore
      exact ⟨⟨id, id, id, id, id⟩, id⟩

theorem consumeTrack_length (sh : Show) (e : Essence) (p : Nat) (t : EssenceTrack) :
    (consumeTrack sh e p t).queue.length ≤ t.queue.length := by
  have hdrop : (if t.queue.head?.any fun n => decide (n.showFrame = p) then t.queue.drop 1
      else t.queue).length ≤ t.queue.length := by
    split
    · rw [List.length_drop]; omega
    · exact le_rfl
  unfold consumeTrack
  dsimp only
  split
  · exact hdrop
  · split <;> exact hdrop

theorem consumeTracks_keeps (sh : Show) (p : Nat) (x : Lane) : LaneKeeps x (consumeTracks sh p x) :=
  .of_tracks fun e => by cases e <;> exact consumeTrack_length sh _ p _

theorem liftWaits_keeps (x : Lane) : LaneKeeps x (liftWaits x) := by
  unfold liftWaits
  split
  · refine LaneKeeps.trans (LaneKeeps.of_tracks (q := ⟨{ x.tracks.picture with waiting := false },
      { x.tracks.main with waiting := false }, { x.tracks.aux with waiting := false }⟩)
      fun e => by cases e <;> exact le_rfl) (.of_overlay fun h => ?_)
    obtain ⟨hj, hb⟩ := (storesOk_iff _).1 h
    rw [storesOk_iff]
    exact ⟨fun pl => by
      cases pl with
      | current1 => exact hj .current1
      | current2 => exact hj .current2
      | next1 => exact hj .next1
      | next2 => exact hj .next2, hb⟩
  · exact .refl x

theorem liftWaits_state (x : Lane) : (liftWaits x).state = x.state := by unfold liftWaits; split <;> rfl

theorem beginBoundary_keeps (x : Lane) : LaneKeeps x (beginBoundary x) :=
  ((endPeriod_keeps x).trans (swapStaged_keeps _)).trans (liftWaits_keeps _)

theorem beginBoundary_state (x : Lane) : (beginBoundary x).state = x.state :=
  (liftWaits_state _).trans ((swapStaged_state _).trans (endPeriod_state x))

theorem flushTo_keeps (reel : Nat) (x : Lane) : LaneKeeps x (flushTo reel x) := by
  unfold flushTo
  split
  · exact .refl x
  · exact ⟨⟨⟨id, id, id, id, id⟩, id⟩, .inr fun e => by cases e <;> rfl⟩

/-! ## The awaiting-confirmation list (R117) -/

theorem consecutive_tail {e : Awaiting} {xs : List Awaiting} {n : Nat} (h : consecutive (e :: xs) n) :
    consecutive xs n := by
  cases xs with
  | nil => trivial
  | cons f xs => exact h.2

theorem consecutive_of_suffix {xs ys : List Awaiting} {n : Nat} (hs : ys <:+ xs) (h : consecutive xs n) :
    consecutive ys n := by
  induction xs with
  | nil => rw [List.suffix_nil.1 hs]; exact h
  | cons e xs ih =>
    rcases List.suffix_cons_iff.1 hs with rfl | hs'
    · exact h
    · exact ih hs' (consecutive_tail h)

theorem consecutive_append {xs : List Awaiting} {e : Awaiting} (h : consecutive xs e.seq) :
    consecutive (xs ++ [e]) (nextSeq e.seq) := by
  induction xs with
  | nil => rfl
  | cons f xs ih =>
    cases xs with
    | nil => exact ⟨h, rfl⟩
    | cons g xs => exact ⟨h.1, ih h.2⟩

theorem afterMarks_suffix (xs : List Awaiting) : afterMarks xs <:+ xs := by
  have := List.takeWhile_prefix (l := xs.reverse) fun e => !e.runMark
  exact List.reverse_prefix.1 (by rwa [afterMarks, List.reverse_reverse])

theorem splitAtSeq_suffix {seq n : Nat} {e : Awaiting} {xs ys : List Awaiting}
    (h : splitAtSeq seq xs = some (n, e, ys)) : ys <:+ xs := by
  induction xs generalizing n with
  | nil => cases h
  | cons f xs ih =>
    rw [splitAtSeq] at h
    split at h
    · cases h; exact List.suffix_cons _ _
    · obtain ⟨⟨m, e', ys'⟩, hr, heq⟩ := Option.map_eq_some_iff.1 h
      cases heq
      exact (ih hr).trans (List.suffix_cons _ _)

/-- A list cut to its end under the same sequence counter and link state. -/
theorem listOk_of_suffix {x y : Lane} (hs : y.link.awaiting <:+ x.link.awaiting)
    (hq : y.link.seq = x.link.seq) (hst : y.link.state = x.link.state) (h : listOk x) : listOk y := by
  obtain ⟨hlen, hcons, hnil⟩ := h
  refine ⟨hs.length_le.trans hlen, hq ▸ consecutive_of_suffix hs hcons, fun hn => ?_⟩
  rw [hst] at hn
  rw [hnil hn] at hs
  exact List.suffix_nil.1 hs

theorem listOk_of_nil {x : Lane} (h : x.link.awaiting = []) : listOk x := by
  unfold listOk
  rw [h]
  exact ⟨Nat.zero_le _, trivial, fun _ => rfl⟩

/-- The part of a lane beside its link of which the invariants speak. -/
def besideLink (x : Lane) : Lane := watched { x with link := initialLink }

/-- A change of the link and of fields that no invariant reads. -/
theorem LaneApart.of_besideLink {x y : Lane} (h : besideLink y = besideLink x)
    (hl : listOk x → listOk y) : LaneApart x y where
  fields hx := show laneFieldsOk (besideLink y) by rw [h]; exact hx
  list := hl
  sound hx := show soundOk (besideLink y) by rw [h]; exact hx
  stores hx := show storesOk (besideLink y) by rw [h]; exact hx
  shape hx := show laneShapeOk (besideLink y) by rw [h]; exact hx

theorem QueueKept.of_besideLink {x y : Lane} (h : besideLink y = besideLink x) : QueueKept x y :=
  show QueueKept (besideLink x) (besideLink y) by rw [h]; exact .refl _

/-- A change of the link that leaves its list, its counter and its state. -/
theorem LaneKeeps.of_link {x : Lane} {k : Link} (ha : k.awaiting = x.link.awaiting)
    (hq : k.seq = x.link.seq) (hst : k.state = x.link.state) : LaneKeeps x { x with link := k } where
  toLaneApart := .of_besideLink rfl (listOk_of_suffix (y := { x with link := k })
    (ha ▸ List.suffix_refl _) hq hst)
  window h hp := by
    have := h hp
    show hasMark k.awaiting = true
    rw [ha]; exact this
  queue := .refl x

/-- A change of the link to a state with its list empty, as it was or outside LOCKED. -/
theorem LaneKeeps.of_link_unlocked {x : Lane} {k : Link} (ha : k.awaiting = x.link.awaiting)
    (hn : x.link.state ≠ .locked) : LaneKeeps x { x with link := k } where
  toLaneApart := .of_besideLink rfl fun h => listOk_of_nil (ha.trans (h.2.2 hn))
  window h hp := by
    have := h hp
    show hasMark k.awaiting = true
    rw [ha]; exact this
  queue := .refl x

theorem LaneKeeps.of_link_emptied {x : Lane} {k : Link} (ha : k.awaiting = x.link.awaiting)
    (hn : x.link.awaiting = []) : LaneKeeps x { x with link := k } where
  toLaneApart := .of_besideLink rfl fun _ => listOk_of_nil (ha.trans hn)
  window h hp := by
    have := h hp
    show hasMark k.awaiting = true
    rw [ha]; exact this
  queue := .refl x

@[simp] theorem dropUnseen_link (rest : List Awaiting) (n : Nat) (x : Lane) :
    (dropUnseen rest n x).link =
      { x.link with awaiting := rest, unseen := saturate16 (x.link.unseen + n) } := by
  unfold dropUnseen setIndicatorIf; split <;> rfl

@[simp] theorem dropUnseen_tally (rest : List Awaiting) (n : Nat) (x : Lane) :
    (dropUnseen rest n x).tally = x.tally := by unfold dropUnseen setIndicatorIf; split <;> rfl

@[simp] theorem dropUnseen_state (rest : List Awaiting) (n : Nat) (x : Lane) :
    (dropUnseen rest n x).state = x.state := by unfold dropUnseen setIndicatorIf; split <;> rfl

@[simp] theorem besideLink_dropUnseen (rest : List Awaiting) (n : Nat) (x : Lane) :
    besideLink (dropUnseen rest n x) = besideLink x := by unfold dropUnseen setIndicatorIf; split <;> rfl

/-- The list cut to its end: every invariant but that of the closing window passes. -/
theorem dropUnseen_apart {rest : List Awaiting} {n : Nat} {x : Lane} (h : rest <:+ x.link.awaiting) :
    LaneApart x (dropUnseen rest n x) :=
  .of_besideLink (besideLink_dropUnseen _ _ _)
    (listOk_of_suffix (by rw [dropUnseen_link]; exact h) (by rw [dropUnseen_link]) (by rw [dropUnseen_link]))

theorem dropUnseen_queue (rest : List Awaiting) (n : Nat) (x : Lane) :
    QueueKept x (dropUnseen rest n x) := .of_besideLink (besideLink_dropUnseen _ _ _)

/-! ## The tally -/

/-- A change of the tally alone, no longer than 8 entries and open no further than its list. -/
theorem LaneKeeps.of_tally {x : Lane} {t : Tally} (hn : t.entries.length = x.tally.entries.length)
    (hp : t.phase = .closing → x.tally.phase = .closing) : LaneKeeps x { x with tally := t } :=
  ⟨⟨⟨id, id, id, id, fun ⟨hr, ht, ha, hs, he, hf⟩ => ⟨hr, ht, ha, hs, hn ▸ he, hf⟩⟩,
    fun h hc => h (hp hc)⟩, .refl x⟩

/-- A lane's tally as closing leaves it, its list cut after the last entry of the run (R102). -/
def closedLane (x : Lane) : Lane := { dropMarked x with tally := closedTally x.tally }

theorem closedLane_keeps (x : Lane) : LaneKeeps x (closedLane x) := by
  have hdrop : LaneApart x (dropMarked x) := dropUnseen_apart (afterMarks_suffix _)
  have htally : LaneApart (dropMarked x) (closedLane x) :=
    (LaneKeeps.of_tally (t := closedTally x.tally)
      (by rw [dropMarked, dropUnseen_tally]; exact List.length_map _)
      fun h => absurd h (by simp [closedTally])).toLaneApart
  exact ⟨⟨hdrop.trans htally, fun _ h => absurd h (by simp [closedLane, closedTally])⟩,
    (dropUnseen_queue _ _ x).trans (.refl _)⟩

@[simp] theorem closedLane_state (x : Lane) : (closedLane x).state = x.state := dropUnseen_state _ _ x

/-- A lane whose CLOSING tally has no entry of its run left in the list is closed (R101). -/
def drainedLane (x : Lane) : Lane :=
  if x.tally.phase = .closing ∧ hasMark x.link.awaiting = false then closedLane x else x

theorem drainedLane_keeps (x : Lane) : LaneKeeps x (drainedLane x) := by
  unfold drainedLane
  split
  · exact closedLane_keeps x
  · exact .refl x

@[simp] theorem drainedLane_state (x : Lane) : (drainedLane x).state = x.state := by
  unfold drainedLane
  split
  · exact closedLane_state x
  · rfl

/-- Once drained, a CLOSING tally has an entry of its run in the list, whatever stood before. -/
theorem windowOk_drainedLane (x : Lane) : windowOk (drainedLane x) := by
  unfold drainedLane
  split
  · exact fun h => absurd h (by simp [closedLane, closedTally])
  · next h => exact fun hc => by simpa using fun hm => h ⟨hc, hm⟩

theorem drainedLane_link (x : Lane) :
    (drainedLane x).link.awaiting <:+ x.link.awaiting ∧ (drainedLane x).link.seq = x.link.seq ∧
      (drainedLane x).link.state = x.link.state := by
  unfold drainedLane
  split
  · have hlink : (closedLane x).link = (dropMarked x).link := rfl
    rw [hlink, dropMarked, dropUnseen_link]
    exact ⟨afterMarks_suffix _, rfl, rfl⟩
  · exact ⟨List.suffix_refl _, rfl, rfl⟩

theorem departLane_apart (x : Lane) : LaneApart x (departLane x) := by
  have hlist : listOk (departLane x) := listOk_of_nil (by simp [departLane, dropAll])
  have hdrop : LaneApart x (dropAll x) := dropUnseen_apart (List.nil_suffix)
  exact ⟨hdrop.fields, fun _ => hlist, hdrop.sound, hdrop.stores, hdrop.shape⟩

theorem departLane_queue (x : Lane) : QueueKept x (departLane x) := dropUnseen_queue [] _ x

@[simp] theorem departLane_state (x : Lane) : (departLane x).state = x.state := dropUnseen_state _ _ x

theorem makeRoom_apart (x : Lane) : LaneApart x (makeRoom x) := by
  unfold makeRoom
  split
  · exact dropUnseen_apart (List.drop_suffix 1 _)
  · exact (LaneKeeps.refl x).toLaneApart

theorem makeRoom_queue (x : Lane) : QueueKept x (makeRoom x) := by
  unfold makeRoom
  split
  · exact dropUnseen_queue _ _ x
  · exact .refl x

theorem makeRoom_state (x : Lane) : (makeRoom x).state = x.state := by
  unfold makeRoom
  split
  · exact dropUnseen_state _ _ x
  · rfl

theorem makeRoom_link (x : Lane) :
    (makeRoom x).link.seq = x.link.seq ∧ (makeRoom x).link.state = x.link.state ∧
      (x.link.awaiting.length ≤ 8 → (makeRoom x).link.awaiting.length ≤ 7) := by
  unfold makeRoom
  split
  · rw [dropUnseen_link]
    exact ⟨rfl, rfl, fun h => by simp only [List.length_drop]; omega⟩
  · next h => exact ⟨rfl, rfl, fun _ => by unfold Config.awaitingDepth at h; omega⟩

/-- A record joins a list with room for it, on a LOCKED link (R117). -/
theorem afterRecord_keeps {pic : Picture} {tiles : List TileUpdate} {map : List Nat} {x : Lane}
    (hst : x.link.state = .locked) (hroom : x.link.awaiting.length ≤ 7) :
    LaneKeeps x (afterRecord pic tiles map x) where
  fields := id
  list := fun ⟨_, hc, _⟩ => ⟨by
    show (x.link.awaiting ++ [awaitingEntry pic x]).length ≤ Config.awaitingDepth
    rw [List.length_append, List.length_singleton]
    unfold Config.awaitingDepth
    omega, consecutive_append (e := awaitingEntry pic x) hc, fun h => absurd hst h⟩
  window h hp := by
    have := h hp
    show hasMark (x.link.awaiting ++ [awaitingEntry pic x]) = true
    simp only [hasMark, List.any_append, Bool.or_eq_true] at this ⊢
    exact .inl this
  sound := id
  stores := id
  shape := id
  queue := .refl x

/-! ## Changes that begin and end a show -/

theorem runLane_keeps {x : Lane} (h : laneFieldsOk x) : LaneKeeps x (runLane x) := by
  have htally : LaneKeeps x { x with tally := runningTally x.tally } :=
    .of_tally (List.length_map _) fun h => absurd h (by simp [runningTally])
  have hstart := gainsAtStart_keeps
    { x with
      hold := none
      starveRun := 0
      linkGrace := 0
      lastCause := .none
      lastReal := none
      tally := runningTally x.tally }
  exact ⟨⟨⟨fun _ => ⟨fun _ => ⟨rfl, rfl, rfl⟩, h.2⟩, htally.list, hstart.sound, id, hstart.shape ∘ htally.shape⟩,
    htally.window⟩, .refl x⟩

theorem resumeLane_keeps (x : Lane) : LaneKeeps x (resumeLane x) := by
  have hmute := muteAtOnce_keeps x
  exact ⟨⟨⟨fun h => ⟨fun _ => ⟨rfl, rfl, rfl⟩, h.2⟩, id, hmute.sound, id, hmute.shape⟩, id⟩, .refl x⟩

/-- The show copy with a tally of at most 8 entries, before its stores are asked for. -/
theorem loadLane_keeps {records : List (Option Licence)} {sh : Show} (x : Lane)
    (h : (showLicences sh.reels).length ≤ 8) : LaneKeeps x (loadLane records sh x) := by
  refine LaneKeeps.trans (y := { x with
    loaded := some sh
    p := 0
    tally := builtTally records sh
    tracks :=
      ⟨⟨[], firstPosition sh .picture 1, false, none⟩, ⟨[], firstPosition sh .main 1, false, none⟩,
        ⟨[], firstPosition sh .aux 1, false, none⟩⟩
    subWanted := ⟨none, none⟩
    lastReal := none
    scanner := clearScanner }) ?_ (askReel_keeps 1 _)
  refine ⟨⟨⟨id, id, id, id, fun ⟨hr, ht, ha, hs, _, hf⟩ => ⟨hr, ht, ha, hs, ?_, hf⟩⟩,
    fun _ hc => absurd hc (by simp [builtTally])⟩, .inr fun e => by cases e <;> rfl⟩
  simpa [builtTally] using h

theorem emptyLane_keeps (x : Lane) : LaneKeeps x (emptyLane x) := by
  have hfree := freeStores_keeps x
  exact ⟨⟨⟨id, id, id, hfree.stores, fun ⟨hr, ht, ha, hs, _, hf⟩ => ⟨hr, ht, ha, hs, Nat.zero_le _, hf⟩⟩,
    fun _ hc => absurd hc (by simp [emptyLane, absentTally])⟩, .inr fun e => by cases e <;> rfl⟩

theorem unloadLane_keeps (x : Lane) : LaneKeeps x (unloadLane x) :=
  ((emptyLane_keeps x).trans (.of_watched (y := { emptyLane x with lastCause := .unload }) rfl)).trans
    (unloadSound_keeps _)

theorem resetLane_keeps (x : Lane) : LaneKeeps x (resetLane x) := by
  have hempty := emptyLane_keeps x
  have hlink : LaneKeeps (emptyLane x) { emptyLane x with link := resetLink x.link } := .of_link rfl rfl rfl
  have hsound := resetSound_keeps { emptyLane x with link := resetLink x.link }
  have hkeep := (hempty.trans hlink).trans hsound
  exact ⟨⟨⟨hkeep.fields, hkeep.list, hkeep.sound, hkeep.stores, fun h => by
    obtain ⟨hr, ht, ha, hs, he, _⟩ := hkeep.shape h
    exact ⟨hr, ht, ha, hs, he, rfl⟩⟩, hkeep.window⟩, hkeep.queue⟩

theorem rewindLane_keeps (x : Lane) : LaneKeeps x (rewindLane x) := by
  have hflush := flushTo_keeps 1 x
  have htally : LaneKeeps (flushTo 1 x) { flushTo 1 x with tally := rebuiltTally x.tally } := by
    refine .of_tally ?_ fun h => absurd h (by simp [rebuiltTally])
    have : (flushTo 1 x).tally = x.tally := by unfold flushTo; split <;> rfl
    rw [this]
    exact List.length_map _
  have hrest : LaneKeeps { flushTo 1 x with tally := rebuiltTally x.tally }
      { flushTo 1 x with p := 0, tally := rebuiltTally x.tally, scanner := clearScanner } := .of_watched rfl
  exact (((hflush.trans htally).trans hrest).trans (freeStores_keeps _)).trans (askReel_keeps 1 _)

theorem seekLane_keeps (reel start : Nat) (x : Lane) : LaneKeeps x (seekLane reel start x) := by
  have hp : LaneKeeps (flushTo reel x) { flushTo reel x with p := start } := .of_watched rfl
  exact (((flushTo_keeps reel x).trans hp).trans (freeStores_keeps _)).trans (askReel_keeps reel _)

/-! ## The presenting boundary -/

theorem selectActive_keeps (sh : Show) (x : Lane) : LaneKeeps x (selectActive sh x) := by
  unfold selectActive
  split
  · exact .refl x
  · refine LaneKeeps.indicatorIf ?_ _ _
    exact .of_overlay id

theorem storesAtReelStart_keeps (x : Lane) : LaneKeeps x (storesAtReelStart x) := by
  unfold storesAtReelStart
  split
  · exact .refl x
  · split
    · exact .refl x
    · split
      · exact succession_keeps _ x
      · exact pendPalettes_keeps x

theorem state_of_besideOverlay {x y : Lane} (h : besideOverlay y = besideOverlay x) : y.state = x.state :=
  show (besideOverlay y).state = (besideOverlay x).state by rw [h]

theorem storesAtReelStart_state (x : Lane) : (storesAtReelStart x).state = x.state := by
  unfold storesAtReelStart
  split
  · rfl
  · split
    · rfl
    · split
      · exact state_of_besideOverlay (besideOverlay_succession _ x)
      · rfl

theorem selectActive_state (sh : Show) (x : Lane) : (selectActive sh x).state = x.state := by
  unfold selectActive
  split
  · rfl
  · exact setIndicatorIf_state _ _ _

theorem advanceLane_keeps (sh : Show) (real : Bool) {x : Lane} (h : x.state = .playing) :
    LaneKeeps x (advanceLane sh real x) := by
  have hq := consumeTracks_keeps sh x.p x
  exact ⟨⟨⟨fun hx => ⟨fun hn => absurd h hn, hx.2⟩, id, id, id, id⟩, id⟩, hq.queue⟩

theorem advanceHold_keeps {x : Lane} (h : x.state = .held ∨ x.state = .seeking) :
    LaneKeeps x (advanceHold x) :=
  ⟨⟨⟨fun ⟨hp, _, ha⟩ => ⟨hp, fun hn => absurd h (not_or.2 hn), ha⟩, id, id, id, id⟩, id⟩, .refl x⟩

theorem mergeHold_keeps (c : Cause) (w : HoldWhen) {x : Lane} (h : x.state = .playing) :
    LaneKeeps x (mergeHold c w x) :=
  ⟨⟨⟨fun hx => ⟨fun hn => absurd h hn, hx.2⟩, id, id, id, id⟩, id⟩, .refl x⟩

/-! ## Boots -/

theorem laneFieldsOk_bootLane (x : Lane) : laneFieldsOk (bootLane x) := by
  refine ⟨fun _ => ⟨rfl, rfl, rfl⟩, fun _ => rfl, fun _ => rfl, fun _ => rfl⟩

theorem bootLink_awaiting (line : Option LineFault) : (bootLink line).awaiting = [] := by cases line <;> rfl

theorem bootLane_keeps (x : Lane) : LaneKeeps x (bootLane x) where
  fields _ := laneFieldsOk_bootLane x
  list _ := listOk_of_nil (bootLink_awaiting _)
  window _ h := absurd h (by simp [bootLane, initialLane, absentTally])
  sound _ := ⟨allMute_ok, allMute_ok, silence_range⟩
  stores _ := (storesOk_iff _).2
    ⟨fun pl h => by cases pl <;> exact absurd (a := false = true) h Bool.false_ne_true, Nat.zero_le _⟩
  shape _ := ⟨rfl, rfl, rfl, rfl, Nat.zero_le _, rfl⟩
  queue := .inr fun e => by cases e <;> rfl

theorem rebootLane_keeps (x : Lane) : LaneKeeps x (rebootLane x) := by
  have hboot := bootLane_keeps x
  exact ⟨⟨⟨hboot.fields, hboot.list, fun ⟨_, _, ho⟩ => ⟨allMute_ok, allMute_ok, ho⟩, hboot.stores,
    hboot.shape⟩, hboot.window⟩, hboot.queue⟩

end Sys2Proof.Machine
end

section
/-! The work of one lane, operation by operation: the tally and the licences (R85 to R104), the cue scanner
(R157 to R161), the changes of lane state (R2 to R29), the projector link (R107 to R124). -/

namespace Sys2Proof.Machine

theorem foldl_induction {α β : Type} {R : β → β → Prop} {f : β → α → β} (hr : ∀ b, R b b)
    (ht : ∀ a b c, R a b → R b c → R a c) (h : ∀ b a, R b (f b a)) (as : List α) (b : β) :
    R b (as.foldl f b) := by
  induction as generalizing b with
  | nil => exact hr b
  | cons a as ih => exact ht _ _ _ (h b a) (ih _)

/-! ## Licences -/

theorem modLicences_work (f : LicenceTable → LicenceTable) (l : LaneId) (more : List (Nat × Nat)) (s : State) :
    LaneWork l more s (modLicences f s) where
  keeps := .of_lanes rfl rfl rfl rfl id (.inl rfl) fun _ => .refl _
  rest := .refl l s
  watch := id
  mem _ := .refl _ s

theorem evaluateAt_work (l : LaneId) (more : List (Nat × Nat)) (i : Nat) (s : State) :
    LaneWork l more s (evaluateAt i s) := by
  unfold evaluateAt
  split
  · exact .refl l more s
  · dsimp only
    split
    · exact .refl l more s
    · exact (modLicences_work _ l more s).trans ((offer_told _ _).work l more)

theorem evaluateAll_work (l : LaneId) (more : List (Nat × Nat)) (s : State) :
    LaneWork l more s (evaluateAll s) :=
  foldl_induction (.refl l more) (fun _ _ _ => .trans) (fun s i => evaluateAt_work l more i s) _ s

theorem evaluateLicence_work (l : LaneId) (more : List (Nat × Nat)) (id : Nat) (s : State) :
    LaneWork l more s (evaluateLicence id s) := by
  unfold evaluateLicence
  split
  · exact .refl l more s
  · exact evaluateAt_work l more _ s

theorem commitCount_work (l : LaneId) (more : List (Nat × Nat)) (id : Nat) (s : State) :
    LaneWork l more s (commitCount l id s) :=
  ((modLicences_work _ l more s).trans ((offer_told _ _).work l more)).trans (evaluateLicence_work l more id _)

/-! ## The tally -/

theorem closeTally_lane (l : LaneId) (w : WayClosed) (s : State) :
    (closeTally l w s).lane l = closedLane (s.lane l) := closeTally_lane_self l w s

theorem closeTally_work (l : LaneId) (more : List (Nat × Nat)) (w : WayClosed) (s : State) :
    LaneWork l more s (closeTally l w s) := by
  have hclose : LaneWork l more s ((releaseAll (reservedLicences (s.lane l).tally) s).modLane l closedLane) :=
    (modLicences_work _ l more s).trans (.modLane more (closedLane_keeps _) (closedLane_state _))
  unfold closeTally
  dsimp only
  split
  · exact hclose
  · exact hclose.trans ((offer_told _ _).work l more)

theorem checkDrained_lane_self (l : LaneId) (s : State) :
    (checkDrained l s).lane l = drainedLane (s.lane l) := by
  unfold checkDrained drainedLane
  split
  · exact closeTally_lane l .drained s
  · rfl

theorem checkDrained_work (l : LaneId) (more : List (Nat × Nat)) (s : State) :
    LaneWork l more s (checkDrained l s) := by
  unfold checkDrained
  split
  · exact closeTally_work l more .drained s
  · exact .refl l more s

/-- A change of a lane that may empty its closing window, the window looked to at its end (R101). -/
theorem LaneWork.drained {l : LaneId} {more : List (Nat × Nat)} {s u : State} {f : Lane → Lane}
    (ha : LaneApart (s.lane l) (f (s.lane l))) (hq : QueueKept (s.lane l) (f (s.lane l)))
    (hst : (f (s.lane l)).state = (s.lane l).state) (h : LaneWork l more (s.modLane l f) u) :
    LaneWork l more s (checkDrained l u) := by
  have hk := h.trans (checkDrained_work l more u)
  have hrest : restKept l s (s.modLane l f) :=
    ⟨fun _ hm => State.lane_modLane_ne _ _ hm, .refl s, ⟨rfl, rfl, rfl, rfl⟩, rfl, rfl, fun _ => rfl⟩
  have hlanes : ∀ m, LaneApart (s.lane m) ((s.modLane l f).lane m) :=
    forall_lane_of_self (fun x => (LaneKeeps.refl x).toLaneApart)
      (by rw [State.lane_modLane_self]; exact ha) fun _ hm => State.lane_modLane_ne _ _ hm
  have hqueues : ∀ m, QueueKept (s.lane m) ((s.modLane l f).lane m) :=
    forall_lane_of_self .refl (by rw [State.lane_modLane_self]; exact hq)
      fun _ hm => State.lane_modLane_ne _ _ hm
  have hshape : shapeOk s → shapeOk (s.modLane l f) :=
    fun ⟨hin, hix, hs⟩ => ⟨hin, hix, everyLane_mono (fun m => (hlanes m).shape) hs⟩
  refine ⟨⟨⟨hk.keeps.pending, hk.keeps.mem, hk.keeps.inputs, hk.keeps.ring, hk.keeps.device, fun m => ?_,
    fun hs => hk.keeps.queues (queuesOk_of_kept (s := s) (.inl rfl) hqueues hs)⟩, hrest.trans hk.rest, fun hs => ?_⟩,
    fun hs => hk.watch ?_⟩
  · refine ⟨(hlanes m).trans (hk.keeps.lanes m).toLaneApart, fun hw => ?_⟩
    by_cases hm : m = l
    · subst hm
      rw [checkDrained_lane_self]
      exact windowOk_drainedLane _
    · exact (hk.keeps.lanes m).window (by rw [State.lane_modLane_ne _ _ hm]; exact hw)
  · have := hk.mem (hshape hs)
    exact this
  · refine switchWatched_of_running (s := s) rfl (forall_lane_of_self (s := s)
      (P := fun x y => inRunStates x.state = true → inRunStates y.state = true) (fun _ => id) ?_
      fun _ hm => State.lane_modLane_ne _ _ hm) hs
    rw [State.lane_modLane_self, hst]
    exact id

/-- The tally of a run that ends: CLOSING, its window at 0 (R101). -/
def endedTally (c : Cause) (t : Tally) : Tally := { t with phase := .closing, window := 0, endCause := c }

/-- What the end of a run makes of a lane (R101). -/
def runEndLane (c : Cause) (x : Lane) : Lane :=
  if x.tally.phase = .running then drainedLane { x with tally := endedTally c x.tally } else x

theorem runEnd_lane_self (l : LaneId) (c : Cause) (s : State) :
    (runEnd l c s).lane l = runEndLane c (s.lane l) := by
  unfold runEnd runEndLane
  split
  · rw [checkDrained_lane_self, modTally, State.lane_modLane_self]
    rfl
  · rfl

theorem runEnd_work (l : LaneId) (more : List (Nat × Nat)) (c : Cause) (s : State) :
    LaneWork l more s (runEnd l c s) := by
  unfold runEnd
  split
  · exact .drained (f := fun x => { x with tally := endedTally c x.tally }) ⟨id, id, id, id, id⟩ (.refl _) rfl
      (.refl l more _)
  · exact .refl l more s

@[simp] theorem runEndLane_state (c : Cause) (x : Lane) : (runEndLane c x).state = x.state := by
  unfold runEndLane
  split
  · exact drainedLane_state _
  · rfl

theorem windowTick_work (l : LaneId) (more : List (Nat × Nat)) (s : State) :
    LaneWork l more s (windowTick l s) := by
  have hcount : LaneWork l more s (modTally l (fun t => { t with window := t.window + 1 }) s) :=
    .modLane more (.of_tally rfl id) rfl
  unfold windowTick
  split
  · dsimp only
    split
    · exact hcount.trans (closeTally_work l more .expired _)
    · exact hcount
  · exact .refl l more s

theorem closeAtOnce_work (l : LaneId) (more : List (Nat × Nat)) (w : WayClosed) (s : State) :
    LaneWork l more s (closeAtOnce l w s) := by
  unfold closeAtOnce
  split
  · exact closeTally_work l more w s
  · exact .refl l more s

theorem setEntry_work (l : LaneId) (more : List (Nat × Nat)) (i : Nat) (e : TallyEntry) (s : State) :
    LaneWork l more s (modTally l (fun t => { t with entries := t.entries.set i e }) s) :=
  .modLane more (.of_tally List.length_set id) rfl

theorem creditEntry_work (l : LaneId) (more : List (Nat × Nat)) (s : State) (i : Nat) :
    LaneWork l more s (creditEntry l s i) := by
  unfold creditEntry
  split
  · exact .refl l more s
  · split
    · split
      · exact (setEntry_work l more i _ s).trans (commitCount_work l more _ _)
      · exact setEntry_work l more i _ s
    · exact .refl l more s

theorem confirmFrame_work (l : LaneId) (more : List (Nat × Nat)) (e : Awaiting) (s : State) :
    LaneWork l more s (confirmFrame l e s) := by
  unfold confirmFrame
  split
  · exact foldl_induction (.refl l more) (fun _ _ _ => .trans) (creditEntry_work l more) _ s
  · exact .refl l more s

/-! ## The cue scanner -/

/-- Work of a lane that leaves its state, and the show copy with the cue table, where they are. -/
structure CueWork (l : LaneId) (more : List (Nat × Nat)) (s t : State) : Prop where
  work : LaneWork l more s t
  loaded : (t.lane l).loaded = (s.lane l).loaded
  state : (t.lane l).state = (s.lane l).state

theorem CueWork.refl (l : LaneId) (more : List (Nat × Nat)) (s : State) : CueWork l more s s :=
  ⟨.refl l more s, rfl, rfl⟩

theorem CueWork.trans {l : LaneId} {more : List (Nat × Nat)} {s t u : State} (h : CueWork l more s t)
    (k : CueWork l more t u) : CueWork l more s u := ⟨h.work.trans k.work, k.loaded.trans h.loaded, k.state.trans h.state⟩

theorem Told.cueWork {s t : State} (h : Told s t) (l : LaneId) (more : List (Nat × Nat)) :
    CueWork l more s t := ⟨h.work l more, by rw [h.reported.lane l], by rw [h.reported.lane l]⟩

theorem CueWork.watchedLane {s : State} {l : LaneId} {f : Lane → Lane} (more : List (Nat × Nat))
    (h : watched (f (s.lane l)) = watched (s.lane l)) (hl : (f (s.lane l)).loaded = (s.lane l).loaded) :
    CueWork l more s (s.modLane l f) := 
  ⟨.watchedLane more h, by rw [State.lane_modLane_self, hl], by
    rw [State.lane_modLane_self]
    show (watched (f (s.lane l))).state = (watched (s.lane l)).state
    rw [h]⟩

theorem partAreas_of_loaded {x y : Lane} (h : y.loaded = x.loaded) : partAreas y = partAreas x := by
  unfold partAreas cueTableOf
  rw [h]

theorem mem_partAreas {x : Lane} {t i : Nat} (h : cueTableOf x = some t) (hi : i < 32) :
    (partAddr t i, 8) ∈ partAreas x := by
  unfold partAreas
  rw [h]
  exact List.mem_map.2 ⟨i, List.mem_range.2 hi, rfl⟩

theorem hostWrite_work {h' : HostSide} {a : Nat} {bs : List Byte} {s : State} (l : LaneId)
    {more : List (Nat × Nat)} (h : hostWrite s.host a bs = some h') (hm : (a, bs.length) ∈ more) :
    LaneWork l more s { s with host := h' } where
  keeps := ⟨rfl, memWf_hostWrite h, id, id, id, fun _ => .refl _, id⟩
  rest := .refl l s
  watch := id
  mem _ := by
    unfold hostWrite at h
    split at h
    · cases h
    · cases h
      exact (putBytes_memKept a bs s).mono fun r hr => by
        rw [List.mem_singleton.1 hr]; exact List.mem_append_right _ hm

theorem writePart_work {l : LaneId} {more : List (Nat × Nat)} {s : State} {i : Nat}
    (hp : partAreas (s.lane l) ⊆ more) (hi : i < 32) : CueWork l more s (writePart l s i) := by
  unfold writePart
  split
  · exact .refl l more s
  · next t ht =>
    split
    · next h hw =>
      have hlen := partWord_length ((s.lane l).scanner.marks.getD i .clear)
      have hwork : LaneWork l more s { s with host := h } :=
        hostWrite_work l hw (by rw [hlen]; exact hp (mem_partAreas ht hi))
      exact ⟨hwork.trans (.watchedLane more rfl), by rw [modScanner, State.lane_modLane_self]; rfl, by
        rw [modScanner, State.lane_modLane_self]; rfl⟩
    · exact .watchedLane more rfl rfl

theorem writeParts_work {l : LaneId} {more : List (Nat × Nat)} {s : State} {is : List Nat}
    (hp : partAreas (s.lane l) ⊆ more) (hi : ∀ i ∈ is, i < 32) : CueWork l more s (writeParts l is s) := by
  unfold writeParts
  induction is generalizing s with
  | nil => exact .refl l more s
  | cons i is ih =>
    have hpart : CueWork l more s (writePart l s i) := writePart_work hp (hi i List.mem_cons_self)
    exact hpart.trans (ih (by rw [partAreas_of_loaded hpart.loaded]; exact hp)
      fun j hj => hi j (List.mem_cons_of_mem _ hj))

theorem modScanner_work (l : LaneId) (more : List (Nat × Nat)) (f : CueScanner → CueScanner) (s : State) :
    CueWork l more s (modScanner l f s) := .watchedLane more rfl rfl

theorem clearMarks_work {l : LaneId} {more : List (Nat × Nat)} {s : State}
    (hp : partAreas (s.lane l) ⊆ more) : CueWork l more s (clearMarks l s) := by
  have hmarks := modScanner_work l more (fun c => { c with marks := clearScanner.marks }) s
  exact hmarks.trans (writeParts_work (by rw [partAreas_of_loaded hmarks.loaded]; exact hp)
    fun i hi => List.mem_range.1 hi)

theorem clearMarksFrom_work {l : LaneId} {more : List (Nat × Nat)} {s : State} (start : Nat)
    (hp : partAreas (s.lane l) ⊆ more) : CueWork l more s (clearMarksFrom l start s) := by
  have hmarks := modScanner_work l more
    (fun c => { c with marks := c.marks.map fun m => if markAtOrAfter start m then .clear else m }) s
  exact hmarks.trans (writeParts_work (by rw [partAreas_of_loaded hmarks.loaded]; exact hp)
    fun i hi => List.mem_range.1 (List.mem_filter.1 hi).1)

theorem fireCue_work {l : LaneId} {more : List (Nat × Nat)} {s : State} {p i : Nat} (w : HostWord)
    (hp : partAreas (s.lane l) ⊆ more) (hi : i < 32) : CueWork l more s (fireCue l p i w s) := by
  have hfire : CueWork l more s (s.modLane l fun x =>
      { x with
        contacts := setContacts w.mask w.value x.contacts
        scanner := setMark i (.fired p w.position) x.scanner }) := .watchedLane more rfl rfl
  exact (hfire.trans (writePart_work (by rw [partAreas_of_loaded hfire.loaded]; exact hp) hi)).trans
    ((offer_told _ _).cueWork l more)

theorem missCue_work {l : LaneId} {more : List (Nat × Nat)} {s : State} {p i : Nat} (w : HostWord)
    (hp : partAreas (s.lane l) ⊆ more) (hi : i < 32) : CueWork l more s (missCue l p i w s) := by
  have hmark := modScanner_work l more (setMark i (.missed p w.position)) s
  have hpart := hmark.trans (writePart_work (i := i) (by rw [partAreas_of_loaded hmark.loaded]; exact hp) hi)
  exact (hpart.trans (.watchedLane more rfl rfl)).trans ((offer_told _ _).cueWork l more)

theorem judgeCue_work {l : LaneId} {more : List (Nat × Nat)} {s : State} {p n : Nat} {e : Nat × HostWord}
    (hp : partAreas (s.lane l) ⊆ more) (hi : e.1 < 32) : CueWork l more s (judgeCue l p n s e) := by
  unfold judgeCue
  split
  · exact .refl l more s
  · split
    · exact .refl l more s
    · split
      · exact fireCue_work e.2 hp hi
      · exact missCue_work e.2 hp hi

theorem judgeCues_work {l : LaneId} {more : List (Nat × Nat)} {s : State} {p n : Nat}
    {es : List (Nat × HostWord)} (hp : partAreas (s.lane l) ⊆ more) (hi : ∀ e ∈ es, e.1 < 32) :
    CueWork l more s (es.foldl (judgeCue l p n) s) := by
  induction es generalizing s with
  | nil => exact .refl l more s
  | cons e es ih =>
    have hcue : CueWork l more s (judgeCue l p n s e) := judgeCue_work hp (hi e List.mem_cons_self)
    exact hcue.trans (ih (by rw [partAreas_of_loaded hcue.loaded]; exact hp)
      fun f hf => hi f (List.mem_cons_of_mem _ hf))

theorem cueScan_work {l : LaneId} {more : List (Nat × Nat)} {s : State} (p n : Nat)
    (hp : partAreas (s.lane l) ⊆ more) : CueWork l more s (cueScan l p n s) := by
  unfold cueScan
  split
  · exact .refl l more s
  · split
    · exact modScanner_work l more _ s
    · have hflag := modScanner_work l more (fun c => { c with readError := false }) s
      have hparts := hflag.trans (writeParts_work
        (is := pendingParts ((modScanner l (fun c => { c with readError := false }) s).lane l).scanner)
        (by rw [partAreas_of_loaded hflag.loaded]; exact hp)
        fun i hi => List.mem_range.1 (List.mem_filter.1 hi).1)
      exact hparts.trans (judgeCues_work (by rw [partAreas_of_loaded hparts.loaded]; exact hp)
        fun e he => List.mem_range.1 (List.of_mem_zip he).1)

/-! ## The switch back and the changes of state -/

theorem switchBack_frame (l : LaneId) (more : List (Nat × Nat)) (s : State) :
    LaneFrame l more s (switchBack s) := by
  unfold switchBack
  split
  · next h =>
    have hsource : s.clockUnit.source = .holdover := by simpa [switchDue] using (Bool.and_eq_true_iff.1 (Bool.and_eq_true_iff.1 h).1).1
    have hclock : LaneFrame l more s { s with clockUnit := { s.clockUnit with source := .external } } :=
      ⟨.of_lanes rfl rfl rfl rfl id (.inl rfl) fun _ => .refl _,
        ⟨fun _ _ => rfl, .refl s, ⟨rfl, rfl, rfl, rfl⟩, rfl, rfl, fun hn => absurd hsource hn⟩,
        fun _ => .refl _ s⟩
    exact hclock.trans (((writeDeviceStatus_told _).trans (clockEntry_told _ _)).work l more).toLaneFrame
  · exact .refl l more s

/-- After the switch back the source is EXTERNAL, or a lane runs on in HOLDOVER (R156). -/
theorem switchWatched_switchBack {s : State}
    (h : (s.clockUnit.source = .holdover ∧ s.clockUnit.refLocked = true) ∨ s.clockUnit.source = .external) :
    switchWatched (switchBack s) := by
  unfold switchBack
  split
  · refine .inr ?_
    rw [clockEntry, offer_clockUnit, (writeDeviceStatus_told _).reported.clockUnit]
  · next hd =>
    rcases h with ⟨hs, hr⟩ | he
    · exact .inl ⟨hs, hr, by simpa [switchDue, hs, hr] using hd⟩
    · exact .inr he

theorem changeState_work {l : LaneId} {st : LaneState} {c : Cause} {f : Lane → Lane} (more : List (Nat × Nat))
    {s : State} (h : LaneKeeps (settleLane st c (s.lane l)) (f (settleLane st c (s.lane l)))) :
    LaneWork l more s (changeState l st c f s) := by
  have hoffer := (offer_told (laneStateEntry l (s.lane l) st c) s).work l more
  have hlane : LaneFrame l more (offer (laneStateEntry l (s.lane l) st c) s)
      ((offer (laneStateEntry l (s.lane l) st c) s).modLane l fun x => f (settleLane st c x)) :=
    .modLane more (by rw [offer_lane]; exact (settleLane_keeps st c _).trans h)
  have hstatus := (hoffer.toLaneFrame.trans hlane).trans (writeLaneStatus_work l more _).toLaneFrame
  refine ⟨hstatus.trans (switchBack_frame l more _), fun hw => switchWatched_switchBack ?_⟩
  rw [writeLaneStatus_clockUnit, State.modLane_clockUnit, offer_clockUnit]
  exact hw.imp_left fun hh => ⟨hh.1, hh.2.1⟩

theorem enterState_work (l : LaneId) (more : List (Nat × Nat)) (st : LaneState) (c : Cause) (s : State) :
    LaneWork l more s (enterState l st c s) := changeState_work more (.refl _)

theorem takeHold_work (l : LaneId) (more : List (Nat × Nat)) (h : HoldRecord) (s : State) :
    LaneWork l more s (takeHold l h s) :=
  changeState_work more
    ⟨⟨⟨fun ⟨hp, _, ha⟩ => ⟨hp, fun _ => rfl, ha⟩, id, id, id, id⟩, id⟩, .refl _⟩

theorem stopLane_work (l : LaneId) (more : List (Nat × Nat)) (c : Cause) (s : State) :
    LaneWork l more s (stopLane l c s) := by
  have hstop := (runEnd_work l more c s).trans (enterState_work l more .stopping c _)
  unfold stopLane
  dsimp only
  split
  · exact hstop.trans (enterState_work l more .ended c _)
  · exact hstop

theorem muteAtOnce_work (l : LaneId) (more : List (Nat × Nat)) (s : State) :
    LaneWork l more s (s.modLane l muteAtOnce) := .modLane more (muteAtOnce_keeps _) rfl

theorem endNow_work (l : LaneId) (more : List (Nat × Nat)) (c : Cause) (s : State) :
    LaneWork l more s (endNow l c s) :=
  ((muteAtOnce_work l more s).trans (runEnd_work l more c _)).trans (enterState_work l more .ended c _)

theorem emergencyStop_work (l : LaneId) (more : List (Nat × Nat)) (s : State) :
    LaneWork l more s (emergencyStop l s) := by
  unfold emergencyStop
  split
  case h_1 | h_2 | h_3 | h_4 => exact endNow_work l more .emergency s
  case h_5 => exact enterState_work l more .ready .emergency s
  all_goals exact .refl l more s

theorem emergencyReaches_work (l : LaneId) (more : List (Nat × Nat)) (s : State) :
    LaneWork l more s (emergencyReaches l s) := by
  unfold emergencyReaches
  split
  · exact emergencyStop_work l more s
  · exact LaneWork.trans (.watchedLane more rfl) (emergencyStop_work l more _)

theorem completeShow_work (l : LaneId) (more : List (Nat × Nat)) (s : State) :
    LaneWork l more s (completeShow l s) := by
  unfold completeShow
  dsimp only
  refine LaneWork.trans ?_ ((runEnd_work l more .complete _).trans (enterState_work l more .ended .complete _))
  split
  · split
    · exact (offer_told _ _).work l more
    · exact .refl l more s
  · exact .refl l more s

theorem reservedLicences_length (t : Tally) : (reservedLicences t).length ≤ t.entries.length := by
  rw [reservedLicences, List.length_map]
  exact List.length_filter_le _ _

theorem faultLane_work (l : LaneId) (more : List (Nat × Nat)) (k : PoisonKind) (tr : TrackKind) (f : Nat)
    (s : State) : LaneWork l more s (faultLane l k tr f s) := by
  have hmute := muteAtOnce_keeps (s.lane l)
  have hrecord : LaneKeeps (s.lane l) (muteAtOnce { s.lane l with
      faultRecord := some ⟨k, (s.lane l).p, tr, f, (s.lane l).indicators.held,
        reservedLicences (s.lane l).tally⟩ }) :=
    ⟨⟨⟨id, id, hmute.sound, id, fun h => by
      obtain ⟨hr, ht, ha, hs, he, _⟩ := hmute.shape h
      exact ⟨hr, ht, ha, hs, he, decide_eq_true ((reservedLicences_length _).trans he)⟩⟩, id⟩, .refl _⟩
  have hlane : LaneWork l more s (s.modLane l fun y => muteAtOnce { y with
      faultRecord := some ⟨k, y.p, tr, f, y.indicators.held, reservedLicences y.tally⟩ }) :=
    .modLane more hrecord rfl
  exact ((hlane.trans (runEnd_work l more .fault _)).trans ((offer_told _ _).work l more)).trans
    (enterState_work l more .fault .fault _)

theorem startRun_work {l : LaneId} {more : List (Nat × Nat)} (c : Cause) {s : State}
    (hp : partAreas (s.lane l) ⊆ more) : LaneWork l more s (startRun l c s) := by
  have hreserve : LaneWork l more s (reserveAll (tallyLicences (s.lane l).tally) s) :=
    modLicences_work _ l more s
  exact (hreserve.trans (clearMarks_work (by rw [reserveAll_lane]; exact hp)).work).trans
    (changeState_work more (runLane_keeps (laneFieldsOk_settleLane _ _ _)))

theorem fireStart_work {l : LaneId} {more : List (Nat × Nat)} {s : State}
    (hp : partAreas (s.lane l) ⊆ more) : LaneWork l more s (fireStart l s) := by
  unfold fireStart
  split
  · exact startRun_work .clockStart hp
  · exact ((offer_told _ _).work l more).trans (enterState_work l more .ready .clockStart _)

theorem compareArmed_work {l : LaneId} {more : List (Nat × Nat)} {s : State}
    (hp : partAreas (s.lane l) ⊆ more) : LaneWork l more s (compareArmed s l) := by
  unfold compareArmed
  split
  · exact fireStart_work hp
  · exact .refl l more s

/-! ## The projector link -/

theorem offerLink_work (l : LaneId) (more : List (Nat × Nat)) (ws : List Nat) (s : State) :
    LaneWork l more s (offerLink l ws s) := (offer_told _ s).work l more

theorem modLink_work {l : LaneId} (more : List (Nat × Nat)) {f : Link → Link} {s : State}
    (h : LaneKeeps (s.lane l) { s.lane l with link := f (s.lane l).link }) :
    LaneWork l more s (modLink l f s) := .modLane more h rfl

theorem departLocked_work (l : LaneId) (more : List (Nat × Nat)) (s : State) :
    LaneWork l more s (departLocked l s) :=
  .drained (departLane_apart _) (departLane_queue _) (departLane_state _) (.refl l more _)

theorem departLocked_lane_self (l : LaneId) (s : State) :
    (departLocked l s).lane l = drainedLane (departLane (s.lane l)) := by
  rw [departLocked, checkDrained_lane_self, State.lane_modLane_self]

theorem departLocked_awaiting (l : LaneId) (s : State) : ((departLocked l s).lane l).link.awaiting = [] := by
  rw [departLocked_lane_self]
  refine List.suffix_nil.1 ((drainedLane_link _).1.trans ?_)
  simp [departLane, dropAll]

theorem judgeHead_work (l : LaneId) (more : List (Nat × Nat)) (prev : Option Word64) (s : State) :
    LaneWork l more s (judgeHead l prev s) := by
  unfold judgeHead
  dsimp only
  split
  · split
    · exact .refl l more s
    · exact ((offer_told _ s).work l more).trans (endNow_work l more .headChanged _)
  · exact .refl l more s

theorem lockLane_keeps {x : Lane} (id' : Word64) (h : x.link.awaiting = [] ∨ x.link.state ≠ .locked) :
    LaneKeeps x (lockLane id' x) := by
  let k := idleLink { x.link with state := .locked, headId := some id', frameHeld := false }
  have hlink : LaneKeeps x { x with link := k } := by
    rcases h with h | h
    · exact .of_link_emptied rfl h
    · exact .of_link_unlocked rfl h
  exact ⟨⟨⟨hlink.fields, hlink.list, id, id, id⟩, hlink.window⟩, hlink.queue⟩

theorem enterLocked_work {l : LaneId} (more : List (Nat × Nat)) (ws : List Nat) (id' : Word64) {s : State}
    (h : (s.lane l).link.awaiting = [] ∨ (s.lane l).link.state ≠ .locked) :
    LaneWork l more s (enterLocked l ws id' s) := by
  have hlock : LaneWork l more s (s.modLane l (lockLane id')) := .modLane more (lockLane_keeps id' h) rfl
  exact (hlock.trans (judgeHead_work l more _ _)).trans (offerLink_work l more ws _)

theorem completeTest_work {l : LaneId} (more : List (Nat × Nat)) {s : State}
    (h : (s.lane l).link.state ≠ .locked) : LaneWork l more s (completeTest l s) := by
  have hend : LaneWork l more s (modLink l (fun k => trainLink true (endTest true k)) s) :=
    modLink_work more (.of_link_unlocked rfl h)
  exact hend.trans (offerLink_work l more _ _)

theorem testBoundary_work {l : LaneId} (more : List (Nat × Nat)) {s : State}
    (h : (s.lane l).link.state = .testing) : LaneWork l more s (testBoundary l s) := by
  have hn : (s.lane l).link.state ≠ .locked := by rw [h]; decide
  unfold testBoundary
  dsimp only
  split
  · exact modLink_work more (.of_link_unlocked rfl hn)
  · have hsettle : LaneWork l more s (modLink l
        (fun k => { idleLink k with test := { k.test with settle := k.test.settle - 1 } }) s) :=
      modLink_work more (.of_link_unlocked rfl hn)
    split
    · exact hsettle.trans (completeTest_work more (by rw [modLink, State.lane_modLane_self]; exact hn))
    · exact hsettle

/-- The lane once a record has been sent on a LOCKED link (R115 to R117). -/
def recordLane (pic : Picture) (tiles : List TileUpdate) (map : List Nat) (x : Lane) : Lane :=
  afterRecord pic tiles map (drainedLane (makeRoom x))

theorem sendRecord_lane_self (l : LaneId) (pic : Picture) (tiles : List TileUpdate) (map : List Nat)
    (s : State) : (sendRecord l pic tiles map s).lane l = recordLane pic tiles map (s.lane l) := by
  rw [sendRecord, State.lane_modLane_self, checkDrained_lane_self, State.lane_modLane_self]
  rfl

theorem afterRecord_core {pic : Picture} {tiles : List TileUpdate} {map : List Nat} {x y : Lane}
    (hst : y.link.state = .locked) (hroom : listOk x → y.link.awaiting.length ≤ 7) (h : LaneKeeps x y) :
    LaneKeeps x (afterRecord pic tiles map y) where
  fields := h.fields
  list hx := (afterRecord_keeps hst (hroom hx)).list (h.list hx)
  window hx hp := by
    have := h.window hx hp
    show hasMark (y.link.awaiting ++ [awaitingEntry pic y]) = true
    simp only [hasMark, List.any_append, Bool.or_eq_true] at this ⊢
    exact .inl this
  sound := h.sound
  stores := h.stores
  shape := h.shape
  queue := h.queue

theorem recordLane_keeps {pic : Picture} {tiles : List TileUpdate} {map : List Nat} {x : Lane}
    (h : x.link.state = .locked) : LaneKeeps x (recordLane pic tiles map x) := by
  obtain ⟨_, hst, hroom⟩ := makeRoom_link x
  obtain ⟨hsuf, _, hst'⟩ := drainedLane_link (makeRoom x)
  have ha : LaneApart x (drainedLane (makeRoom x)) :=
    (makeRoom_apart x).trans (drainedLane_keeps _).toLaneApart
  have hkeep : LaneKeeps x (drainedLane (makeRoom x)) :=
    ⟨⟨ha, fun _ => windowOk_drainedLane _⟩, (makeRoom_queue x).trans (drainedLane_keeps _).queue⟩
  exact afterRecord_core (hst'.trans (hst.trans h)) (fun hx => hsuf.length_le.trans (hroom hx.1)) hkeep

/-- A lane replaced by what some work of it has left it as, the rest as that work has left it. -/
theorem sendRecord_work {l : LaneId} (more : List (Nat × Nat)) (pic : Picture) (tiles : List TileUpdate)
    (map : List Nat) {s : State} (h : (s.lane l).link.state = .locked) :
    LaneWork l more s (sendRecord l pic tiles map s) := by
  have hdrain : LaneWork l more s (checkDrained l (s.modLane l makeRoom)) :=
    .drained (makeRoom_apart _) (makeRoom_queue _) (makeRoom_state _) (.refl l more _)
  have hlane := sendRecord_lane_self l pic tiles map s
  have hrest : restKept l s (sendRecord l pic tiles map s) :=
    hdrain.rest.trans ⟨fun _ hm => State.lane_modLane_ne _ _ hm, .refl _, ⟨rfl, rfl, rfl, rfl⟩, rfl, rfl,
      fun _ => rfl⟩
  have hkeep : ∀ m, LaneKeeps (s.lane m) ((sendRecord l pic tiles map s).lane m) :=
    forall_lane_of_self .refl (by rw [hlane]; exact recordLane_keeps h) hrest.1
  refine ⟨⟨⟨hdrain.keeps.pending, hdrain.keeps.mem, hdrain.keeps.inputs, hdrain.keeps.ring,
    hdrain.keeps.device, fun m => (hkeep m).toLaneCore,
    queuesOk_of_kept (.inl (congrArg Engine.flight hrest.2.2.1.2.2.1)) fun m => (hkeep m).queue⟩, hrest,
    hdrain.mem⟩, fun hw =>
    switchWatched_of_running (s := checkDrained l (s.modLane l makeRoom)) rfl (fun m hm => ?_)
      (hdrain.watch hw)⟩
  by_cases hml : m = l
  · subst hml
    rw [sendRecord, State.lane_modLane_self]
    exact hm
  · rw [sendRecord, State.lane_modLane_ne _ _ hml]
    exact hm

theorem linkBoundary_work (l : LaneId) (more : List (Nat × Nat)) (pic : Picture) (tiles : List TileUpdate)
    (map : List Nat) (s : State) : LaneWork l more s (linkBoundary l pic tiles map s) := by
  unfold linkBoundary
  split
  · next h => exact sendRecord_work more pic tiles map h
  · next h => exact testBoundary_work more h
  · exact modLink_work more (.of_link rfl rfl rfl)
  · exact modLink_work more (.of_link rfl rfl rfl)

theorem idleRecord_work (l : LaneId) (more : List (Nat × Nat)) (s : State) :
    LaneWork l more s (idleRecord l s) := linkBoundary_work l more _ _ _ s

theorem heldRecord_work (l : LaneId) (more : List (Nat × Nat)) (s : State) :
    LaneWork l more s (heldRecord l s) := linkBoundary_work l more _ _ _ s

/-- What a record, or a boundary of the link test, changes of a lane (R115 to R117, R123). -/
theorem linkBoundary_lane (l : LaneId) (pic : Picture) (tiles : List TileUpdate) (map : List Nat) (s : State) :
    ∃ t k i o, (linkBoundary l pic tiles map s).lane l =
      { s.lane l with tally := t, link := k, indicators := i, overlay := o } := by
  have hlink (f : Link → Link) (u : State) :
      (modLink l f u).lane l = { u.lane l with link := f (u.lane l).link } := State.lane_modLane_self _ _ _
  have hkeep (f : Link → Link) : ∃ t k i o, (modLink l f s).lane l =
      { s.lane l with tally := t, link := k, indicators := i, overlay := o } :=
    ⟨_, _, _, _, hlink f s⟩
  unfold linkBoundary
  split
  · obtain ⟨t, k, i, h⟩ := checkDrained_lane l (s.modLane l makeRoom)
    have hroom : ∃ k i, makeRoom (s.lane l) = { s.lane l with link := k, indicators := i } := by
      unfold makeRoom
      split
      · exact dropUnseen_eq _ _ _
      · exact ⟨_, _, rfl⟩
    obtain ⟨k', i', hroom⟩ := hroom
    rw [State.lane_modLane_self, hroom] at h
    rw [sendRecord, State.lane_modLane_self, h]
    exact ⟨_, _, _, _, rfl⟩
  · unfold testBoundary
    dsimp only
    split
    · exact hkeep _
    · split
      · rw [completeTest, offerLink, offer_lane, hlink, hlink]
        exact ⟨_, _, _, _, rfl⟩
      · exact hkeep _
  · exact hkeep _
  · exact hkeep _

theorem linkBoundary_cueWork (l : LaneId) (more : List (Nat × Nat)) (pic : Picture) (tiles : List TileUpdate)
    (map : List Nat) (s : State) : CueWork l more s (linkBoundary l pic tiles map s) := by
  obtain ⟨t, k, i, o, h⟩ := linkBoundary_lane l pic tiles map s
  exact ⟨linkBoundary_work l more pic tiles map s, by rw [h], by rw [h]⟩

theorem lineFault_work (l : LaneId) (more : List (Nat × Nat)) (k : LineFault) (s : State) :
    LaneWork l more s (lineFault l k s) := by
  have hline : LaneWork l more s (modLink l (noteLine (some k)) s) := modLink_work more (.of_link rfl rfl rfl)
  unfold lineFault
  dsimp only
  refine hline.trans ?_
  generalize modLink l (noteLine (some k)) s = u
  have hdown (h : (u.lane l).link.state ≠ .locked) : LaneWork l more u (modLink l (downLink k) u) :=
    modLink_work more (.of_link_unlocked rfl h)
  split
  · next h =>
    split
    · exact .refl l more u
    · exact (hdown (by rw [h]; decide)).trans (offerLink_work l more _ _)
  · next h => exact (hdown (by rw [h]; decide)).trans (offerLink_work l more _ _)
  · exact ((departLocked_work l more u).trans
      (modLink_work more (.of_link_emptied rfl (departLocked_awaiting l u)))).trans (offerLink_work l more _ _)
  · next h =>
    have hend : LaneWork l more u (modLink l (fun k' => downLink k (endTest false k')) u) :=
      modLink_work more (.of_link_unlocked rfl (by rw [h]; decide))
    exact hend.trans (offerLink_work l more _ _)

theorem lineIsGood_work (l : LaneId) (more : List (Nat × Nat)) (s : State) :
    LaneWork l more s (lineIsGood l s) := by
  have hline : LaneWork l more s (modLink l (noteLine none) s) := modLink_work more (.of_link rfl rfl rfl)
  unfold lineIsGood
  dsimp only
  split
  · next h =>
    have htrain : LaneWork l more (modLink l (noteLine none) s)
        (modLink l (fun k => trainLink false { k with faultKind := none }) (modLink l (noteLine none) s)) :=
      modLink_work more (.of_link_unlocked rfl (by rw [h]; decide))
    exact (hline.trans htrain).trans (offerLink_work l more _ _)
  · exact hline

theorem lockGained_work (l : LaneId) (more : List (Nat × Nat)) (s : State) :
    LaneWork l more s (lockGained l s) := by
  unfold lockGained
  split
  · next h => exact modLink_work more (.of_link_unlocked rfl (by rw [h]; decide))
  · exact .refl l more s

theorem lockGone_work (l : LaneId) (more : List (Nat × Nat)) (s : State) :
    LaneWork l more s (lockGone l s) := by
  unfold lockGone
  split
  · exact .refl l more s
  · next h => exact modLink_work more (.of_link_unlocked rfl (by rw [h]; decide))
  · exact ((departLocked_work l more s).trans
      (modLink_work more (.of_link_emptied rfl (departLocked_awaiting l s)))).trans (offerLink_work l more _ _)
  · next h =>
    have hend : LaneWork l more s (modLink l (fun k => trainLink false (endTest false k)) s) :=
      modLink_work more (.of_link_unlocked rfl (by rw [h]; decide))
    exact hend.trans (offerLink_work l more _ _)

theorem badReportLane_keeps (x : Lane) : LaneKeeps x (badReportLane x) := by
  unfold badReportLane
  refine LaneKeeps.indicator ?_ _
  split
  · exact .of_link rfl rfl rfl
  · exact .of_link rfl rfl rfl

theorem takeIdentity_work (l : LaneId) (more : List (Nat × Nat)) (id' : Word64) (s : State) :
    LaneWork l more s (takeIdentity l id' s) := by
  unfold takeIdentity
  dsimp only
  split
  · exact .refl l more s
  · exact .refl l more s
  · next h =>
    split
    · exact enterLocked_work more _ id' (.inr (by rw [h]; decide))
    · exact .refl l more s
  · split
    · exact .refl l more s
    · exact (departLocked_work l more s).trans
        (enterLocked_work more _ id' (.inl (departLocked_awaiting l s)))

theorem lateReport_keeps (x : Lane) : LaneKeeps x (lateReport x) := by
  refine LaneKeeps.indicator ?_ _
  exact .of_link rfl rfl rfl

theorem takeShown_work (l : LaneId) (more : List (Nat × Nat)) (seq : Nat) (s : State) :
    LaneWork l more s (takeShown l seq s) := by
  have hlate : LaneWork l more s (s.modLane l lateReport) := .modLane more (lateReport_keeps _) rfl
  unfold takeShown
  dsimp only
  split
  · split
    · next h =>
      exact .drained (dropUnseen_apart (splitAtSeq_suffix h)) (dropUnseen_queue _ _ _)
        (dropUnseen_state _ _ _) (confirmFrame_work l more _ _)
    · exact hlate
  · exact hlate

theorem takeTestTally_work (l : LaneId) (more : List (Nat × Nat)) (seq : Nat) (intact : Bool) (s : State) :
    LaneWork l more s (modLink l (takeTestTally seq intact) s) := by
  refine modLink_work more ?_
  unfold takeTestTally
  split
  · split
    · exact .of_link rfl rfl rfl
    · exact .of_link rfl rfl rfl
  · exact .of_link rfl rfl rfl

theorem startTest_work (l : LaneId) (more : List (Nat × Nat)) (n : Nat) (s : State) :
    LaneWork l more s (startTest l n s) :=
  ((departLocked_work l more s).trans
    (modLink_work more (.of_link_emptied rfl (departLocked_awaiting l s)))).trans (offerLink_work l more _ _)

end Sys2Proof.Machine
end

section
/-! The lane requests, the taking of a request, and the boundaries and ticks of one lane, as work of that
lane. With them every command of one lane is such work. -/

namespace Sys2Proof.Machine

/-! ## The lane requests -/

theorem showLicences_le_of_loadable {s : State} {l : LaneId} {a : Nat} {sh : Show}
    (h : loadableShow s l a = .ok sh) : (showLicences sh.reels).length ≤ 8 := by
  unfold loadableShow at h
  split at h
  · cases h
  · split at h
    · cases h
    · dsimp only at h
      split at h
      · cases h
      · next hl =>
        cases h
        unfold licenceRefusal at hl
        split at hl
        · cases hl
        · split at hl
          · cases hl
          · omega

theorem doLoadShow_work (l : LaneId) (more : List (Nat × Nat)) (rq : Req) (s : State) :
    LaneWork l more s (doLoadShow l rq s).1 := by
  unfold doLoadShow
  split
  · exact .refl l more s
  · split
    · exact .refl l more s
    · next h => exact changeState_work more (loadLane_keeps _ (showLicences_le_of_loadable h))

theorem doUnload_work (l : LaneId) (more : List (Nat × Nat)) (s : State) :
    LaneWork l more s (doUnload l s).1 := by
  unfold doUnload
  split
  · exact .refl l more s
  · exact (closeAtOnce_work l more .unload s).trans (changeState_work more (unloadLane_keeps _))

theorem doRewind_work (l : LaneId) (more : List (Nat × Nat)) (s : State) :
    LaneWork l more s (doRewind l s).1 := by
  unfold doRewind
  split
  · exact .refl l more s
  · exact (closeAtOnce_work l more .rewind s).trans (changeState_work more (rewindLane_keeps _))

theorem doLaneReset_work (l : LaneId) (more : List (Nat × Nat)) (s : State) :
    LaneWork l more s (doLaneReset l s).1 :=
  (closeAtOnce_work l more .laneReset s).trans (changeState_work more (resetLane_keeps _))

theorem doSetOptions_work (l : LaneId) (more : List (Nat × Nat)) (rq : Req) (s : State) :
    LaneWork l more s (doSetOptions l rq s).1 := by
  unfold doSetOptions
  split
  · exact .refl l more s
  · split
    · dsimp only
      exact .watchedLane more rfl
    · exact .refl l more s

theorem acceptSection_work {l : LaneId} (more : List (Nat × Nat)) {now staged : Sound → Sound} (n : Nat)
    {s : State} (hnow : LaneKeeps (s.lane l) { s.lane l with sound := now (s.lane l).sound })
    (hstaged : LaneKeeps (s.lane l) { s.lane l with sound := staged (s.lane l).sound }) :
    LaneWork l more s (acceptSection l now staged n s).1 := by
  unfold acceptSection
  dsimp only
  refine LaneWork.modLane more ?_ rfl
  split
  · exact hstaged.trans (reformTargets_keeps _)
  · exact hnow.trans (reformTargets_keeps _)

theorem clampedTrims_length (b : List Byte) : ((rawTrims b).map clampTrim).length = 24 := by
  simp [rawTrims]

theorem doWriteSoundMap_work (l : LaneId) (more : List (Nat × Nat)) (rq : Req) (b : List Byte) (s : State) :
    LaneWork l more s (doWriteSoundMap l rq b s).1 := by
  unfold doWriteSoundMap
  split
  · exact .refl l more s
  · split
    · split
      · exact .refl l more s
      · exact acceptSection_work more 0 (.of_sound id id) (.of_sound id id)
    · split
      · split
        · exact .refl l more s
        · exact acceptSection_work more _ (applyTrims_keeps (clampedTrims_length b) _)
            (stagedTrims_keeps (clampedTrims_length b) _)
      · exact .refl l more s

theorem attemptStart_work {l : LaneId} {more : List (Nat × Nat)} {s : State}
    (hp : partAreas (s.lane l) ⊆ more) : LaneWork l more s (attemptStart l s).1 := by
  unfold attemptStart
  split
  · exact .refl l more s
  · exact startRun_work .request hp

theorem doStart_work {l : LaneId} {more : List (Nat × Nat)} {s : State}
    (hp : partAreas (s.lane l) ⊆ more) : LaneWork l more s (doStart l s).1 := by
  unfold doStart
  split
  · exact .refl l more s
  · exact attemptStart_work hp

/-- Work that arms a lane: the start second stands in ARMED alone. -/
theorem armLane_keeps {x : Lane} {t : Nat} (h : x.state = .armed) :
    LaneKeeps x { x with startSecond := some t } :=
  ⟨⟨⟨fun ⟨hp, hh, _, hw⟩ => ⟨hp, hh, fun hn => absurd h hn, hw⟩, id, id, id, id⟩, id⟩, .refl _⟩

theorem doStartAt_work {l : LaneId} {more : List (Nat × Nat)} {s : State} (rq : Req)
    (hp : partAreas (s.lane l) ⊆ more) : LaneWork l more s (doStartAt l rq s).1 := by
  unfold doStartAt
  split
  · exact .refl l more s
  · split
    · exact .refl l more s
    · split
      · exact .refl l more s
      · split
        · exact attemptStart_work hp
        · dsimp only
          refine changeState_work more ?_
          exact armLane_keeps (settleLane_state .armed .request (s.lane l))

theorem doCancelStart_work (l : LaneId) (more : List (Nat × Nat)) (s : State) :
    LaneWork l more s (doCancelStart l s).1 := by
  unfold doCancelStart
  split
  · exact .refl l more s
  · exact enterState_work l more .ready .request s

theorem doHold_work (l : LaneId) (more : List (Nat × Nat)) (rq : Req) (s : State) :
    LaneWork l more s (doHold l rq s).1 := by
  have hmerge (h : (s.lane l).state = .playing) (c : Cause) (w : HoldWhen) :
      LaneWork l more s (answerHold l c w s).1 := .modLane more (mergeHold_keeps c w h) rfl
  unfold doHold
  dsimp only
  split
  · exact .refl l more s
  · next hn =>
    have h := not_not.1 hn
    split
    · exact hmerge h _ _
    · split
      · exact hmerge h _ _
      · exact .refl l more s

theorem doCancelHold_work (l : LaneId) (more : List (Nat × Nat)) (s : State) :
    LaneWork l more s (doCancelHold l s).1 := by
  unfold doCancelHold
  split
  · dsimp only
    refine LaneWork.modLane more ?_ rfl
    exact ⟨⟨⟨fun ⟨hplay, hrest⟩ => ⟨fun hn => ⟨rfl, (hplay hn).2⟩, hrest⟩, id, id, id, id⟩, id⟩, .refl _⟩
  · exact .refl l more s

theorem doResume_work (l : LaneId) (more : List (Nat × Nat)) (s : State) :
    LaneWork l more s (doResume l s).1 := by
  unfold doResume
  split
  · exact .refl l more s
  · split
    · exact .refl l more s
    · refine changeState_work more ?_
      have h := resumeLane_keeps (settleLane .playing .request (s.lane l))
      exact h

theorem doSeek_work {l : LaneId} {more : List (Nat × Nat)} {s : State} (rq : Req)
    (hp : partAreas (s.lane l) ⊆ more) : LaneWork l more s (doSeek l rq s).1 := by
  unfold doSeek
  split
  · exact .refl l more s
  · split
    · exact .refl l more s
    · exact (clearMarksFrom_work _ hp).work.trans (changeState_work more (seekLane_keeps _ _ _))

theorem doStop_work (l : LaneId) (more : List (Nat × Nat)) (s : State) :
    LaneWork l more s (doStop l s).1 := by
  unfold doStop
  split
  case h_1 | h_2 | h_3 => exact stopLane_work l more .operator s
  case h_4 => exact enterState_work l more .ready .request s
  all_goals exact .refl l more s

theorem doSetLevel_work (l : LaneId) (more : List (Nat × Nat)) (rq : Req) (s : State) :
    LaneWork l more s (doSetLevel l rq s).1 := by
  unfold doSetLevel
  split
  · exact .refl l more s
  · dsimp only
    refine LaneWork.modLane more ?_ rfl
    exact LaneKeeps.trans (y := { s.lane l with level := min 100 rq.w0.toNat }) (.of_watched rfl)
      (reformTargets_keeps _)

theorem doTestIndicators_work (l : LaneId) (more : List (Nat × Nat)) (s : State) :
    LaneWork l more s (doTestIndicators l s).1 := .watchedLane more rfl

theorem doLinkTest_work (l : LaneId) (more : List (Nat × Nat)) (rq : Req) (s : State) :
    LaneWork l more s (doLinkTest l rq s).1 := by
  unfold doLinkTest
  dsimp only
  split
  · exact .refl l more s
  · split
    · exact .refl l more s
    · split
      · exact .refl l more s
      · split
        · exact .refl l more s
        · exact startTest_work l more _ s

theorem laneRequest_work {l : LaneId} {more : List (Nat × Nat)} {s : State} {kind : Nat} {rq : Req}
    {b : List Byte} {r : State × Answer} (hp : partAreas (s.lane l) ⊆ more)
    (h : laneRequest l kind rq b s = some r) : LaneWork l more s r.1 := by
  unfold laneRequest at h
  split at h
  case h_18 => cases h
  all_goals obtain rfl := (Option.some.inj h).symm
  · exact doLoadShow_work l more rq s
  · exact doUnload_work l more s
  · exact doRewind_work l more s
  · exact doLaneReset_work l more s
  · exact doSetOptions_work l more rq s
  · exact doWriteSoundMap_work l more rq b s
  · exact doStart_work hp
  · exact doStartAt_work rq hp
  · exact doCancelStart_work l more s
  · exact doHold_work l more rq s
  · exact doCancelHold_work l more s
  · exact doResume_work l more s
  · exact doStop_work l more s
  · exact doSeek_work rq hp
  · exact doSetLevel_work l more rq s
  · exact doTestIndicators_work l more s
  · exact doLinkTest_work l more rq s

/-! ## The taking of a request -/

theorem putBytes_work {l : LaneId} {more : List (Nat × Nat)} {s : State} {a : Nat} {bs : List Byte}
    (h : ∃ r ∈ more, r.1 ≤ a ∧ a + bs.length ≤ r.1 + r.2) : LaneWork l more s (putBytes a bs s) where
  keeps := ⟨rfl, memWf_memWrite _ _, id, id, id, fun _ => .refl _, id⟩
  rest := .refl l s
  watch := id
  mem _ := by
    obtain ⟨r, hr, hlo, hhi⟩ := h
    refine ⟨fun x hx => memRead_memWrite_outside ?_, rfl, rfl⟩
    rcases hx r (List.mem_append_right _ hr) with hlt | hle
    · omega
    · omega

theorem slotAddr_of_registers {s t : State} (h : registersKept s t) (n : SlotId) :
    slotAddr t n = slotAddr s n := by unfold slotAddr; rw [h.tableAddr]

theorem judgeRequest_work {l : LaneId} {more : List (Nat × Nat)} {s : State} (kind : Nat) (rq : Req)
    (agrees : Bool) (hp : partAreas (s.lane l) ⊆ more) :
    LaneWork l more s (judgeRequest (.lane l) kind rq agrees s).1 := by
  unfold judgeRequest
  split
  · exact .refl l more s
  · split
    · exact .refl l more s
    · next b _ =>
      change LaneWork l more s ((laneRequest l kind rq b s).getD (s, codeAnswer .unknownRequest)).1
      cases h : laneRequest l kind rq b s with
      | none => exact .refl l more s
      | some r => exact laneRequest_work hp h

theorem markTaken_work {l : LaneId} {more : List (Nat × Nat)} {s : State} (n : SlotId)
    (hs : slotArea s n ∈ more) : LaneWork l more s (markTaken n s) :=
  putBytes_work ⟨_, hs, le_rfl, by simp [slotArea]⟩

theorem writeAnswer_work {l : LaneId} {more : List (Nat × Nat)} {r : State × Answer} (kind : Nat) (rq : Req)
    (hs : slotArea r.1 (.lane l) ∈ more) : LaneWork l more r.1 (writeAnswer (.lane l) kind rq r) := by
  have hput : LaneWork l more r.1 (putBytes (slotAddr r.1 (.lane l)) (answerBytes kind rq r.2) r.1) :=
    putBytes_work ⟨_, hs, le_rfl, by rw [answerBytes_length]; simp [slotArea]⟩
  exact (hput.trans ((setAttention_told _ _).work l more)).trans (writeLaneStatus_work l more _)

theorem serve_work {l : LaneId} {more : List (Nat × Nat)} {s : State} (kind : Nat) (rq : Req) (agrees : Bool)
    (hs : slotArea s (.lane l) ∈ more) (hp : partAreas (s.lane l) ⊆ more) :
    LaneWork l more s (serve (.lane l) kind rq agrees s) := by
  unfold serve
  split
  · have hjudge := (markTaken_work (.lane l) hs).trans
      (judgeRequest_work (s := markTaken (.lane l) s) kind rq agrees hp)
    refine hjudge.trans (writeAnswer_work kind rq ?_)
    rw [slotArea, slotAddr_of_registers hjudge.rest.2.1]
    exact hs
  · exact .refl l more s

theorem lookSlot_work {l : LaneId} {more : List (Nat × Nat)} {s : State} (agrees : Bool)
    (hs : slotArea s (.lane l) ∈ more) (hp : partAreas (s.lane l) ⊆ more) :
    LaneWork l more s (lookSlot agrees s (.lane l)) := by
  unfold lookSlot
  split
  · exact .refl l more s
  · exact serve_work _ _ agrees hs hp

/-! ## The boundary -/

theorem noteChanges_work (l : LaneId) (more : List (Nat × Nat)) (s t : State) :
    LaneWork l more t (noteChanges s t) where
  keeps := noteChanges_keeps s t
  rest := .refl l t
  watch := id
  mem _ := .refl _ t

theorem recordChanged_work (l : LaneId) (more : List (Nat × Nat)) (q : Quad Bool) (s : State) :
    LaneWork l more s { s with recordChanged := q } where
  keeps := .of_lanes rfl rfl rfl rfl id (.inl rfl) fun _ => .refl _
  rest := .refl l s
  watch := id
  mem _ := .refl _ s

theorem journalReelStart_told (l : LaneId) (s : State) : Told s (journalReelStart l s) := by
  unfold journalReelStart
  dsimp only
  split
  · exact .refl s
  · split
    · exact offer_told _ s
    · exact .refl s

theorem askStore_loaded_foldl (reel : Nat) (pls : List Place) (x : Lane) :
    (pls.foldl (askStore reel) x).loaded = x.loaded :=
  foldl_induction (R := fun a b : Lane => b.loaded = a.loaded) (fun _ => rfl) (fun _ _ _ h k => k.trans h)
    (fun x pl => askStore_loaded reel x pl) pls x

theorem succession_loaded (i : Nat) (x : Lane) : (succession i x).loaded = x.loaded := by
  unfold succession pendPalettes
  dsimp only
  rw [askStore_loaded_foldl]
  simp

theorem storesAtReelStart_loaded (x : Lane) : (storesAtReelStart x).loaded = x.loaded := by
  unfold storesAtReelStart
  split
  · rfl
  · split
    · rfl
    · split
      · exact succession_loaded _ x
      · rfl

theorem selectActive_loaded (sh : Show) (x : Lane) : (selectActive sh x).loaded = x.loaded := by
  unfold selectActive
  split
  · rfl
  · exact setIndicatorIf_loaded _ _ _

theorem CueWork.modLane {s : State} {l : LaneId} {f : Lane → Lane} (more : List (Nat × Nat))
    (h : LaneKeeps (s.lane l) (f (s.lane l))) (hl : (f (s.lane l)).loaded = (s.lane l).loaded)
    (hst : (f (s.lane l)).state = (s.lane l).state) : CueWork l more s (s.modLane l f) :=
  ⟨.modLane more h hst, by rw [State.lane_modLane_self, hl], by rw [State.lane_modLane_self, hst]⟩

theorem afterAdvance_work (l : LaneId) (more : List (Nat × Nat)) (sh : Show) (s : State) :
    LaneWork l more s (afterAdvance l sh s) := by
  unfold afterAdvance
  dsimp only
  split
  · exact completeShow_work l more s
  · split
    · exact stopLane_work l more .linkLost s
    · split
      · exact stopLane_work l more .starved s
      · exact .refl l more s

/-- The stores, the active cues and the CONCEALED indicator of a presenting boundary, ahead of its record
(R16, R133, R134, R66). -/
def presentAhead (l : LaneId) (sh : Show) (s : State) : State :=
  let s1 := (journalReelStart l s).modLane l fun x => selectActive sh (storesAtReelStart x)
  s1.modLane l (setIndicatorIf (!decide ((presentPicture (s1.lane l)).kind = .real)) .concealed)

/-- A presenting boundary up to the advance of P: its record, its sound and the scan of its cues. -/
def presented (l : LaneId) (sh : Show) (s : State) : State :=
  let x := ((journalReelStart l s).modLane l fun x => selectActive sh (storesAtReelStart x)).lane l
  cueScan l x.p sh.total ((presentRecord l sh (presentPicture x) (presentAhead l sh s)).modLane l
    (presentSound (soundFor sh x .main x.p) (soundFor sh x .aux x.p)))

theorem presentFrame_eq (l : LaneId) (sh : Show) (s : State) :
    ∃ real, presentFrame l sh s = afterAdvance l sh ((presented l sh s).modLane l (advanceLane sh real)) :=
  ⟨_, rfl⟩

theorem presentAhead_cueWork (l : LaneId) (more : List (Nat × Nat)) (sh : Show) (s : State) :
    CueWork l more s (presentAhead l sh s) := by
  have hstores : CueWork l more (journalReelStart l s)
      ((journalReelStart l s).modLane l fun x => selectActive sh (storesAtReelStart x)) :=
    .modLane more ((storesAtReelStart_keeps _).trans (selectActive_keeps sh _))
      ((selectActive_loaded sh _).trans (storesAtReelStart_loaded _))
      ((selectActive_state sh _).trans (storesAtReelStart_state _))
  exact (((journalReelStart_told l s).cueWork l more).trans hstores).trans
    (.watchedLane more (watched_setIndicatorIf _ _ _) (setIndicatorIf_loaded _ _ _))

theorem presented_cueWork {l : LaneId} {more : List (Nat × Nat)} {s : State} (sh : Show)
    (hp : partAreas (s.lane l) ⊆ more) : CueWork l more s (presented l sh s) := by
  have hrecord (pic : Picture) : CueWork l more s (presentRecord l sh pic (presentAhead l sh s)) :=
    (presentAhead_cueWork l more sh s).trans (linkBoundary_cueWork l more _ _ _ _)
  have hsound (u : State) (m a) : CueWork l more u (u.modLane l (presentSound m a)) :=
    .modLane more (presentSound_keeps _ _ _) (setIndicatorIf_loaded _ _ _) (setIndicatorIf_state _ _ _)
  have hscan {u : State} (h : CueWork l more s u) (p n : Nat) : CueWork l more s (cueScan l p n u) :=
    h.trans (cueScan_work p n (by rw [partAreas_of_loaded h.loaded]; exact hp))
  exact hscan ((hrecord _).trans (hsound _ _ _)) _ _

theorem presentFrame_work {l : LaneId} {more : List (Nat × Nat)} {s : State} (sh : Show)
    (hst : (s.lane l).state = .playing) (hp : partAreas (s.lane l) ⊆ more) :
    LaneWork l more s (presentFrame l sh s) := by
  have h := presented_cueWork sh hp
  obtain ⟨real, heq⟩ := presentFrame_eq l sh s
  rw [heq]
  exact (h.work.trans (.modLane more (advanceLane_keeps sh _ (h.state.trans hst)) rfl)).trans
    (afterAdvance_work l more sh _)

theorem playingBoundary_work {l : LaneId} {more : List (Nat × Nat)} {s : State}
    (hst : (s.lane l).state = .playing) (hp : partAreas (s.lane l) ⊆ more) :
    LaneWork l more s (playingBoundary l s) := by
  unfold playingBoundary
  dsimp only
  split
  · unfold holdBoundary
    split
    · exact (heldRecord_work l more s).trans (stopLane_work l more .linkLost _)
    · exact (heldRecord_work l more s).trans (takeHold_work l more _ _)
  · split
    · exact (heldRecord_work l more s).trans (faultLane_work l more _ _ _ _)
    · exact presentFrame_work _ hst hp
    · exact .refl l more s

theorem loadingBoundary_work {l : LaneId} {more : List (Nat × Nat)} {s : State}
    (hst : (s.lane l).state = .loading) : LaneWork l more s (loadingBoundary l s) := by
  have hidle := linkBoundary_cueWork l more blackClosed (clearUpdates (s.lane l).overlay.tileMap) [] s
  have hflag : LaneWork l more (idleRecord l s)
      ((idleRecord l s).modLane l fun x => { x with waitingLicence := waitsForLicence s x }) :=
    .modLane more ⟨⟨⟨fun ⟨hp, hh, ha, _⟩ => ⟨hp, hh, ha, fun hn => absurd (hidle.state.trans hst) hn⟩,
      id, id, id, id⟩, id⟩, .refl _⟩ rfl
  unfold loadingBoundary
  dsimp only
  split
  · exact (hidle.work.trans hflag).trans (enterState_work l more .ready .primed _)
  · exact hidle.work.trans hflag

/-- The boundary of a held lane up to its limit: the BLACK record and the hold limit timer (R26, R115). -/
theorem advanceHold_work {l : LaneId} {more : List (Nat × Nat)} {s : State}
    (hst : (s.lane l).state = .held ∨ (s.lane l).state = .seeking) :
    LaneWork l more s ((idleRecord l s).modLane l advanceHold) := by
  have hidle := linkBoundary_cueWork l more blackClosed (clearUpdates (s.lane l).overlay.tileMap) [] s
  exact hidle.work.trans (.modLane more (advanceHold_keeps (by rw [hidle.state]; exact hst)) rfl)

theorem heldBoundary_work {l : LaneId} {more : List (Nat × Nat)} {s : State}
    (hst : (s.lane l).state = .held) : LaneWork l more s (heldBoundary l s) := by
  have hadvance := advanceHold_work (more := more) (.inl hst)
  unfold heldBoundary
  dsimp only
  split
  · exact hadvance.trans (stopLane_work l more .holdExpired _)
  · exact hadvance

theorem seekingBoundary_work {l : LaneId} {more : List (Nat × Nat)} {s : State}
    (hst : (s.lane l).state = .seeking) : LaneWork l more s (seekingBoundary l s) := by
  have hadvance := advanceHold_work (more := more) (.inr hst)
  unfold seekingBoundary
  dsimp only
  split
  · exact hadvance.trans (stopLane_work l more .holdExpired _)
  · split
    · exact hadvance.trans (enterState_work l more .held .primed _)
    · exact hadvance

theorem boundaryWork_work {l : LaneId} {more : List (Nat × Nat)} {s : State}
    (hp : partAreas (s.lane l) ⊆ more) : LaneWork l more s (boundaryWork l s) := by
  unfold boundaryWork
  split
  case h_1 h => exact playingBoundary_work h hp
  case h_2 h => exact loadingBoundary_work h
  case h_3 h => exact heldBoundary_work h
  case h_4 h => exact seekingBoundary_work h
  all_goals exact idleRecord_work l more s

theorem boundaryStatus_work (l : LaneId) (more : List (Nat × Nat)) (s t : State) :
    LaneWork l more t (boundaryStatus l s t) := by
  unfold boundaryStatus
  dsimp only
  refine LaneWork.trans ?_ (recordChanged_work l more _ _)
  split
  · exact noteChanges_work l more s t
  · exact (noteChanges_work l more s t).trans (writeLaneStatus_work l more _)

theorem beginBoundary_work (l : LaneId) (more : List (Nat × Nat)) (s : State) :
    LaneWork l more s (s.modLane l beginBoundary) :=
  .modLane more (beginBoundary_keeps _) (beginBoundary_state _)

theorem playSamples_loaded (n : Nat) (x : Lane) : (playSamples n x).loaded = x.loaded :=
  setIndicatorIf_loaded _ _ x

theorem beginBoundary_loaded (x : Lane) : (beginBoundary x).loaded = x.loaded := by
  have hlift (y : Lane) : (liftWaits y).loaded = y.loaded := by unfold liftWaits; split <;> rfl
  have hswap (y : Lane) : (swapStaged y).loaded = y.loaded := by rw [swapStaged_eq]; rfl
  rw [beginBoundary, hlift, hswap]
  exact playSamples_loaded _ x

theorem windowTick_loaded (l : LaneId) (s : State) :
    ((windowTick l s).lane l).loaded = (s.lane l).loaded := by
  have hclose (x : Lane) : (closedLane x).loaded = x.loaded := by
    obtain ⟨k, i, h⟩ := dropUnseen_eq (afterMarks x.link.awaiting)
      (x.link.awaiting.length - (afterMarks x.link.awaiting).length) x
    rw [closedLane, dropMarked, h]
  unfold windowTick
  split
  · dsimp only
    split
    · rw [closeTally_lane, hclose, modTally, State.lane_modLane_self]
    · rw [modTally, State.lane_modLane_self]
  · rfl

/-- A boundary's own work, before the record and the look at the slot (log entry 11). -/
def boundaryBody (l : LaneId) (s : State) : State :=
  (boundaryWork l (windowTick l (s.modLane l beginBoundary))).modLane l rollPeriod

theorem boundary_eq {l : LaneId} {s : State} (h : s.clockUnit.source ≠ .acquiring) :
    boundary l s = boundaryLook l false (boundaryStatus l s (boundaryBody l s)) := if_neg h

theorem boundaryBody_work {l : LaneId} {more : List (Nat × Nat)} {s : State}
    (hp : partAreas (s.lane l) ⊆ more) : LaneWork l more s (boundaryBody l s) := by
  have hbegin := (beginBoundary_work l more s).trans (windowTick_work l more _)
  refine (hbegin.trans (boundaryWork_work ?_)).trans (.watchedLane more rfl)
  rw [partAreas_of_loaded (x := s.lane l)]
  · exact hp
  · rw [windowTick_loaded, State.lane_modLane_self, beginBoundary_loaded]

theorem boundaryLook_work {l : LaneId} {more : List (Nat × Nat)} {s : State} (agrees : Bool)
    (hs : slotArea s (.lane l) ∈ more) (hp : partAreas (s.lane l) ⊆ more) :
    LaneWork l more s (boundaryLook l agrees s) := by
  unfold boundaryLook
  refine LaneWork.trans ?_ (noteChanges_work l more s _)
  split
  · exact lookSlot_work agrees hs hp
  · exact .refl l more s

end Sys2Proof.Machine
end

section
/-! The commands of one lane are work of that lane, which settles what such a command leaves alone. -/

namespace Sys2Proof.Machine

/-! ## The show of a lane stands through its boundary -/

theorem changeState_loaded (l : LaneId) (st : LaneState) (c : Cause) (f : Lane → Lane) (s : State) :
    ((changeState l st c f s).lane l).loaded = (f (settleLane st c (s.lane l))).loaded := by
  show (bare ((changeState l st c f s).lane l)).loaded = _
  rw [changeState_bare]
  rfl

theorem enterState_loaded (l : LaneId) (st : LaneState) (c : Cause) (s : State) :
    ((enterState l st c s).lane l).loaded = (s.lane l).loaded :=
  (changeState_loaded l st c id s).trans (settleLane_loaded st c _)

theorem runEnd_loaded (l : LaneId) (c : Cause) (s : State) :
    ((runEnd l c s).lane l).loaded = (s.lane l).loaded := by
  obtain ⟨t, k, i, h⟩ := runEnd_lane l c s
  rw [h]

theorem stopLane_loaded (l : LaneId) (c : Cause) (s : State) :
    ((stopLane l c s).lane l).loaded = (s.lane l).loaded := by
  unfold stopLane
  dsimp only
  split
  · rw [enterState_loaded, enterState_loaded, runEnd_loaded]
  · rw [enterState_loaded, runEnd_loaded]

theorem completeShow_loaded (l : LaneId) (s : State) :
    ((completeShow l s).lane l).loaded = (s.lane l).loaded := by
  unfold completeShow
  dsimp only
  rw [enterState_loaded, runEnd_loaded]
  split
  · split
    · rw [offer_lane]
    · rfl
  · rfl

theorem faultLane_loaded (l : LaneId) (k : PoisonKind) (tr : TrackKind) (f : Nat) (s : State) :
    ((faultLane l k tr f s).lane l).loaded = (s.lane l).loaded := by
  unfold faultLane
  dsimp only
  rw [enterState_loaded, offer_lane, runEnd_loaded, State.lane_modLane_self]
  rfl

theorem idleRecord_loaded (l : LaneId) (s : State) :
    ((idleRecord l s).lane l).loaded = (s.lane l).loaded :=
  (linkBoundary_cueWork l [] blackClosed _ _ s).loaded

theorem heldRecord_loaded (l : LaneId) (s : State) :
    ((heldRecord l s).lane l).loaded = (s.lane l).loaded :=
  (linkBoundary_cueWork l [] blackClosed _ _ s).loaded

theorem modLane_loaded {l : LaneId} {f : Lane → Lane} {s : State}
    (h : (f (s.lane l)).loaded = (s.lane l).loaded) :
    ((s.modLane l f).lane l).loaded = (s.lane l).loaded := by rw [State.lane_modLane_self, h]

theorem presentFrame_loaded (l : LaneId) (sh : Show) (s : State) :
    ((presentFrame l sh s).lane l).loaded = (s.lane l).loaded := by
  have hafter (u : State) : ((afterAdvance l sh u).lane l).loaded = (u.lane l).loaded := by
    unfold afterAdvance
    dsimp only
    split
    · exact completeShow_loaded l u
    · split
      · exact stopLane_loaded l _ u
      · split
        · exact stopLane_loaded l _ u
        · rfl
  obtain ⟨real, heq⟩ := presentFrame_eq l sh s
  rw [heq, hafter, State.lane_modLane_self]
  exact (presented_cueWork sh (List.Subset.refl _)).loaded

theorem playingBoundary_loaded (l : LaneId) (s : State) :
    ((playingBoundary l s).lane l).loaded = (s.lane l).loaded := by
  unfold playingBoundary
  dsimp only
  split
  · unfold holdBoundary
    split
    · rw [stopLane_loaded, heldRecord_loaded]
    · rw [takeHold, changeState_loaded]
      exact (settleLane_loaded .held ‹HoldRecord›.cause _).trans (heldRecord_loaded l s)
  · split
    · rw [faultLane_loaded, heldRecord_loaded]
    · exact presentFrame_loaded l _ s
    · rfl

theorem loadingBoundary_loaded (l : LaneId) (s : State) :
    ((loadingBoundary l s).lane l).loaded = (s.lane l).loaded := by
  unfold loadingBoundary
  dsimp only
  split
  · rw [enterState_loaded, State.lane_modLane_self]
    exact idleRecord_loaded l s
  · rw [State.lane_modLane_self]
    exact idleRecord_loaded l s

theorem advanceHold_loaded (l : LaneId) (s : State) :
    (((idleRecord l s).modLane l advanceHold).lane l).loaded = (s.lane l).loaded :=
  (modLane_loaded rfl).trans (idleRecord_loaded l s)

theorem heldBoundary_loaded (l : LaneId) (s : State) :
    ((heldBoundary l s).lane l).loaded = (s.lane l).loaded := by
  unfold heldBoundary
  dsimp only
  split
  · rw [stopLane_loaded, advanceHold_loaded]
  · exact advanceHold_loaded l s

theorem seekingBoundary_loaded (l : LaneId) (s : State) :
    ((seekingBoundary l s).lane l).loaded = (s.lane l).loaded := by
  unfold seekingBoundary
  dsimp only
  split
  · rw [stopLane_loaded, advanceHold_loaded]
  · split
    · rw [enterState_loaded, advanceHold_loaded]
    · exact advanceHold_loaded l s

theorem boundaryWork_loaded (l : LaneId) (s : State) :
    ((boundaryWork l s).lane l).loaded = (s.lane l).loaded := by
  unfold boundaryWork
  split
  · exact playingBoundary_loaded l s
  · exact loadingBoundary_loaded l s
  · exact heldBoundary_loaded l s
  · exact seekingBoundary_loaded l s
  all_goals exact idleRecord_loaded l s

theorem boundaryStatus_bare (l : LaneId) (s t : State) :
    bare ((boundaryStatus l s t).lane l) = bare (t.lane l) := by
  unfold boundaryStatus
  dsimp only
  split
  · rfl
  · exact writeLaneStatus_bare l (noteChanges s t)

/-! ## The boundary and the tick of a lane -/

theorem boundary_work {l : LaneId} {more : List (Nat × Nat)} {s : State}
    (hs : slotArea s (.lane l) ∈ more) (hp : partAreas (s.lane l) ⊆ more) :
    LaneWork l more s (boundary l s) := by
  by_cases h : s.clockUnit.source = .acquiring
  · rw [boundary, if_pos h]
    exact .refl l more s
  · rw [boundary_eq h]
    have hbody := (boundaryBody_work hp).trans (boundaryStatus_work l more s _)
    have hloaded : ((boundaryStatus l s (boundaryBody l s)).lane l).loaded = (s.lane l).loaded := by
      show (bare ((boundaryStatus l s (boundaryBody l s)).lane l)).loaded = _
      rw [boundaryStatus_bare]
      show ((boundaryBody l s).lane l).loaded = _
      rw [boundaryBody, State.lane_modLane_self]
      show ((boundaryWork l _).lane l).loaded = _
      rw [boundaryWork_loaded, windowTick_loaded, State.lane_modLane_self, beginBoundary_loaded]
    refine hbody.trans (boundaryLook_work false ?_ ?_)
    · rw [slotArea, slotAddr_of_registers hbody.rest.2.1]
      exact hs
    · rw [partAreas_of_loaded hloaded]
      exact hp

theorem boundaryIf_work {l : LaneId} {more : List (Nat × Nat)} {s : State} (due : Bool)
    (hs : slotArea s (.lane l) ∈ more) (hp : partAreas (s.lane l) ⊆ more) :
    LaneWork l more s (boundaryIf due l s) := by
  unfold boundaryIf
  split
  · exact boundary_work hs hp
  · exact .refl l more s

theorem tickLane_work (l : LaneId) (more : List (Nat × Nat)) (s : State) :
    LaneWork l more s (tickLane l s) := by
  have hramp : LaneWork l more s (s.modLane l fun x => rampGains (endTick x)) :=
    .modLane more ((endTick_keeps _).trans (rampGains_keeps _)) (endTick_state _)
  unfold tickLane
  dsimp only
  split
  · exact .refl l more s
  · split
    · exact hramp.trans (enterState_work l more .ended _ _)
    · exact hramp

/-! ## The commands of one lane -/

/-- A command of one lane is work of that lane, in its slot and its cue table beside the event's areas. -/
theorem laneCommand_work {c : Instr} {l : LaneId} {s t : State} (hl : laneOf c = some l)
    (ht : exec c s = .next t) : LaneWork l (slotArea s (.lane l) :: partAreas (s.lane l)) s t := by
  have hslot : slotArea s (.lane l) ∈ slotArea s (.lane l) :: partAreas (s.lane l) :=
    List.mem_cons_self
  have hparts : partAreas (s.lane l) ⊆ slotArea s (.lane l) :: partAreas (s.lane l) :=
    List.subset_cons_self _ _
  have hnote {more u} (h : LaneWork l more s u) : LaneWork l more s (noteChanges s u) :=
    h.trans (noteChanges_work l more s u)
  have hif {more u} {b : Prop} [Decidable b] (h : LaneWork l more s u) :
      LaneWork l more s (noteChanges s (if b then u else s)) := by
    split
    · exact hnote h
    · exact noteChanges_work l more s s
  cases c <;> first | cases hl; done | obtain rfl := Option.some.inj hl
  all_goals obtain rfl := Host.Outcome.next.inj ht
  case loadShow rq | unload rq | rewind rq | laneReset rq | setLaneOptions rq | writeSoundMap rq | start rq |
      startAt rq | cancelStart rq | hold rq | cancelHold rq | resume rq | stop rq | seek rq | setLevel rq |
      testIndicators rq | linkTest rq =>
    exact hnote (serve_work _ rq false hslot hparts)
  case frameBoundary => exact boundary_work hslot hparts
  case primed | seekPrimed | holdTaken | starveLimitExpiry | linkGraceExpiry | holdLimitExpiry |
      closingWindowExpired | linkTestComplete => exact boundaryIf_work _ hslot hparts
  case millisecondTick => exact hnote (tickLane_work _ _ s)
  case fadeComplete => exact hif (tickLane_work _ _ s)
  case lineFaultDetected k => exact hnote (lineFault_work _ _ k s)
  case lineGood => exact hnote (lineIsGood_work _ _ s)
  case lockAchieved => exact hnote (lockGained_work _ _ s)
  case lockLost => exact hnote (lockGone_work _ _ s)
  case badReport => exact hif (.modLane _ (badReportLane_keeps _) rfl)
  case headIdentityReport identity => exact hnote (takeIdentity_work _ _ identity s)
  case headStatusReport ready => exact hif (modLink_work _ (.of_link rfl rfl rfl))
  case shownReport seq => exact hif (takeShown_work _ _ seq.toNat s)
  case testTallyReport seq intact => exact hif (takeTestTally_work _ _ seq.toNat intact s)

/-- Settles O10: a command of one lane is work of that lane (`laneCommand_work`). -/
theorem laneCommandsLeaveTheRestAlone : Obligations.LaneCommandsLeaveTheRestAlone := by
  intro c l s t hl ht
  have h := laneCommand_work hl ht
  refine ⟨h.rest, fun hs => (h.mem hs).mono fun r hr => ?_⟩
  simp only [eventAreas, requestAreas, List.mem_append, List.mem_cons] at hr ⊢
  tauto

end Sys2Proof.Machine
end

section
/-! What a piece of work of the device keeps: the requests of the Licence Table, the second event and the
input tick. Each is a sequence of pieces of work of the lanes, of reports and of changes of the tables. -/

namespace Sys2Proof.Machine

/-! ## Work of the device -/

/-- The invariants pass, and what the switch back watches. -/
structure PartWork (s t : State) : Prop where
  keeps : Keeps s t
  watch : switchWatched s → switchWatched t

/-- Work of the device: the invariants pass, the registers, the engine and the lanes' shows stand, and of
host memory only the device's areas and those of `more` change. -/
structure DeviceWork (more : List (Nat × Nat)) (s t : State) : Prop extends PartWork s t where
  registers : registersKept s t
  engine : t.engine = s.engine
  loaded : ∀ l, (t.lane l).loaded = (s.lane l).loaded
  mem : shapeOk s → memKept (deviceAreas s ++ more) s t

theorem PartWork.refl (s : State) : PartWork s s := ⟨.refl s, id⟩

theorem PartWork.trans {s t u : State} (h : PartWork s t) (k : PartWork t u) : PartWork s u :=
  ⟨h.keeps.trans k.keeps, k.watch ∘ h.watch⟩

theorem LaneWork.part {l : LaneId} {more : List (Nat × Nat)} {s t : State} (h : LaneWork l more s t) :
    PartWork s t := ⟨h.keeps, h.watch⟩

theorem Told.part {s t : State} (h : Told s t) : PartWork s t := (h.work .a []).part

theorem deviceAreas_eq {s t : State} (hr : registersKept s t)
    (hl : ∀ l, (t.lane l).loaded = (s.lane l).loaded) : deviceAreas t = deviceAreas s := by
  have hparts : (fun l => partAreas (t.lane l)) = fun l => partAreas (s.lane l) :=
    funext fun l => partAreas_of_loaded (hl l)
  have hstatus : statusArea t = statusArea s :=
    funext fun l => by simp only [statusArea, laneStatusAddr, hr.tableAddr]
  simp only [deviceAreas, hparts, hstatus, slotArea, slotAddr_of_registers hr, reportAreas,
    deviceStatusAddr, journalAddr, hr.tableAddr]

theorem DeviceWork.refl (more : List (Nat × Nat)) (s : State) : DeviceWork more s s :=
  ⟨.refl s, .refl s, rfl, fun _ => rfl, fun _ => .refl _ s⟩

theorem DeviceWork.trans {more : List (Nat × Nat)} {s t u : State} (h : DeviceWork more s t)
    (k : DeviceWork more t u) : DeviceWork more s u where
  toPartWork := h.toPartWork.trans k.toPartWork
  registers := h.registers.trans k.registers
  engine := k.engine.trans h.engine
  loaded l := (k.loaded l).trans (h.loaded l)
  mem hs := (h.mem hs).trans (by
    have := k.mem (h.keeps.shapeOk hs)
    rwa [deviceAreas_eq h.registers h.loaded] at this)

theorem DeviceWork.foldl {α : Type} {more : List (Nat × Nat)} {f : State → α → State}
    (h : ∀ s a, DeviceWork more s (f s a)) (as : List α) (s : State) : DeviceWork more s (as.foldl f s) :=
  foldl_induction (R := DeviceWork more) (.refl more) (fun _ _ _ => .trans) h as s

theorem mem_deviceAreas {s : State} {r : Nat × Nat} : r ∈ deviceAreas s ↔
    r = slotArea s .device ∨ r ∈ reportAreas s ∨ (∃ l, r = statusArea s l) ∨ ∃ l, r ∈ partAreas (s.lane l) := by
  have hall (l : LaneId) : l ∈ allLanes := by cases l <;> decide
  simp only [deviceAreas, List.cons_append, List.mem_cons, List.mem_append, List.mem_map, List.mem_flatMap]
  constructor
  · rintro (h | (h | ⟨l, _, h⟩) | ⟨l, _, h⟩)
    · exact .inl h
    · exact .inr (.inl h)
    · exact .inr (.inr (.inl ⟨l, h.symm⟩))
    · exact .inr (.inr (.inr ⟨l, h⟩))
  · rintro (h | h | ⟨l, h⟩ | ⟨l, h⟩)
    · exact .inl h
    · exact .inr (.inl (.inl h))
    · exact .inr (.inl (.inr ⟨l, hall l, h.symm⟩))
    · exact .inr (.inr ⟨l, hall l, h⟩)

/-- Work of a lane that leaves its show is work of the device. -/
theorem LaneWork.device {l : LaneId} {s t : State} (more : List (Nat × Nat))
    (h : LaneWork l (partAreas (s.lane l)) s t) (hl : (t.lane l).loaded = (s.lane l).loaded) :
    DeviceWork more s t where
  toPartWork := h.part
  registers := h.rest.2.1
  engine := by obtain ⟨_, _, ⟨_, _, he, _⟩, _⟩ := h.rest; exact he
  loaded := forall_lane_of_self (P := fun x y => y.loaded = x.loaded) (fun _ => rfl) hl h.rest.1
  mem hs := (h.mem hs).mono fun r hr => by
    refine List.mem_append_left _ (mem_deviceAreas.2 ?_)
    simp only [eventAreas, List.cons_append, List.mem_cons, List.mem_append] at hr
    rcases hr with hr | hr | hr
    · exact .inr (.inr (.inl ⟨l, hr⟩))
    · exact .inr (.inl hr)
    · exact .inr (.inr (.inr ⟨l, hr⟩))

theorem Told.device {s t : State} (more : List (Nat × Nat)) (h : Told s t) : DeviceWork more s t :=
  (h.work .a _).device more (by rw [h.reported.lane])

theorem modLicences_device (more : List (Nat × Nat)) (f : LicenceTable → LicenceTable) (s : State) :
    DeviceWork more s (modLicences f s) := (modLicences_work f .a _ s).device more rfl

theorem evaluateAt_device (more : List (Nat × Nat)) (i : Nat) (s : State) :
    DeviceWork more s (evaluateAt i s) := by
  unfold evaluateAt
  split
  · exact .refl more s
  · dsimp only
    split
    · exact .refl more s
    · exact (modLicences_device more _ s).trans ((offer_told _ _).device more)

theorem evaluateAll_device (more : List (Nat × Nat)) (s : State) : DeviceWork more s (evaluateAll s) :=
  .foldl (fun s i => evaluateAt_device more i s) _ s

theorem evaluateLicence_device (more : List (Nat × Nat)) (id : Nat) (s : State) :
    DeviceWork more s (evaluateLicence id s) := by
  unfold evaluateLicence
  split
  · exact .refl more s
  · exact evaluateAt_device more _ s

/-! ## The firing of ARMED lanes and the second event -/

theorem startRun_loaded (l : LaneId) (c : Cause) (s : State) :
    ((startRun l c s).lane l).loaded = (s.lane l).loaded := by
  have hmarks := (clearMarks_work (more := partAreas ((reserveAll (tallyLicences (s.lane l).tally) s).lane l))
    (List.Subset.refl _)).loaded
  rw [startRun, changeState_loaded]
  exact (settleLane_loaded .playing c _).trans (hmarks.trans (by rw [reserveAll_lane]))

theorem compareArmed_loaded (l : LaneId) (s : State) :
    ((compareArmed s l).lane l).loaded = (s.lane l).loaded := by
  unfold compareArmed
  split
  · unfold fireStart
    split
    · exact startRun_loaded l _ s
    · rw [enterState_loaded, offer_lane]
  · rfl

theorem compareAllArmed_device (more : List (Nat × Nat)) (s : State) :
    DeviceWork more s (compareAllArmed s) :=
  .foldl (fun s l => (compareArmed_work (List.Subset.refl _)).device more (compareArmed_loaded l s)) _ s

theorem tickSecond_device (more : List (Nat × Nat)) (s : State) : DeviceWork more s (tickSecond s) :=
  (((((modLicences_device more _ s).trans ((gapCheck_told _).device more)).trans
    (evaluateAll_device more _)).trans (compareAllArmed_device more _))).trans
    ((writeDeviceStatus_told _).device more)

/-! ## The building inputs -/

theorem inputs_device {s : State} {is : List Input} {n : Nat} (more : List (Nat × Nat))
    (h : s.inputs.length = 8 → is.length = 8) :
    DeviceWork more s { s with inputs := is, inputTicks := n } where
  keeps := ⟨rfl, id, h, id, id, fun _ => .refl _, id⟩
  watch := id
  registers := .refl s
  engine := rfl
  loaded _ := rfl
  mem _ := .refl _ s

theorem endNow_loaded (l : LaneId) (c : Cause) (s : State) :
    ((endNow l c s).lane l).loaded = (s.lane l).loaded := by
  rw [endNow, enterState_loaded, runEnd_loaded, State.lane_modLane_self]
  rfl

theorem emergencyStop_loaded (l : LaneId) (s : State) :
    ((emergencyStop l s).lane l).loaded = (s.lane l).loaded := by
  unfold emergencyStop
  split
  case h_1 | h_2 | h_3 | h_4 => exact endNow_loaded l .emergency s
  case h_5 => exact enterState_loaded l .ready .emergency s
  all_goals rfl

theorem emergencyReaches_device (l : LaneId) (more : List (Nat × Nat)) (s : State) :
    DeviceWork more s (emergencyReaches l s) := by
  refine (emergencyReaches_work l _ s).device more ?_
  unfold emergencyReaches
  split
  · exact emergencyStop_loaded l s
  · rw [emergencyStop_loaded, State.lane_modLane_self]
    rfl

theorem inputHold_device (l : LaneId) (more : List (Nat × Nat)) (s : State) :
    DeviceWork more s (inputHold s l) := by
  unfold inputHold
  split
  · next h => exact (LaneWork.modLane _ (mergeHold_keeps _ _ h) rfl).device more (modLane_loaded rfl)
  · exact .refl more s

theorem actOnLanes_device (more : List (Nat × Nat)) (set : InputSettings) (s : State) :
    DeviceWork more s (actOnLanes set s) := by
  unfold actOnLanes
  split
  · exact .refl more s
  · exact .refl more s
  · exact .foldl (fun s l => inputHold_device l more s) _ s
  · exact .foldl (fun s l => emergencyReaches_device l more s) _ s

theorem reportInput_told (i : Nat) (set : InputSettings) (e : FilterEvent) (s : State) :
    Told s (reportInput i set e s) := by
  unfold reportInput
  split
  · exact .refl s
  · exact offer_told _ s

theorem handInput_device (more : List (Nat × Nat)) (i : Nat) (set : InputSettings) (s : State)
    (e : FilterEvent) : DeviceWork more s (handInput i set s e) := by
  have hreport := (reportInput_told i set e s).device more
  unfold handInput
  split
  · exact hreport.trans (actOnLanes_device more set _)
  · exact hreport

theorem handInputs_device (more : List (Nat × Nat)) (i : Nat) (set : InputSettings) (es : List FilterEvent)
    (s : State) : DeviceWork more s (handInputs i set es s) := by
  unfold handInputs
  split
  · exact .refl more s
  · exact ((writeDeviceStatus_told s).device more).trans
      (.foldl (handInput_device more i set) es _)

theorem tickInput_device (more : List (Nat × Nat)) (contacts : BitVec 8) (s : State) (i : Nat) :
    DeviceWork more s (tickInput contacts s i) := by
  unfold tickInput
  split
  · exact .refl more s
  · exact (inputs_device more fun h => by rw [List.length_set]; exact h).trans
      (handInputs_device more i _ _ _)

theorem inputTickAll_device (more : List (Nat × Nat)) (contacts : BitVec 8) (s : State) :
    DeviceWork more s (inputTickAll contacts s) := by
  unfold inputTickAll
  split
  · exact .refl more s
  · exact (inputs_device more id).trans
      (.foldl (tickInput_device more contacts) _ _)

/-! ## The requests of the device slot -/

theorem doInstall_device (more : List (Nat × Nat)) (b : List Byte) (agrees : Bool) (s : State) :
    DeviceWork more s (doInstall b agrees s).1 := by
  unfold doInstall
  split
  · exact .refl more s
  · refine DeviceWork.trans ?_ ((writeDeviceStatus_told _).device more)
    split
    · exact (modLicences_device more _ s).trans ((offer_told _ _).device more)
    · exact (modLicences_device more _ s).trans (evaluateLicence_device more _ _)

theorem removeLicence_device (more : List (Nat × Nat)) (s : State) (x : Licence) :
    DeviceWork more s (removeLicence s x) :=
  (modLicences_device more _ s).trans ((offer_told _ _).device more)

theorem doRemove_device (more : List (Nat × Nat)) (rq : Req) (s : State) :
    DeviceWork more s (doRemove rq s).1 := by
  unfold doRemove
  split
  · exact .refl more s
  · split
    · exact .refl more s
    · exact (removeLicence_device more s _).trans ((writeDeviceStatus_told _).device more)

theorem writeBuffer_device {more : List (Nat × Nat)} {a : Nat} {bs : List Byte} (r : Answer) (s : State)
    (h : accessFails s.host.writeFails a bs.length = false → (a, bs.length) ∈ more) :
    DeviceWork more s (writeBuffer a bs r s).1 := by
  unfold writeBuffer
  cases hw : hostWrite s.host a bs with
  | none => exact .refl more s
  | some h' =>
    have hok : accessFails s.host.writeFails a bs.length = false := by
      unfold hostWrite at hw
      split at hw
      · cases hw
      · next hn => simpa using hn
    have hwork := hostWrite_work .a hw (h hok)
    exact
      { keeps := hwork.keeps
        watch := id
        registers := .refl s
        engine := rfl
        loaded := fun _ => rfl
        mem := fun hs => by
          unfold hostWrite at hw
          split at hw
          · cases hw
          · cases hw
            exact (putBytes_memKept a bs s).mono fun r hr => by
              rw [List.mem_singleton.1 hr]
              exact List.mem_append_right _ (h hok) }

theorem clockChanged_device (more : List (Nat × Nat)) (ws : List Nat) (s : State) :
    DeviceWork more s (clockChanged ws s) :=
  (((evaluateAll_device more s).trans (compareAllArmed_device more _)).trans
    ((offer_told _ _).device more)).trans ((writeDeviceStatus_told _).device more)

theorem clearLost_device (more : List (Nat × Nat)) (s : State) : DeviceWork more s (clearLost s) := by
  unfold clearLost
  split
  · exact (modLicences_device more _ s).trans ((setAttention_told _ _).device more)
  · exact .refl more s

theorem doSetClock_device (more : List (Nat × Nat)) (rq : Req) (s : State) :
    DeviceWork more s (doSetClock rq s).1 := by
  unfold doSetClock
  dsimp only
  split
  · exact .refl more s
  · split
    · exact .refl more s
    · dsimp only
      exact ((modLicences_device more _ s).trans (clearLost_device more _)).trans
        (clockChanged_device more _ _)

theorem doAdjustClock_device (more : List (Nat × Nat)) (rq : Req) (s : State) :
    DeviceWork more s (doAdjustClock rq s).1 := by
  unfold doAdjustClock
  dsimp only
  split
  · exact .refl more s
  · split
    · exact .refl more s
    · dsimp only
      exact (modLicences_device more _ s).trans (clockChanged_device more _ _)

theorem doFactoryClear_device (more : List (Nat × Nat)) (s : State) :
    DeviceWork more s (doFactoryClear s).1 := by
  unfold doFactoryClear
  split
  · exact .refl more s
  · split
    · exact .refl more s
    · exact (((DeviceWork.foldl (removeLicence_device more) _ s).trans
        (modLicences_device more _ _)).trans ((clockEntry_told _ _).device more)).trans
        ((writeDeviceStatus_told _).device more)

theorem doSetInputs_device (more : List (Nat × Nat)) (b : List Byte) (s : State) :
    DeviceWork more s (doSetInputs b s).1 := by
  unfold doSetInputs
  split
  · exact .refl more s
  · split
    · exact .refl more s
    · split
      · exact .refl more s
      · have hset : DeviceWork more s
            { s with inputs := List.zipWith renewInput s.inputs ((List.range 8).map (settingsOf b)) } :=
          inputs_device more fun h => by simp [h]
        dsimp only
        split
        · exact hset
        · exact hset.trans ((writeDeviceStatus_told _).device more)

end Sys2Proof.Machine
end

section
/-! What the commands beside the lanes keep: the taking of requests, the device states, the Clock Unit, the
resets, the registers and the fetch engine. -/

namespace Sys2Proof.Machine

/-! ## The taking of requests -/

theorem putBytes_part (a : Nat) (bs : List Byte) (s : State) : PartWork s (putBytes a bs s) :=
  (putBytes_work (l := .a) (more := [(a, bs.length)]) ⟨_, List.mem_cons_self, le_rfl, le_rfl⟩).part

theorem deviceRequest_part {kind : Nat} {rq : Req} {b : List Byte} {agrees : Bool} {s : State}
    {r : State × Answer} (h : deviceRequest kind rq b agrees s = some r) : PartWork s r.1 := by
  unfold deviceRequest at h
  split at h
  case h_10 => cases h
  all_goals obtain rfl := (Option.some.inj h).symm
  · exact (doInstall_device [] b agrees s).toPartWork
  · exact (doRemove_device [] rq s).toPartWork
  · unfold doRead
    split
    · exact .refl s
    · split
      · exact .refl s
      · exact (writeBuffer_device (more := [_]) _ s fun _ => List.mem_cons_self).toPartWork
  · unfold doList
    dsimp only
    split
    · exact .refl s
    · exact (writeBuffer_device (more := [_]) _ s fun _ => List.mem_cons_self).toPartWork
  · exact (doSetClock_device [] rq s).toPartWork
  · exact (doAdjustClock_device [] rq s).toPartWork
  · exact .refl s
  · exact (doFactoryClear_device [] s).toPartWork
  · exact (doSetInputs_device [] b s).toPartWork

theorem judgeRequest_part (n : SlotId) (kind : Nat) (rq : Req) (agrees : Bool) (s : State) :
    PartWork s (judgeRequest n kind rq agrees s).1 := by
  cases n with
  | lane l => exact (judgeRequest_work kind rq agrees (List.Subset.refl _)).part
  | device =>
    unfold judgeRequest
    split
    · exact .refl s
    · split
      · exact .refl s
      · next b _ =>
        change PartWork s ((deviceRequest kind rq b agrees s).getD (s, codeAnswer .unknownRequest)).1
        cases h : deviceRequest kind rq b agrees s with
        | none => exact .refl s
        | some r => exact deviceRequest_part h

theorem writeAnswer_part (n : SlotId) (kind : Nat) (rq : Req) (r : State × Answer) :
    PartWork r.1 (writeAnswer n kind rq r) := by
  have hanswer : PartWork r.1
      (setAttention (slotIndex n) (putBytes (slotAddr r.1 n) (answerBytes kind rq r.2) r.1)) :=
    (putBytes_part _ _ _).trans (setAttention_told _ _).part
  refine hanswer.trans ?_
  cases n with
  | lane l => exact (writeLaneStatus_work l [] _).part
  | device => exact .refl _

theorem serve_part (n : SlotId) (kind : Nat) (rq : Req) (agrees : Bool) (s : State) :
    PartWork s (serve n kind rq agrees s) := by
  unfold serve
  split
  · exact ((putBytes_part _ _ s).trans (judgeRequest_part n kind rq agrees _)).trans
      (writeAnswer_part n kind rq _)
  · exact .refl s

/-- A change of registers beside the device state. -/
theorem registers_part {s t : State} (hp : t.pending = s.pending) (hm : t.host.mem = s.host.mem)
    (hin : t.inputs = s.inputs) (hj : t.journal = s.journal) (he : t.engine.flight = s.engine.flight)
    (hd : deviceFieldsOk s → deviceFieldsOk t) (hl : t.lanes = s.lanes)
    (hc : t.clockUnit = s.clockUnit) : PartWork s t := by
  have hlane (l : LaneId) : t.lane l = s.lane l := by unfold State.lane; rw [hl]
  exact ⟨.of_lanes hp hm hin hj hd (.inl he) fun l => by rw [hlane]; exact .refl _,
    switchWatched_of_running hc fun l => by rw [hlane]; exact id⟩

theorem lookSummoned_part (agrees : Bool) (s : State) (n : SlotId) : PartWork s (lookSummoned agrees s n) := by
  have hflag : PartWork s { s with summonFlags := s.summonFlags &&& ~~~summonBit n } :=
    registers_part rfl rfl rfl rfl rfl id rfl rfl
  unfold lookSummoned
  split
  · exact .refl s
  · refine hflag.trans ?_
    unfold lookSlot
    split
    · exact .refl _
    · exact serve_part n _ _ agrees _

theorem summonWrite_part (mask : Word32) (agrees : Bool) (s : State) :
    PartWork s (summonWrite mask agrees s) := by
  have hlatch : PartWork s { s with summonFlags := s.summonFlags ||| mask.setWidth 5 } :=
    registers_part rfl rfl rfl rfl rfl id rfl rfl
  unfold summonWrite
  dsimp only
  split
  · exact (hlatch.trans (gapCheck_told _).part).trans
      (foldl_induction (R := PartWork) .refl (fun _ _ _ => .trans) (lookSummoned_part agrees) _ _)
  · exact hlatch
  · exact hlatch
  · exact .refl s
  · exact .refl s

/-! ## The device states -/

theorem setReason_part {r : DeviceReason} {s : State} (hd : s.device = .waitTable)
    (hr : reasonFits .waitTable r = true) : PartWork s (setReason r s) := by
  have hreason : PartWork s { s with reason := r } :=
    registers_part rfl rfl rfl rfl rfl (fun ⟨_, hrest⟩ => ⟨by rw [hd]; exact hr, hrest⟩) rfl rfl
  unfold setReason
  split
  · exact .refl s
  · exact hreason.trans (setAttention_told 6 _).part

theorem laneStatusNow_part (l : LaneId) (s : State) :
    PartWork s (laneStatusNow l s) ∧ (laneStatusNow l s).device = s.device :=
  ⟨(laneStatusNow_work l [] s).part, rfl⟩

theorem firstWriteSteps_part {f : State → State} (h : f ∈ firstWriteSteps) (s : State) :
    PartWork s (f s) ∧ (f s).device = s.device := by
  simp only [firstWriteSteps, List.mem_cons, List.not_mem_nil, or_false] at h
  rcases h with rfl | rfl | rfl | rfl | rfl | rfl
  · exact ⟨putBytes_part _ _ s, rfl⟩
  · exact ⟨(deviceStatusNow_told s).part, rfl⟩
  all_goals exact laneStatusNow_part _ s

theorem makeFirstWrites_part (s : State) :
    PartWork s (makeFirstWrites s) ∧ (makeFirstWrites s).device = s.device := by
  have hall : ∀ (fs : List (State → State)), (∀ f ∈ fs, f ∈ firstWriteSteps) → ∀ u,
      PartWork u (fs.foldl (fun s f => f s) u) ∧ (fs.foldl (fun s f => f s) u).device = u.device := by
    intro fs
    induction fs with
    | nil => exact fun _ u => ⟨.refl u, rfl⟩
    | cons f fs ih =>
      intro h u
      obtain ⟨hf, hfd⟩ := firstWriteSteps_part (h f List.mem_cons_self) u
      obtain ⟨hfs, hfsd⟩ := ih (fun g hg => h g (List.mem_cons_of_mem _ hg)) (f u)
      exact ⟨hf.trans hfs, hfsd.trans hfd⟩
  exact hall _ (fun f hf => List.mem_of_mem_take hf) s

theorem freshTable_part (s : State) : PartWork s (freshTable s) where
  keeps :=
    { pending := rfl
      mem := id
      inputs := id
      ring := fun _ => by simp [freshTable, initialJournal]
      device := id
      lanes := fun l => (LaneKeeps.of_watched (by cases l <;> rfl)).toLaneCore
      queues := queuesOk_of_kept (.inl rfl) fun l =>
        (LaneKeeps.of_watched (x := s.lane l) (by cases l <;> rfl)).queue }
  watch := switchWatched_of_running rfl fun l => by cases l <;> exact id

theorem enterRunning_part {s : State} (hd : s.device = .waitTable) : PartWork s (enterRunning s) := by
  have hrun : PartWork s { s with device := .running, reason := .none } :=
    registers_part rfl rfl rfl rfl rfl (fun ⟨_, hhalt, hhi⟩ => by
      refine ⟨rfl, ⟨fun h => ?_, (fun h => nomatch h)⟩, fun h => ?_⟩
      · rw [hhalt.1 h] at hd
        cases hd
      · rw [hhi h] at hd
        cases hd) rfl rfl
  exact (hrun.trans (setAttention_told 6 _).part).trans (writeDeviceStatus_told _).part

/-- The acceptance of the Booth Table, from the state whose stored write is taken (R171). -/
theorem acceptTable_part {s : State} (hd : s.device = .waitTable) :
    PartWork { s with hiStored := false } (acceptTable s) := by
  unfold acceptTable failAcceptance
  dsimp only
  split
  · exact setReason_part hd rfl
  · split
    · exact setReason_part hd rfl
    · split
      · exact setReason_part hd rfl
      · have hfresh := freshTable_part { s with hiStored := false }
        obtain ⟨hwrites, hdev⟩ := makeFirstWrites_part (freshTable { s with hiStored := false })
        have hwait := hdev.trans hd
        split
        · exact (hfresh.trans hwrites).trans (enterRunning_part hwait)
        · exact (hfresh.trans hwrites).trans (setReason_part hwait rfl)

/-- The entry to WAIT_TABLE, by way of the state with no write stored (R170). -/
theorem enterWaitTable_part {s : State} (hd : s.device = .waitClock ∨ s.device = .reset) :
    PartWork s (enterWaitTable s) := by
  have hreason (h : deviceFieldsOk s) : s.reason = .none := by
    obtain ⟨hfit, _⟩ := h
    rcases hd with hd | hd
    · rw [hd] at hfit
      exact of_decide_eq_true hfit
    · rw [hd] at hfit
      exact of_decide_eq_true hfit
  have hleft : PartWork s { s with device := .waitTable, hiStored := false } :=
    registers_part rfl rfl rfl rfl rfl (fun h => by
      have hr := hreason h
      obtain ⟨_, hhalt, _⟩ := h
      refine ⟨by rw [hr]; rfl, ⟨fun hs => ?_, (fun h => nomatch h)⟩, (fun h => nomatch h)⟩
      rw [hhalt.1 hs] at hd
      rcases hd with hd | hd
      · cases hd
      · cases hd) rfl rfl
  have hnote := hleft.trans (setAttention_told 6 _).part
  unfold enterWaitTable
  dsimp only
  split
  · exact hnote.trans (acceptTable_part (s := noteDeviceChange { s with device := .waitTable }) rfl)
  · next h =>
    have hs : s.hiStored = false := by
      simpa [noteDeviceChange, setAttention] using h
    have heq : noteDeviceChange { s with device := .waitTable } =
        setAttention 6 { s with device := .waitTable, hiStored := false } := by
      rw [← hs]
      rfl
    rw [heq]
    exact hnote

/-! ## Commands beside the lanes -/

/-- What every command keeps: the invariants, and in HOLDOVER with the reference locked the lanes that run or
the switch back (R156). -/
structure CommandWork (s t : State) : Prop where
  keeps : Keeps s t
  watch : switchWatched s →
    t.device = .reset ∨ anyLaneRunning t = anyLaneRunning s ∨ switchWatched t

theorem PartWork.command {s t : State} (h : PartWork s t) : CommandWork s t :=
  ⟨h.keeps, fun hs => .inr (.inr (h.watch hs))⟩

theorem anyLaneRunning_eq {s t : State} (h : ∀ l, (t.lane l).state = (s.lane l).state) :
    anyLaneRunning t = anyLaneRunning s := by
  unfold anyLaneRunning
  rw [show (fun l => inRunStates (t.lane l).state) = fun l => inRunStates (s.lane l).state from
    funext fun l => by rw [h l]]

/-- A change of the Clock Unit, the lanes standing. -/
theorem clock_command {s t u : State} (hp : t.pending = s.pending) (hm : t.host.mem = s.host.mem)
    (hin : t.inputs = s.inputs) (hj : t.journal = s.journal) (he : t.engine.flight = s.engine.flight)
    (hd : deviceFieldsOk s → deviceFieldsOk t) (hl : t.lanes = s.lanes) (k : Keeps t u)
    (hu : ∀ l, (u.lane l).state = (t.lane l).state) : CommandWork s u := by
  have hlane (l : LaneId) : t.lane l = s.lane l := by unfold State.lane; rw [hl]
  exact ⟨(Keeps.of_lanes hp hm hin hj hd (.inl he) fun l => by rw [hlane]; exact .refl _).trans k,
    fun _ => .inr (.inl (anyLaneRunning_eq fun l => by rw [hu, hlane]))⟩

theorem laneStatusNow_bare (l m : LaneId) (s : State) :
    bare ((laneStatusNow l s).lane m) = bare (s.lane m) := by
  by_cases h : m = l
  · subst h
    rw [laneStatusNow, State.lane_modLane_self]
    rfl
  · rw [laneStatusNow, State.lane_modLane_ne _ _ h]
    rfl

theorem makeFirstWrites_bare (s : State) (m : LaneId) :
    bare ((makeFirstWrites s).lane m) = bare (s.lane m) := by
  have hstep : ∀ f ∈ firstWriteSteps, ∀ u : State, bare ((f u).lane m) = bare (u.lane m) := by
    intro f h u
    simp only [firstWriteSteps, List.mem_cons, List.not_mem_nil, or_false] at h
    rcases h with rfl | rfl | rfl | rfl | rfl | rfl
    · rfl
    · rfl
    all_goals exact laneStatusNow_bare _ m u
  have hall : ∀ (fs : List (State → State)), (∀ f ∈ fs, f ∈ firstWriteSteps) → ∀ u : State,
      bare ((fs.foldl (fun s f => f s) u).lane m) = bare (u.lane m) := by
    intro fs
    induction fs with
    | nil => exact fun _ u => rfl
    | cons f fs ih =>
      exact fun h u => (ih (fun g hg => h g (List.mem_cons_of_mem _ hg)) (f u)).trans
        (hstep f (h f List.mem_cons_self) u)
  exact hall _ (fun f hf => List.mem_of_mem_take hf) s

theorem setReason_lane (r : DeviceReason) (s : State) (l : LaneId) : (setReason r s).lane l = s.lane l := by
  unfold setReason
  split
  · rfl
  · rfl

/-- Acceptance writes the lanes' records and changes nothing of the lanes themselves (R171). -/
theorem acceptTable_bare (s : State) (l : LaneId) : bare ((acceptTable s).lane l) = bare (s.lane l) := by
  have hfresh (u : State) : bare ((makeFirstWrites (freshTable u)).lane l) = bare (u.lane l) :=
    (makeFirstWrites_bare _ l).trans (by cases l <;> rfl)
  unfold acceptTable failAcceptance
  dsimp only
  split
  · rw [setReason_lane]; rfl
  · split
    · rw [setReason_lane]; rfl
    · split
      · rw [setReason_lane]; rfl
      · split
        · rw [enterRunning, (writeDeviceStatus_told _).reported.lane l]
          exact hfresh _
        · rw [setReason_lane]
          exact hfresh _

theorem enterWaitTable_bare (s : State) (l : LaneId) :
    bare ((enterWaitTable s).lane l) = bare (s.lane l) := by
  unfold enterWaitTable
  dsimp only
  split
  · exact acceptTable_bare _ l
  · rfl

theorem enterWaitTable_state (s : State) (l : LaneId) :
    ((enterWaitTable s).lane l).state = (s.lane l).state :=
  show (bare ((enterWaitTable s).lane l)).state = _ by rw [enterWaitTable_bare]; rfl

theorem endReset_command (s : State) : CommandWork s (endReset s) := by
  unfold endReset
  split
  · exact (PartWork.refl s).command
  · next hn =>
    have hd : s.device = .reset := not_not.1 hn
    have hwait (src : ClockSource) :
        CommandWork s (enterWaitTable { s with clockUnit := { s.clockUnit with source := src } }) :=
      clock_command (t := { s with clockUnit := { s.clockUnit with source := src } })
        rfl rfl rfl rfl rfl id rfl
        (enterWaitTable_part (s := { s with clockUnit := { s.clockUnit with source := src } }) (.inr hd)).keeps
        (enterWaitTable_state _)
    split
    · exact hwait .internal
    · split
      · exact hwait .external
      · refine clock_command (t := { s with
            device := .waitClock, clockUnit := { s.clockUnit with source := .acquiring } })
          rfl rfl rfl rfl rfl (fun h => ?_) rfl (setAttention_told 6 _).keeps fun _ => rfl
        obtain ⟨hfit, hhalt, _⟩ := h
        rw [hd] at hfit hhalt
        exact ⟨hfit, ⟨(fun hs => nomatch hhalt.1 hs), (fun h => nomatch h)⟩, fun _ => rfl⟩

theorem writeBaseHi_command (v : Word32) (s : State) : CommandWork s (writeBaseHi v s) := by
  have hstored (h : s.device = .waitClock) : PartWork s { s with tableHi := v, hiStored := true } :=
    registers_part rfl rfl rfl rfl rfl (fun ⟨hfit, hhalt, _⟩ => ⟨hfit, hhalt, fun _ => h⟩) rfl rfl
  have hkept (h : s.device = .waitTable) : PartWork s { s with tableHi := v, hiStored := false } :=
    registers_part rfl rfl rfl rfl rfl (fun ⟨hfit, hhalt, _⟩ => ⟨hfit, hhalt, (fun h => nomatch h)⟩) rfl rfl
  unfold writeBaseHi
  split
  case h_1 h => exact (hstored h).command
  case h_2 h => exact ((hkept h).trans (acceptTable_part (s := { s with tableHi := v }) h)).command
  all_goals exact (PartWork.refl s).command

theorem writeBaseLo_part (v : Word32) (s : State) : PartWork s (writeBaseLo v s) := by
  have hkept : PartWork s { s with tableLo := v } := registers_part rfl rfl rfl rfl rfl id rfl rfl
  unfold writeBaseLo
  split
  case h_1 | h_2 => exact hkept
  all_goals exact .refl s

theorem setSource_command (src : ClockSource) (s : State) : CommandWork s (setSource src s) :=
  clock_command (t := { s with clockUnit := { s.clockUnit with source := src } }) rfl rfl rfl rfl rfl id rfl
    (writeDeviceStatus_told _).keeps fun l => by rw [setSource, (writeDeviceStatus_told _).reported.lane l]

theorem setSource_lane (src : ClockSource) (s : State) (l : LaneId) :
    (setSource src s).lane l = s.lane l := (writeDeviceStatus_told _).reported.lane l

theorem setLocked_lane (b : Bool) (s : State) (l : LaneId) : (setLocked b s).lane l = s.lane l :=
  (writeDeviceStatus_told _).reported.lane l

theorem setLocked_command (b : Bool) (s : State) : CommandWork s (setLocked b s) :=
  clock_command (t := { s with clockUnit := { s.clockUnit with refLocked := b } }) rfl rfl rfl rfl rfl id rfl
    (writeDeviceStatus_told _).keeps fun l => by rw [setLocked, (writeDeviceStatus_told _).reported.lane l]

theorem setSource_device (src : ClockSource) (s : State) : (setSource src s).device = s.device :=
  (writeDeviceStatus_told _).reported.device

theorem selectInternal_command (s : State) : CommandWork s (selectInternal s) := by
  have hsource (u : State) : Keeps u (setSource .internal u) := (setSource_command _ u).keeps
  have hwait {u : State} (h : u.device = .waitClock) : Keeps u (enterWaitTable u) :=
    (enterWaitTable_part (.inl h)).keeps
  unfold selectInternal
  dsimp only
  refine clock_command (t := { s with clockUnit := { s.clockUnit with external := false } })
    rfl rfl rfl rfl rfl id rfl ?_ ?_
  · split
    · split
      · next h => exact hwait h
      · exact .refl _
    · split
      · next h => exact (hsource _).trans (hwait h)
      · exact hsource _
  · intro l
    split
    · split
      · exact enterWaitTable_state _ l
      · rfl
    · split
      · exact (enterWaitTable_state _ l).trans (by rw [setSource_lane])
      · rw [setSource_lane]

theorem selectExternal_command (s : State) : CommandWork s (selectExternal s) := by
  unfold selectExternal
  dsimp only
  refine clock_command (t := { s with clockUnit := { s.clockUnit with external := true } })
    rfl rfl rfl rfl rfl id rfl ?_ ?_
  · split
    · exact .refl _
    · split
      · exact (setSource_command _ _).keeps
      · exact (setSource_command _ _).keeps
  · intro l
    split
    · rfl
    · split
      · rw [setSource_lane]
      · rw [setSource_lane]

theorem selectSource_command (external : Bool) (s : State) : CommandWork s (selectSource external s) := by
  unfold selectSource
  split
  · exact selectExternal_command s
  · exact selectInternal_command s

theorem referenceLocks_command (s : State) : CommandWork s (referenceLocks s) := by
  have hlocked := (setLocked_command true s).keeps
  have hlane (l : LaneId) := setLocked_lane true s l
  have hrun {u : State} (h : ∀ l, (u.lane l).state = ((setLocked true s).lane l).state) (hk : Keeps s u) :
      CommandWork s u :=
    ⟨hk, fun _ => .inr (.inl (anyLaneRunning_eq fun l => by rw [h, hlane]))⟩
  unfold referenceLocks
  split
  · exact (PartWork.refl s).command
  · dsimp only
    split
    · exact hrun (fun _ => rfl) hlocked
    · exact hrun (fun _ => rfl) hlocked
    · refine hrun (fun l => by rw [switchBack_lane, clockEntry, offer_lane]) (hlocked.trans ?_)
      exact (clockEntry_told _ _).keeps.trans (switchBack_frame .a [] _).keeps
    · split
      · next h =>
        have hd : (setSource .external (setLocked true s)).device = .waitClock := by
          rw [setSource_device]; exact h
        refine hrun (fun l => ?_)
          ((hlocked.trans (setSource_command _ _).keeps).trans (enterWaitTable_part (.inl hd)).keeps)
        rw [enterWaitTable_state, setSource_lane]
      · exact hrun (fun _ => rfl) hlocked

theorem referenceGoes_command (s : State) : CommandWork s (referenceGoes s) := by
  have hlocked := (setLocked_command false s).keeps
  have hrun {u : State} (h : ∀ l, (u.lane l).state = ((setLocked false s).lane l).state) (hk : Keeps s u) :
      CommandWork s u :=
    ⟨hk, fun _ => .inr (.inl (anyLaneRunning_eq fun l => by rw [h, setLocked_lane]))⟩
  unfold referenceGoes
  split
  · exact (PartWork.refl s).command
  · dsimp only
    split
    · exact hrun (fun _ => rfl) hlocked
    · exact hrun (fun _ => rfl) hlocked
    · exact hrun (fun l => by rw [clockEntry, offer_lane, setSource_lane])
        ((hlocked.trans (setSource_command _ _).keeps).trans (clockEntry_told _ _).keeps)
    · exact hrun (fun l => by rw [clockEntry, offer_lane]) (hlocked.trans (clockEntry_told _ _).keeps)

theorem maintenanceTo_part (b : Bool) (s : State) : PartWork s (maintenanceTo b s) := by
  have hlevel : PartWork s { s with maintenance := b } := registers_part rfl rfl rfl rfl rfl id rfl rfl
  unfold maintenanceTo
  split
  · exact .refl s
  · exact (hlevel.trans (setAttention_told 6 _).part).trans (writeDeviceStatus_told _).part

theorem silenceContacts_work (l : LaneId) (s : State) :
    LaneWork l [] s (s.modLane l fun x => { silenceLines x with contacts := 0 }) := by
  have hcontacts : LaneKeeps (silenceLines (s.lane l)) { silenceLines (s.lane l) with contacts := 0 } :=
    .of_watched rfl
  exact .modLane [] ((silenceLines_keeps _).trans hcontacts) rfl

theorem accessFailed_part (dir : AccessDir) (area : HaltArea) (s : State) :
    PartWork s (accessFailed dir area s) := by
  unfold accessFailed
  split
  · next hd =>
    have hhalt (r : DeviceReason) (hr : reasonFits .halted r = true) :
        PartWork s { s with device := .halted, reason := r, haltArea := some area } :=
      registers_part rfl rfl rfl rfl rfl (fun ⟨_, _, hhi⟩ =>
        ⟨hr, ⟨fun _ => rfl, fun _ => rfl⟩, fun h => by
          have := hhi h
          rw [hd] at this
          cases this⟩) rfl rfl
    have hreason : reasonFits .halted (match dir with | .read => .haltRead | .write => .haltWrite) = true := by
      cases dir <;> rfl
    have hstop (u : State) : PartWork u (allLanes.foldl (fun s l => emergencyStop l s) u) :=
      foldl_induction (R := PartWork) .refl (fun _ _ _ => .trans)
        (fun u l => (emergencyStop_work l [] u).part) _ u
    have hsilence (u : State) : PartWork u
        (allLanes.foldl (fun s l => s.modLane l fun x => { silenceLines x with contacts := 0 }) u) :=
      foldl_induction (R := PartWork) .refl (fun _ _ _ => .trans)
        (fun u l => (silenceContacts_work l u).part) _ u
    exact (((hhalt _ hreason).trans (setAttention_told 6 _).part).trans (hstop _)).trans (hsilence _)
  · exact .refl s

/-! ## Resets -/

/-- The part as a reset leaves it, before the derived states are evaluated (R73). -/
def booted (boot : Lane → Lane) (c : ClockUnit) (t : LicenceTable) (s : State) : State :=
  { State.reset with
    maintenance := s.maintenance
    clockUnit := c
    licences := t
    lanes := ⟨boot s.lanes.a, boot s.lanes.b, boot s.lanes.c, boot s.lanes.d⟩
    host := s.host
    pending := s.pending }

theorem bootState_eq (boot : Lane → Lane) (c : ClockUnit) (t : LicenceTable) (s : State) :
    bootState boot c t s = evaluateAll (booted boot c t s) := rfl

theorem booted_lane (boot : Lane → Lane) (c : ClockUnit) (t : LicenceTable) (s : State) (l : LaneId) :
    (booted boot c t s).lane l = boot (s.lane l) := by
  cases l
  · rfl
  · rfl
  · rfl
  · rfl

theorem booted_keeps {boot : Lane → Lane} (c : ClockUnit) (t : LicenceTable) (s : State)
    (h : ∀ x, LaneKeeps x (boot x)) (hq : ∀ x e, ((boot x).tracks.get e).queue = []) :
    Keeps s (booted boot c t s) where
  pending := rfl
  mem := id
  inputs _ := rfl
  ring _ := by simp [booted, State.reset, initialJournal]
  device _ := ⟨rfl, ⟨(fun h => nomatch h), (fun h => nomatch h)⟩, (fun h => nomatch h)⟩
  lanes l := by
    rw [booted_lane]
    exact (h _).toLaneCore
  queues := queuesOk_of_kept (.inr rfl) fun l => by
    rw [booted_lane]
    exact .inr (hq _)

theorem bootState_command {boot : Lane → Lane} (c : ClockUnit) (t : LicenceTable) (s : State)
    (h : ∀ x, LaneKeeps x (boot x)) (hq : ∀ x e, ((boot x).tracks.get e).queue = []) :
    CommandWork s (bootState boot c t s) := by
  have heval := evaluateAll_work .a [] (booted boot c t s)
  obtain ⟨_, ⟨hdev, _⟩, _⟩ := heval.rest
  exact ⟨(booted_keeps c t s h hq).trans heval.keeps, fun _ => .inl hdev⟩

theorem powerUp_command (kept : Bool) (elapsed : Nat) (s : State) : CommandWork s (powerUp kept elapsed s) :=
  bootState_command _ _ s bootLane_keeps fun _ e => by cases e <;> rfl

theorem resetDevice_command (external : Bool) (s : State) : CommandWork s (resetDevice external s) :=
  bootState_command _ _ s rebootLane_keeps fun _ e => by cases e <;> rfl

/-! ## Registers -/

theorem applyActs_part (acts : HostActs) (s : State) : PartWork s (applyActs acts s) where
  keeps := ⟨rfl, memWf_hostActs acts, id, id, id, fun _ => .refl _, id⟩
  watch := id

theorem PartWork.before {s t u : State} (h : PartWork s t) (hl : ∀ l, (t.lane l).state = (s.lane l).state)
    (k : CommandWork t u) : CommandWork s u :=
  ⟨h.keeps.trans k.keeps, fun hs => by
    rw [← anyLaneRunning_eq hl]
    exact k.watch (h.watch hs)⟩

theorem writeRegister_command (offset : BitVec 5) (v : Word32) (agrees : Bool) (s : State) :
    CommandWork s (writeRegister offset v agrees s) := by
  have hcontrol : CommandWork s (writeControl v s) := by
    unfold writeControl
    split
    · exact resetDevice_command _ s
    · exact selectSource_command _ s
  have hmask : PartWork s (writeMask v s) := registers_part rfl rfl rfl rfl rfl id rfl rfl
  unfold writeRegister
  split
  · exact (writeBaseLo_part v s).command
  · split
    · exact writeBaseHi_command v s
    · split
      · exact hcontrol
      · split
        · exact (summonWrite_part v agrees s).command
        · split
          · exact hmask.command
          · exact (PartWork.refl s).command

/-! ## The fetch engine -/

theorem essenceWork_fetchable {s : State} {l : LaneId} {e : Essence} (h : essenceWork s l = some e) :
    essenceFetchable s l e = true := by
  have hstep : ∀ (es : List Essence) (best : Option Essence),
      (∀ b, best = some b → essenceFetchable s l b = true) →
      es.foldl (fun best e =>
        if essenceFetchable s l e then
          match best with
          | none => some e
          | some b =>
            if ((s.lane l).tracks.get e).queue.length < ((s.lane l).tracks.get b).queue.length then some e
            else some b
        else best) best = some e → essenceFetchable s l e = true := by
    intro es
    induction es with
    | nil => exact fun best hb h => hb e h
    | cons f es ih =>
      intro best hb
      refine ih _ fun b hbest => ?_
      dsimp only at hbest
      split at hbest
      · next hf =>
        split at hbest
        · cases hbest; exact hf
        · split at hbest
          · cases hbest; exact hf
          · cases hbest; exact hb _ rfl
      · exact hb b hbest
  exact hstep _ none (fun _ h => nomatch h) h

/-- A track that can be fetched has room in its queue (R51). -/
theorem queueLoad_lt_of_fetchable {s : State} {l : LaneId} {e : Essence}
    (h : essenceFetchable s l e = true) : queueLoad s l e < Config.queueDepth := by
  have hw : waitReason s l e = some .none := of_decide_eq_true h
  unfold waitReason at hw
  split at hw
  · cases hw
  · split at hw
    · cases hw
    · split at hw
      · cases hw
      · split at hw
        · cases hw
        · split at hw
          · cases hw
          · next hn => exact Nat.lt_of_not_le hn

theorem engine_part {s : State} (f : LaneId) : PartWork s { s with engine := { s.engine with searchFrom := f } } :=
  registers_part rfl rfl rfl rfl rfl id rfl rfl

/-- A lane change that lengthens one queue by one, or the flight that a grant makes for it. -/
theorem part_of_load {s t : State} {l : LaneId} {e : Essence} (hp : t.pending = s.pending)
    (hm : t.host = s.host) (hin : t.inputs = s.inputs) (hj : t.journal = s.journal)
    (hd : deviceFieldsOk s → deviceFieldsOk t) (hc : t.clockUnit = s.clockUnit)
    (hl : LaneCore (s.lane l) (t.lane l)) (hst : (t.lane l).state = (s.lane l).state)
    (ho : ∀ m, m ≠ l → t.lane m = s.lane m)
    (hload : ∀ m f, queueLoad t m f ≤ queueLoad s m f ∨ (m = l ∧ f = e ∧ queueLoad t m f ≤ Config.queueDepth)) :
    PartWork s t where
  keeps :=
    { pending := hp
      mem := fun h => by unfold memOk; rw [hm]; exact h
      inputs := fun h => by rw [hin]; exact h
      ring := fun h => by rw [hj]; exact h
      device := hd
      lanes := forall_lane_of_self .refl hl ho
      queues := fun h m f => by
        rcases hload m f with hle | ⟨_, _, hle⟩
        · exact hle.trans (h m f)
        · exact hle }
  watch := switchWatched_of_running hc fun m => by
    by_cases h : m = l
    · rw [h, hst]; exact id
    · rw [ho m h]; exact id

theorem placeResult_generation (e : Essence) (pos : Position) (body : EntryBody) (x : Lane) :
    (placeResult e pos body x).generation = x.generation ∧ (placeResult e pos body x).state = x.state := by
  have hset (c : Bool) (i : Indicator) (y : Lane) :
      (setIndicatorIf c i y).generation = y.generation ∧ (setIndicatorIf c i y).state = y.state := by
    cases c
    · exact ⟨rfl, rfl⟩
    · exact ⟨rfl, rfl⟩
  unfold placeResult
  split
  · exact ⟨rfl, rfl⟩
  · split
    · exact ⟨rfl, rfl⟩
    · exact hset _ _ _

theorem setIndicatorIf_tracks (c : Bool) (i : Indicator) (x : Lane) :
    (setIndicatorIf c i x).tracks = x.tracks := by
  cases c
  · rfl
  · rfl

/-- A placed result lengthens its own queue by at most one and no other (R63). -/
theorem placeResult_queue (e f : Essence) (pos : Position) (body : EntryBody) (x : Lane) :
    ((placeResult e pos body x).tracks.get f).queue.length ≤
      (x.tracks.get f).queue.length + (if f = e then 1 else 0) := by
  unfold placeResult
  split
  · exact Nat.le_add_right _ _
  · split
    · exact Nat.le_add_right _ _
    · rw [setIndicatorIf_tracks]
      by_cases h : f = e
      · subst h
        rw [PerEssence.get_set_self, if_pos rfl, List.length_append]
        exact le_rfl
      · rw [PerEssence.get_set_ne _ _ h, if_neg h]
        exact le_rfl

theorem queueLoad_idle {s : State} (h : s.engine.flight = none) (l : LaneId) (e : Essence) :
    queueLoad s l e = ((s.lane l).tracks.get e).queue.length := by
  simp [queueLoad, flightPosition, h]

theorem queue_le_queueLoad (s : State) (l : LaneId) (e : Essence) :
    ((s.lane l).tracks.get e).queue.length ≤ queueLoad s l e := Nat.le_add_right _ _

/-- A poisoned position placed at once: the track that could be fetched had room for it. -/
theorem placePoisoned_part {s : State} {l : LaneId} {e : Essence} (sh : Show) (pos : Position)
    (body : EntryBody) (hi : s.engine.flight = none) (hroom : queueLoad s l e < Config.queueDepth) :
    PartWork s (s.modLane l fun y => placeResult e pos body (advanceFetch sh e pos y)) := by
  have hfetch (f : Essence) : ((advanceFetch sh e pos (s.lane l)).tracks.get f).queue =
      ((s.lane l).tracks.get f).queue := by
    unfold advanceFetch
    by_cases h : f = e
    · subst h
      rw [PerEssence.get_set_self]
    · rw [PerEssence.get_set_ne _ _ h]
  refine part_of_load (l := l) (e := e) rfl rfl rfl rfl id rfl ?_ ?_
    (fun m hm => State.lane_modLane_ne _ _ hm) fun m f => ?_
  · rw [State.lane_modLane_self]
    exact (advanceFetch_keeps sh e pos _).toLaneCore.trans (placeResult_core e pos body _)
  · rw [State.lane_modLane_self]
    exact (placeResult_generation e pos body _).2
  · rw [queueLoad_idle (s := s.modLane l _) hi, queueLoad_idle hi]
    by_cases hm : m = l
    · subst hm
      rw [State.lane_modLane_self]
      have hle := placeResult_queue e f pos body (advanceFetch sh e pos (s.lane m))
      rw [hfetch] at hle
      by_cases hf : f = e
      · subst hf
        rw [queueLoad_idle hi] at hroom
        rw [if_pos rfl] at hle
        exact .inr ⟨rfl, rfl, hle.trans hroom⟩
      · rw [if_neg hf] at hle
        exact .inl hle
    · exact .inl (by rw [State.lane_modLane_ne _ _ hm])

/-- The flight of a grant counts for the track that could be fetched. -/
theorem setFlight_part {s : State} {l : LaneId} {e : Essence} {f : Lane → Lane} (w : Flight)
    (hw : ∀ m g, m ≠ l ∨ g ≠ e → flightPosition (setFlight (some w) (s.modLane l f)) m g = none)
    (hi : s.engine.flight = none) (hroom : queueLoad s l e < Config.queueDepth)
    (hk : LaneKeeps (s.lane l) (f (s.lane l))) (hst : (f (s.lane l)).state = (s.lane l).state)
    (hq : ∀ g, ((f (s.lane l)).tracks.get g).queue = ((s.lane l).tracks.get g).queue) :
    PartWork s (setFlight (some w) (s.modLane l f)) := by
  have hself : (setFlight (some w) (s.modLane l f)).lane l = f (s.lane l) := State.lane_modLane_self _ _ _
  have hother {m : LaneId} (hm : m ≠ l) : (setFlight (some w) (s.modLane l f)).lane m = s.lane m :=
    State.lane_modLane_ne _ _ hm
  have hqueue (m : LaneId) (g : Essence) :
      (((setFlight (some w) (s.modLane l f)).lane m).tracks.get g).queue = ((s.lane m).tracks.get g).queue := by
    by_cases hm : m = l
    · subst hm; rw [hself, hq]
    · rw [hother hm]
  refine part_of_load (l := l) (e := e) rfl rfl rfl rfl id rfl (by rw [hself]; exact hk.toLaneCore)
    (by rw [hself, hst]) (fun m hm => hother hm) fun m g => ?_
  have hload : queueLoad (setFlight (some w) (s.modLane l f)) m g ≤
      ((s.lane m).tracks.get g).queue.length + 1 := by
    rw [queueLoad, hqueue]
    split
    · exact le_rfl
    · exact Nat.le_add_right _ _
  by_cases h : m = l ∧ g = e
  · obtain ⟨rfl, rfl⟩ := h
    rw [queueLoad_idle hi] at hroom
    exact .inr ⟨rfl, rfl, hload.trans hroom⟩
  · refine .inl ?_
    rw [queueLoad_idle hi, queueLoad, hqueue, hw m g (by tauto)]
    exact le_rfl

theorem essenceWait_part (l : LaneId) (e : Essence) (pos : Position) (s : State) :
    PartWork s (essenceWait l e pos s) := by
  have hwait : LaneWork l [] s (modTrack l e (fun t => { t with waiting := true }) s) :=
    .modLane [] (setTrack_keeps le_rfl) rfl
  unfold essenceWait
  dsimp only
  split
  · exact hwait.part
  · have hwanted (w : Wanted) (u : State) : PartWork u (modTrack l e (fun t => { t with wanted := some w }) u) :=
      (LaneWork.modLane [] (by exact setTrack_keeps le_rfl) rfl).part
    exact (hwait.part.trans (offerNoted_told _ _).part).trans (hwanted _ _)

theorem subtitleWait_part (l : LaneId) (pl : Place) (s : State) : PartWork s (subtitleWait l pl s) := by
  have hwait : LaneWork l [] s (s.modLane l (putStore pl { getStore (s.lane l).overlay pl with waiting := true })) :=
    .modLane [] (putStore_keeps id le_rfl) rfl
  unfold subtitleWait
  dsimp only
  split
  · exact hwait.part
  · have hwanted (w : Option Wanted) (u : State) : PartWork u
        (u.modLane l fun y => { y with subWanted := y.subWanted.set (placeTrack pl) w }) :=
      (LaneWork.watchedLane [] rfl).part
    exact (hwait.part.trans (offerNoted_told _ _).part).trans (hwanted _ _)

/-- A lane beside its overlay, its subtitle wanted records and its indicators: what the receipt of a container
leaves alone (R70, R71, R128 to R131). -/
def besideStores (x : Lane) : Lane :=
  { x with overlay := initialOverlay, subWanted := ⟨none, none⟩, indicators := noIndicators }

theorem besideStores_setIndicatorIf (c : Bool) (i : Indicator) (x : Lane) :
    besideStores (setIndicatorIf c i x) = besideStores x := by
  cases c
  · rfl
  · rfl

theorem besideStores_loseStore (pl : Place) (loss : StoreLoss) (x : Lane) :
    besideStores (loseStore pl loss x) = besideStores x := by
  unfold loseStore dropWanted
  dsimp only
  split
  · rfl
  · rfl

theorem besideStores_judgeHeader (pl : Place) (x : Lane) : besideStores (judgeHeader pl x) = besideStores x := by
  unfold judgeHeader
  dsimp only
  split
  · rfl
  · split
    · exact besideStores_loseStore pl _ x
    · rfl

theorem besideStores_judgeExcess (pl : Place) (x : Lane) : besideStores (judgeExcess pl x) = besideStores x := by
  unfold judgeExcess
  dsimp only
  split
  · exact besideStores_loseStore pl _ x
  · rfl

theorem besideStores_judgeCues (pl : Place) (x : Lane) : besideStores (judgeCues pl x) = besideStores x := by
  unfold judgeCues
  dsimp only
  split
  · unfold judgeStore
    dsimp only
    split
    · rfl
    · exact besideStores_setIndicatorIf _ _ _
  · rfl

theorem besideStores_judgeEnd (chunks : Nat) (pl : Place) (x : Lane) :
    besideStores (judgeEnd chunks pl x) = besideStores x := by
  unfold judgeEnd
  dsimp only
  split
  · rfl
  · split
    · unfold decodeStore
      dsimp only
      split
      · rfl
      · rfl
    · exact besideStores_loseStore pl _ x

theorem besideStores_receiveChunk (chunks : Nat) (content : List Byte) (pl : Place) (x : Lane) :
    besideStores (receiveChunk chunks content pl x) = besideStores x := by
  unfold receiveChunk
  dsimp only
  rw [besideStores_judgeEnd, besideStores_judgeCues, besideStores_judgeExcess, besideStores_judgeHeader]
  rfl

theorem state_of_besideStores {x y : Lane} (h : besideStores y = besideStores x) : y.state = x.state :=
  show (besideStores y).state = (besideStores x).state by rw [h]

theorem grantEssence_part {s : State} {l : LaneId} {e : Essence} (hi : s.engine.flight = none)
    (hroom : queueLoad s l e < Config.queueDepth) : PartWork s (grantEssence l e s) := by
  unfold grantEssence
  dsimp only
  split
  · next sh pos _ _ =>
    split
    · exact .refl s
    · split
      · exact placePoisoned_part sh pos _ hi hroom
      · split
        · exact essenceWait_part l e pos s
        · split
          · exact placePoisoned_part sh pos _ hi hroom
          · refine setFlight_part _ (fun m g hmg => ?_) hi hroom (advanceFetch_keeps sh e pos _) rfl fun g => ?_
            · rcases hmg with hm | hg
              · simp [flightPosition, setFlight, hm.symm]
              · simp [flightPosition, setFlight, hg.symm]
            · unfold advanceFetch
              by_cases h : g = e
              · subst h
                rw [PerEssence.get_set_self]
              · rw [PerEssence.get_set_ne _ _ h]
  · exact .refl s

theorem subtitleFlight_part {s : State} (l : LaneId) (g : Nat) (t : Subtitle) (reel chunk : Nat) (a n : Nat)
    (hi : s.engine.flight = none) :
    PartWork s (setFlight (some ⟨l, g, .subtitle t reel chunk, a, n⟩) s) := by
  refine part_of_load (l := l) (e := .picture) rfl rfl rfl rfl id rfl (.refl _) rfl (fun _ _ => rfl)
    fun m e => .inl ?_
  have hnone : flightPosition (setFlight (some ⟨l, g, .subtitle t reel chunk, a, n⟩) s) m e = none := by
    simp only [flightPosition, setFlight]
    exact ite_self _
  rw [queueLoad_idle hi, queueLoad, hnone]
  exact le_rfl

theorem grantSubtitle_part {s : State} (l : LaneId) (pl : Place) (hi : s.engine.flight = none) :
    PartWork s (grantSubtitle l pl s) := by
  have hlose (u : State) : PartWork u (u.modLane l (loseStore pl .chunk)) :=
    (LaneWork.modLane [] (loseStore_keeps pl .chunk _) (state_of_besideStores (besideStores_loseStore pl .chunk _))).part
  have hwanted (q : Lane → PerSubtitle (Option Wanted)) : PartWork s (s.modLane l fun y => { y with subWanted := q y }) :=
    (LaneWork.watchedLane [] rfl).part
  unfold grantSubtitle
  dsimp only
  split
  · exact .refl s
  · split
    · exact hlose s
    · split
      · exact subtitleWait_part l pl s
      · split
        · exact (hwanted _).trans (hlose _)
        · exact (hwanted _).trans (subtitleFlight_part _ _ _ _ _ _ _ hi)

theorem queueLoad_searchFrom (s : State) (f l : LaneId) (e : Essence) :
    queueLoad { s with engine := { s.engine with searchFrom := f } } l e = queueLoad s l e := by
  cases l <;> rfl

theorem engineGrant_part (s : State) : PartWork s (engineGrant s) := by
  unfold engineGrant
  split
  · exact .refl s
  · next hn =>
    have hi : s.engine.flight = none := by
      cases h : s.engine.flight with
      | none => rfl
      | some f => exact absurd (.inr (by rw [h]; rfl)) hn
    split
    · exact .refl s
    · next l _ =>
      refine (engine_part (nextLane l)).trans ?_
      generalize hs : { s with engine := { s.engine with searchFrom := nextLane l } } = u
      have hu : u.engine.flight = none := by rw [← hs]; exact hi
      have hessence {e : Essence} (h : essenceWork u l = some e) : PartWork u (grantEssence l e u) :=
        grantEssence_part hu (queueLoad_lt_of_fetchable (essenceWork_fetchable h))
      unfold grantWork
      split
      · next h =>
        split
        · exact grantSubtitle_part l _ hu
        · exact hessence h
      · exact grantSubtitle_part l _ hu
      · next h => exact hessence h
      · exact .refl u

/-- The end of a transaction whose result is discarded. -/
theorem endFlight_part (s : State) : PartWork s (setFlight none s) where
  keeps := .of_lanes rfl rfl rfl rfl id (.inr rfl) fun _ => .refl _
  watch := id

theorem completeEssence_part (agrees : Bool) (plain : List Byte) (s : State) :
    PartWork s (completeEssence agrees plain s) := by
  unfold completeEssence
  split
  · next f hf =>
    split
    · exact .refl s
    · next e pos hwork =>
      dsimp only
      split
      · exact endFlight_part s
      · next hgen =>
        split
        · exact endFlight_part s
        · next t _ =>
          refine part_of_load (l := f.lane) (e := e) rfl rfl rfl rfl id rfl ?_ ?_
            (fun m hm => State.lane_modLane_ne _ _ hm) fun m g => .inl ?_
          · rw [State.lane_modLane_self]
            exact placeResult_core e pos _ _
          · rw [State.lane_modLane_self]
            exact (placeResult_generation e pos _ _).2
          · rw [queueLoad_idle rfl]
            by_cases hm : m = f.lane
            · subst hm
              rw [State.lane_modLane_self]
              refine (placeResult_queue e g pos _ _).trans (Nat.add_le_add_left ?_ _)
              by_cases hg : g = e
              · subst hg
                have hgen' : f.generation = (s.lane f.lane).generation := not_not.1 hgen
                simp [flightPosition, hf, hwork, hgen']
              · rw [if_neg hg]; exact Nat.zero_le _
            · rw [State.lane_modLane_ne _ _ hm]
              exact queue_le_queueLoad s m g
  · exact .refl s

theorem completeSubtitle_part (agrees : Bool) (plain : List Byte) (s : State) :
    PartWork s (completeSubtitle agrees plain s) := by
  have hend := endFlight_part s
  have hlose (l : LaneId) (pl : Place) :
      PartWork (setFlight none s) ((setFlight none s).modLane l (loseStore pl .chunk)) :=
    (LaneWork.modLane [] (loseStore_keeps pl .chunk _) (state_of_besideStores (besideStores_loseStore pl .chunk _))).part
  unfold completeSubtitle
  split
  · split
    · exact .refl s
    · dsimp only
      split
      · exact hend
      · split
        · exact hend
        · split
          · exact hend
          · split
            · exact hend.trans (hlose _ _)
            · split
              · exact hend.trans (hlose _ _)
              · exact hend.trans (LaneWork.modLane [] (receiveChunk_keeps _ _ _ _)
                  (state_of_besideStores (besideStores_receiveChunk _ _ _ _))).part
  · exact .refl s

end Sys2Proof.Machine
end

section
/-! What every command keeps, and the obligations about the invariants that a step keeps. -/

namespace Sys2Proof.Machine

theorem CommandWork.note {s t : State} (h : CommandWork s t) : CommandWork s (noteChanges s t) :=
  ⟨h.keeps.trans (noteChanges_keeps s t), h.watch⟩

theorem PartWork.note {s t : State} (h : PartWork s t) : CommandWork s (noteChanges s t) := h.command.note

theorem PartWork.noteIf {s t : State} {b : Prop} [Decidable b] (h : PartWork s t) :
    CommandWork s (noteChanges s (if b then t else s)) := by
  split
  · exact h.note
  · exact (PartWork.refl s).note

theorem switchBack_part (s : State) : PartWork s (switchBack s) where
  keeps := (switchBack_frame .a [] s).keeps
  watch h := switchWatched_switchBack (h.imp (fun ⟨hs, hr, _⟩ => ⟨hs, hr⟩) id)

/-- Every command but those of one lane keeps the invariants. -/
theorem otherCommand_work {c : Instr} {s t : State} (hl : laneOf c = none) (ht : exec c s = .next t) :
    CommandWork s t := by
  cases c
  case powerOn kept n => obtain rfl := Host.Outcome.next.inj ht; exact (powerUp_command kept n s).note
  case deviceReset external => obtain rfl := Host.Outcome.next.inj ht; exact (resetDevice_command external s).note
  case resetWorkComplete => obtain rfl := Host.Outcome.next.inj ht; exact (endReset_command s).note
  case clockSourceSelect external =>
    obtain rfl := Host.Outcome.next.inj ht; exact (selectSource_command external s).note
  case tableBaseHiWrite v acts =>
    obtain rfl := Host.Outcome.next.inj ht
    exact ((applyActs_part acts s).before (fun _ => rfl) (writeBaseHi_command v _)).note
  case registerWrite offset v acts agrees =>
    obtain rfl := Host.Outcome.next.inj ht
    exact ((applyActs_part acts s).before (fun _ => rfl) (writeRegister_command offset v agrees _)).note
  case summon mask acts agrees =>
    obtain rfl := Host.Outcome.next.inj ht
    exact ((applyActs_part acts s).trans (summonWrite_part mask agrees _)).note
  case attentionRead =>
    obtain rfl := Host.Outcome.next.inj ht
    exact (registers_part (s := s) (t := readAttention s) rfl rfl rfl rfl rfl id rfl rfl).note
  case attentionMaskWrite v =>
    obtain rfl := Host.Outcome.next.inj ht
    exact (registers_part (s := s) (t := writeMask v s) rfl rfl rfl rfl rfl id rfl rfl).note
  case maintenanceInputChange b => obtain rfl := Host.Outcome.next.inj ht; exact (maintenanceTo_part b s).note
  case unknownRequestKind n kind rq =>
    obtain rfl := Host.Outcome.next.inj ht
    refine CommandWork.note ?_
    split
    · exact (PartWork.refl s).command
    · exact (serve_part n kind.toNat rq false s).command
  case startAtFiring l => obtain rfl := Host.Outcome.next.inj ht; exact (tickSecond_device [] s).toPartWork.noteIf
  case installLicence rq agrees => obtain rfl := Host.Outcome.next.inj ht; exact (serve_part _ _ rq agrees s).note
  case removeLicence rq | readLicence rq | listLicences rq | setClock rq | adjustClock rq | readIdentity rq |
      factoryClear rq | setInputs rq =>
    obtain rfl := Host.Outcome.next.inj ht; exact (serve_part _ _ rq false s).note
  case secondEvent => obtain rfl := Host.Outcome.next.inj ht; exact (tickSecond_device [] s).toPartWork.note
  case inputTick contacts =>
    obtain rfl := Host.Outcome.next.inj ht; exact (inputTickAll_device [] contacts s).toPartWork.note
  case inputDebounceAccept i contacts =>
    obtain rfl := Host.Outcome.next.inj ht; exact (inputTickAll_device [] contacts s).toPartWork.noteIf
  case chatterLeft i contacts =>
    obtain rfl := Host.Outcome.next.inj ht; exact (inputTickAll_device [] contacts s).toPartWork.noteIf
  case fetchGrant => obtain rfl := Host.Outcome.next.inj ht; exact (engineGrant_part s).note
  case fetchCompletion agrees plain =>
    obtain rfl := Host.Outcome.next.inj ht; exact (completeEssence_part agrees plain s).note
  case subtitleChunkCompletion agrees plain =>
    obtain rfl := Host.Outcome.next.inj ht; exact (completeSubtitle_part agrees plain s).note
  case referenceLock => obtain rfl := Host.Outcome.next.inj ht; exact (referenceLocks_command s).note
  case referenceLoss => obtain rfl := Host.Outcome.next.inj ht; exact (referenceGoes_command s).note
  case clockSwitchBack =>
    obtain rfl := Host.Outcome.next.inj ht
    exact (switchBack_part s).note
  case journalGap => obtain rfl := Host.Outcome.next.inj ht; exact (gapCheck_told s).part.note
  case tableAccessFailure dir area =>
    obtain rfl := Host.Outcome.next.inj ht; exact (accessFailed_part dir area s).note
  all_goals cases hl

theorem exec_command {c : Instr} {s t : State} (ht : exec c s = .next t) : CommandWork s t := by
  cases hl : laneOf c with
  | none => exact otherCommand_work hl ht
  | some l => exact (laneCommand_work hl ht).part.command

theorem exec_next (c : Instr) (s : State) : ∃ t, exec c s = .next t := by
  cases c
  all_goals exact ⟨_, rfl⟩

/-- Settles O2: every arm of `exec` answers a next state, and no work touches the waiting commands. -/
theorem everyCommandKeepsTheQueue : Obligations.EveryCommandKeepsTheQueue := by
  intro c s
  obtain ⟨t, ht⟩ := exec_next c s
  exact ⟨t, ht, (exec_command ht).keeps.pending⟩

/-! ## Steps -/

theorem step_nil {s : State} (h : s.pending = []) : step s = .next s := by
  rw [step]
  split
  · rfl
  · next hc => rw [h] at hc; cases hc

theorem step_cons {s : State} {c : Instr} {cs : List Instr} (h : s.pending = c :: cs) :
    step s = exec c { s with pending := cs } := by
  rw [step]
  split
  · next hc => rw [h] at hc; cases hc
  · next hc => rw [h] at hc; cases hc; rfl

/-- A property of the state that waiting commands play no part in is kept by every step once every command
keeps it. -/
theorem step_induction {P : State → Prop} (hq : ∀ s cs, P s → P { s with pending := cs })
    (he : ∀ c s t, exec c s = .next t → P s → P t) {s t : State} (hs : P s) (ht : step s = .next t) : P t := by
  cases h : s.pending with
  | nil =>
    rw [step_nil h] at ht
    obtain rfl := Host.Outcome.next.inj ht
    exact hs
  | cons c cs =>
    rw [step_cons h] at ht
    exact he c _ t ht (hq s cs hs)

theorem exec_lanes {P : Lane → Prop} (h : ∀ {x y}, LaneCore x y → P x → P y) {c : Instr} {s t : State}
    (ht : exec c s = .next t) : everyLane P s → everyLane P t :=
  everyLane_mono fun l => h ((exec_command ht).keeps.lanes l)

theorem step_lanes {P : Lane → Prop} (h : ∀ {x y}, LaneCore x y → P x → P y) (s t : State)
    (hs : everyLane P s) (ht : step s = .next t) : everyLane P t :=
  step_induction (P := everyLane P) (fun _ _ => id) (fun _ _ _ => exec_lanes h) hs ht

/-- Settles O4: every command keeps them (`exec_command`). -/
theorem stepsKeepMemoryAndRecordShapes : Obligations.StepsKeepMemoryAndRecordShapes :=
  ⟨fun _ _ => step_induction (P := fun s => memOk s) (fun _ _ => id)
      fun _ _ _ ht => (exec_command ht).keeps.mem,
    fun _ _ => step_induction (P := fun s => shapeOk s) (fun _ _ => id)
      fun _ _ _ ht => (exec_command ht).keeps.shapeOk⟩

/-- Settles O5. -/
theorem stepsKeepLaneFieldsInTheirStates : Obligations.StepsKeepLaneFieldsInTheirStates :=
  step_lanes fun h => h.fields

/-- Settles O6. -/
theorem stepsKeepAwaitingListsConsecutive : Obligations.StepsKeepAwaitingListsConsecutive :=
  ⟨step_lanes fun h => h.list, step_lanes fun h => h.window⟩

/-- Settles O7. -/
theorem stepsKeepGainsAndSamplesInRange : Obligations.StepsKeepGainsAndSamplesInRange :=
  step_lanes fun h => h.sound

/-- Settles O8: a grant needs room in its queue (`queueLoad_lt_of_fetchable`), and a completion takes the
place of its flight. -/
theorem stepsKeepEssenceQueuesBounded : Obligations.StepsKeepEssenceQueuesBounded :=
  ⟨fun _ _ => step_induction (P := fun s => queuesOk s)
      (fun _ _ h l e => h l e) fun _ _ _ ht => (exec_command ht).keeps.queues,
    step_lanes fun h => h.stores⟩

end Sys2Proof.Machine
end

section
/-! Show frames and reels, thresholds and derived states (R36 to R38, R46, R76). -/

namespace Sys2Proof.Machine

/-! ## Show frames (R36 to R38) -/

theorem inReel_iff {r : Reel} {p : Nat} : inReel r p = true ↔ r.start ≤ p ∧ p < r.start + r.duration := by
  simp [inReel]

theorem placeReels_start_le {start k : Nat} {rs : List Reel} {q : Reel}
    (h : (placeReels start rs)[k]? = some q) : start ≤ q.start := by
  induction rs generalizing start k with
  | nil => cases h
  | cons r rs ih =>
    cases k with
    | zero => obtain rfl := Option.some.inj h; exact le_rfl
    | succ k => exact (Nat.le_add_right _ _).trans (ih h)

/-- A frame of the show lies in exactly one reel of the copy, and `findReel` finds it. -/
theorem findReel_placeReels {rs : List Reel} {start i p : Nat} (hlo : start ≤ p)
    (hhi : p < start + totalFrames rs) :
    ∃ k r, findReel i (placeReels start rs) p = some (i + k, r) ∧ (placeReels start rs)[k]? = some r ∧
      inReel r p = true ∧ ∀ j q, (placeReels start rs)[j]? = some q → inReel q p = true → j = k := by
  induction rs generalizing start i with
  | nil => exact absurd hhi (by simp [totalFrames]; omega)
  | cons r rs ih =>
    by_cases h : p < start + r.duration
    · have hin : inReel { r with start := start } p = true := inReel_iff.2 ⟨hlo, h⟩
      refine ⟨0, { r with start := start }, by simp [placeReels, findReel, hin], rfl, hin, fun j q hj hq => ?_⟩
      cases j with
      | zero => rfl
      | succ j =>
        have hstart := placeReels_start_le (show (placeReels (start + r.duration) rs)[j]? = some q from hj)
        have := (inReel_iff.1 hq).1
        omega
    · have hout : inReel { r with start := start } p = false :=
        Bool.eq_false_iff.2 fun hin => h (inReel_iff.1 hin).2
      have hend : p < start + r.duration + totalFrames rs := by
        simp only [totalFrames, List.map_cons, List.sum_cons] at hhi ⊢
        omega
      obtain ⟨k, q, hf, hk, hq, hu⟩ := ih (i := i + 1) (Nat.le_of_not_lt h) hend
      refine ⟨k + 1, q, by simp [placeReels, findReel, hout, hf]; omega, hk, hq, fun j u hj hin => ?_⟩
      cases j with
      | zero =>
        obtain rfl := Option.some.inj hj
        exact absurd hin (by rw [hout]; exact Bool.false_ne_true)
      | succ j => rw [hu j u hj hin]

theorem nthReel_succ (sh : Show) (k : Nat) : nthReel sh (1 + k) = sh.reels[k]? := by
  rw [nthReel, if_neg (by omega), Nat.add_sub_cancel_left]

/-- Settles O14, by the place of the frame among the placed reels (`findReel_placeReels`). -/
theorem showFramesRoundTrip : Obligations.ShowFramesRoundTrip := by
  intro sh rs p hreels _ hp
  obtain ⟨k, r, hf, hk, hin, hu⟩ :=
    findReel_placeReels (rs := rs) (i := 1) (Nat.zero_le p) (by rw [Nat.zero_add]; exact hp)
  rw [← hreels] at hf hk hu
  obtain ⟨hlo, hhi⟩ := inReel_iff.1 hin
  have hnth : nthReel sh (1 + k) = some r := by rw [nthReel_succ, hk]
  refine ⟨1 + k, r, hf, hnth, hlo, hhi, Nat.le_add_right _ _, ?_, ?_, fun j q hj hqlo hqhi => ?_⟩
  · unfold trackFrame
    omega
  · simp only [positionFrame, hnth, showFrameOf, trackFrame]
    omega
  · cases j with
    | zero => simp [nthReel] at hj
    | succ j =>
      rw [Nat.add_comm j 1, nthReel_succ] at hj
      rw [hu j q hj (inReel_iff.2 ⟨hqlo, hqhi⟩), Nat.add_comm]

/-! ## Thresholds and derived states (R46, R76) -/

theorem countThreshold_spec {f k : Nat} (hk : 1 ≤ k) (hk' : k ≤ 100) :
    f * k ≤ 100 * countThreshold f k ∧ 100 * countThreshold f k < f * k + 100 ∧ countThreshold f k ≤ f ∧
      (1 ≤ f → 1 ≤ countThreshold f k) := by
  have hle : f * k ≤ f * 100 := Nat.mul_le_mul_left f hk'
  have hge : f * 1 ≤ f * k := Nat.mul_le_mul_left f hk
  unfold countThreshold
  refine ⟨by omega, by omega, by omega, fun _ => by omega⟩

/-- Settles O15. -/
theorem thresholdsAndDerivedStates : Obligations.ThresholdsAndDerivedStates := by
  refine ⟨fun f k => countThreshold_spec, fun valid clock x => ?_⟩
  unfold derivedState
  cases valid
  · simp
  · by_cases hb : clock < x.notBefore
    · simp [hb, Nat.not_le.2 hb]
    · by_cases ha : x.notAfter ≤ clock
      · simp [hb, ha, Nat.le_of_not_lt hb]
      · by_cases hs : x.allowance ≠ 0 ∧ x.allowance ≤ x.counted
        · simp [hb, ha, hs, Nat.le_of_not_lt hb, Nat.lt_of_not_le ha]
        · have hs' : ¬ (¬ x.allowance = 0 ∧ x.allowance ≤ x.counted) := hs
          simp [hb, ha, hs', Nat.lt_of_not_le ha]

end Sys2Proof.Machine
end

section
/-! The commands of the registers, the Clock Unit and the resets (R154 to R156, R169 to R173). -/

namespace Sys2Proof.Machine

/-- Settles O1. -/
theorem stepRunsTheFrontCommand : Obligations.StepRunsTheFrontCommand :=
  ⟨fun _ _ _ => rfl, fun _ => step_nil⟩

/-! ## What a Lane Status Record shows -/

/-- The part of the state that a Lane Status Record shows: its lane, the licences and the engine. -/
def shownBy (s : State) (l : LaneId) : State :=
  { State.reset with
    lanes := Quad.of fun _ => bare (s.lane l)
    licences := s.licences
    engine := s.engine }

theorem laneStatusBody_shownBy (s : State) (l : LaneId) :
    laneStatusBody (shownBy s l) l = laneStatusBody s l := by
  cases l
  · rfl
  · rfl
  · rfl
  · rfl

theorem laneStatusBody_congr {s t : State} {l : LaneId} (hl : bare (t.lane l) = bare (s.lane l))
    (hlic : t.licences = s.licences) (he : t.engine = s.engine) :
    laneStatusBody t l = laneStatusBody s l := by
  rw [← laneStatusBody_shownBy t, ← laneStatusBody_shownBy s, shownBy, shownBy, hl, hlic, he]

/-- What the host did to its memory ahead of a command shows in no record. -/
theorem noteChanges_applyActs (acts : HostActs) (s t : State) :
    noteChanges (applyActs acts s) t = noteChanges s t := by
  have hsame (l : LaneId) : laneStatusBody (applyActs acts s) l = laneStatusBody s l := rfl
  simp only [noteChanges, recordDiffers, hsame]
  rfl

/-! ## The end of the reset work (R154, R170) -/

theorem enterWaitTable_of_unstored {s : State} (h : s.hiStored = false) :
    enterWaitTable s = noteDeviceChange { s with device := .waitTable } :=
  if_neg (by rw [show (noteDeviceChange { s with device := .waitTable }).hiStored = s.hiStored from rfl, h]
             exact Bool.false_ne_true)

/-- The state after the reset work, by the selected source and the lock of its reference. -/
theorem endReset_eq {s : State} (hd : s.device = .reset) (hi : s.hiStored = false) :
    endReset s = noteDeviceChange
      (if s.clockUnit.external = false then
        { s with device := .waitTable, clockUnit := { s.clockUnit with source := .internal } }
      else if s.clockUnit.refLocked = true then
        { s with device := .waitTable, clockUnit := { s.clockUnit with source := .external } }
      else
        { s with device := .waitClock, clockUnit := { s.clockUnit with source := .acquiring } }) := by
  rw [endReset, if_neg (not_not.2 hd)]
  cases he : s.clockUnit.external with
  | false => exact enterWaitTable_of_unstored hi
  | true =>
    cases hr : s.clockUnit.refLocked with
    | false => rfl
    | true => exact enterWaitTable_of_unstored hi

/-- Settles O17, by the three clock cases. -/
theorem resetWorkEndsInAWait : Obligations.ResetWorkEndsInAWait := by
  intro s hd hi
  refine ⟨noteChanges s (endReset s), rfl, ?_⟩
  rw [endReset_eq hd hi]
  cases he : s.clockUnit.external with
  | false => simp [noteChanges, noteDeviceChange, setAttention]
  | true =>
    cases hr : s.clockUnit.refLocked with
    | false => simp [noteChanges, noteDeviceChange, setAttention]
    | true => simp [noteChanges, noteDeviceChange, setAttention]

/-! ## The register window (R169, R173) -/

/-- Settles O19: each writable register acts as its own row does; a write that reaches none changes nothing
that a record shows. -/
theorem registerWritesReachTheirRegister : Obligations.RegisterWritesReachTheirRegister := by
  intro v acts agrees s
  have hcontrol : exec (.registerWrite 0x08 v acts agrees) s =
      .next (noteChanges (applyActs acts s) (writeControl v (applyActs acts s))) := by
    rw [noteChanges_applyActs]
    rfl
  refine ⟨?_, rfl, fun h => ?_, fun h => ?_, rfl, ?_, fun offset h => ?_⟩
  · have hlo : writeBaseLo v (applyActs acts s) = { s with
        host := hostActs s.host acts
        tableLo := if s.device = .waitClock ∨ s.device = .waitTable then v else s.tableLo } := by
      unfold writeBaseLo
      cases hd : (applyActs acts s).device
      all_goals
        have hs : s.device = _ := hd
        simp [hs, applyActs]
    exact congrArg Host.Outcome.next ((congrArg (noteChanges s) hlo).trans (noteChanges_eq_self rfl rfl rfl rfl))
  · rw [hcontrol, writeControl, if_pos h]
    rfl
  · rw [hcontrol, writeControl, if_neg (by rw [h]; exact Bool.false_ne_true)]
    rfl
  · exact congrArg Host.Outcome.next (noteChanges_applyActs acts s _).symm
  · simp only [List.mem_cons, List.not_mem_nil, or_false, not_or] at h
    obtain ⟨h0, h1, h2, h3, h4⟩ := h
    have hnone : writeRegister offset v agrees (applyActs acts s) = applyActs acts s := by
      rw [writeRegister, if_neg h0, if_neg h1, if_neg h2, if_neg h3, if_neg h4]
    exact congrArg Host.Outcome.next ((congrArg (noteChanges s) hnone).trans (noteChanges_eq_self rfl rfl rfl rfl))

/-! ## The Device Status Record (R176) -/

theorem writeDeviceStatus_running {s : State} (h : s.device = .running) :
    writeDeviceStatus s = deviceStatusNow s := if_pos h

theorem writeDeviceStatus_idle {s : State} (h : s.device ≠ .running) : writeDeviceStatus s = s := if_neg h

/-- A write of the Device Status Record changes host memory and the record's update count. -/
theorem writeDeviceStatus_eq (s : State) :
    ∃ m n, writeDeviceStatus s = { s with host := { s.host with mem := m }, statusCount := n } := by
  by_cases h : s.device = .running
  · exact ⟨_, _, writeDeviceStatus_running h⟩
  · exact ⟨_, _, writeDeviceStatus_idle h⟩

theorem writeDeviceStatus_memKept {s : State} (h : s.inputs.length = 8) :
    memKept [(deviceStatusAddr s, deviceStatusSize)] s (writeDeviceStatus s) := by
  by_cases hd : s.device = .running
  · rw [writeDeviceStatus_running hd]
    refine (putBytes_memKept (deviceStatusAddr s)
      (le 4 (nextCount s.statusCount) ++ deviceStatusBody s) s).mono fun r hr => ?_
    rw [List.mem_singleton.1 hr, List.length_append, le_length, deviceStatusBody_length h]
    exact List.mem_cons_self
  · rw [writeDeviceStatus_idle hd]
    exact .refl _ s

/-- Settles O20: of a change of the maintenance level only ATTENTION and the Device Status Record tell. -/
theorem attentionAndMaintenanceAreShown : Obligations.AttentionAndMaintenanceAreShown := by
  refine ⟨fun v s => ⟨⟨_, rfl, noteChanges_eq_self rfl rfl rfl rfl, ?_⟩, _, rfl, noteChanges_eq_self rfl rfl rfl rfl, ?_⟩,
    fun b s => ⟨fun h => ?_, fun h => ⟨_, rfl, ?_⟩⟩⟩
  · simp [interruptLine, noteChanges, readAttention]
  · exact decide_eq_true_iff
  · have hsame : maintenanceTo b s = s := if_pos h
    exact congrArg Host.Outcome.next (by rw [hsame, noteChanges_self])
  · have hto : maintenanceTo b s = writeDeviceStatus (noteDeviceChange { s with maintenance := b }) := if_neg h
    rw [hto]
    obtain ⟨m, n, hw⟩ := writeDeviceStatus_eq (noteDeviceChange { s with maintenance := b })
    refine ⟨by simp [hw]; rfl, by simp [hw]; rfl, fun hn => ?_, fun hr => ?_, fun hs => ?_, ?_⟩
    · rw [writeDeviceStatus_idle (by exact hn)]
      exact ⟨rfl, rfl⟩
    · rw [writeDeviceStatus_running (by exact hr)]
      rfl
    · exact writeDeviceStatus_memKept (s := noteDeviceChange { s with maintenance := b }) hs.1
    · simp only [hw]
      exact ⟨rfl, rfl, rfl, rfl, rfl, rfl, rfl, rfl⟩

/-! ## The state after reset -/

theorem reset_lane (l : LaneId) : State.reset.lane l = initialLane := by
  cases l
  · rfl
  · rfl
  · rfl
  · rfl

theorem everyLane_reset {P : Lane → Prop} (h : P initialLane) : everyLane P State.reset :=
  (everyLane_iff P _).2 fun l => by rw [reset_lane]; exact h

theorem reset_queueLoad (l : LaneId) (e : Essence) : queueLoad State.reset l e = 0 := by
  cases l
  all_goals cases e
  all_goals rfl

theorem lostTable_record (i : Word64) (k : BitVec 128) (x : Licence) : some x ∉ (lostTable i k).records :=
  fun h => nomatch List.eq_of_mem_replicate h

theorem licencesOk_reset : licencesOk State.reset := by
  refine ⟨?_, ?_, fun x hx => absurd hx (lostTable_record 0 0 x), ?_, everyLane_reset ?_⟩
  · show ((List.replicate 64 (none : Option Licence)).filterMap _).Nodup
    rw [List.filterMap_replicate_of_none rfl]
    exact List.nodup_nil
  · show ((List.replicate 256 (none : Option KeySlot)).filterMap _).Nodup
    rw [List.filterMap_replicate_of_none rfl]
    exact List.nodup_nil
  · decide
  · simp [tallyFits, initialLane, absentTally]

/-- Settles O3. -/
theorem resetHoldsTheManualsValues : Obligations.ResetHoldsTheManualsValues := by
  refine ⟨⟨rfl, rfl, rfl, rfl, rfl, rfl, rfl, rfl, rfl, rfl, rfl, rfl, fun l => ?_, fun i hi => ?_, ?_⟩, ?_⟩
  · rw [reset_lane]
    decide
  · have hinput : State.reset.inputs[i]? = some initialInput := by
      show (List.replicate 8 initialInput)[i]? = _
      rw [List.getElem?_replicate, if_pos hi]
    rw [hinput]
    exact ⟨rfl, rfl⟩
  · exact ⟨rfl, rfl, rfl, rfl, rfl, rfl, rfl⟩
  · refine ⟨⟨.nil, fun _ h => nomatch h⟩, ⟨rfl, by decide, everyLane_reset (by decide)⟩,
      everyLane_reset (by decide), everyLane_reset ⟨Nat.zero_le _, trivial, fun _ => rfl⟩,
      everyLane_reset (fun h => nomatch h), everyLane_reset ⟨allMute_ok, allMute_ok, ?_⟩,
      fun l e => ?_, everyLane_reset (by decide), ⟨rfl, by decide, (fun h => nomatch h)⟩, licencesOk_reset⟩
    · exact silence_range
    · rw [reset_queueLoad]
      exact Nat.zero_le _

end Sys2Proof.Machine
end

section
/-! The evaluation of the derived states (R76, R77) and the resets (R1, R73, R154, R170). -/

namespace Sys2Proof.Machine

/-! ## Evaluation -/

theorem getElem?_foldl_modify {α : Type} (f : α → α) (xs : List α) (k j : Nat) :
    ((List.range k).foldl (fun ys i => ys.modify i f) xs)[j]? =
      if j < k then xs[j]?.map f else xs[j]? := by
  induction k with
  | zero => rfl
  | succ k ih =>
    rw [List.range_succ, List.foldl_append, List.foldl_cons, List.foldl_nil, List.getElem?_modify, ih]
    by_cases h : k = j
    · subst h
      simp
    · have hlt : j < k ↔ j < k + 1 := by omega
      simp [h, hlt]

theorem foldl_modify_length {α : Type} (f : α → α) (xs : List α) :
    (List.range xs.length).foldl (fun ys i => ys.modify i f) xs = xs.map f := by
  refine List.ext_getElem? fun j => ?_
  rw [getElem?_foldl_modify, List.getElem?_map]
  split
  · rfl
  · next h => rw [List.getElem?_eq_none (Nat.le_of_not_lt h)]; rfl

/-- A licence with its derived state evaluated (R76). -/
def evaluated (valid : Bool) (clock : Nat) (x : Licence) : Licence :=
  { x with state := derivedState valid clock x }

theorem Reported.modLicences {s t : State} (h : Reported s t) (f : LicenceTable → LicenceTable) :
    Reported (modLicences f s) (modLicences f t) := by
  obtain ⟨m, j, n, a, rfl⟩ := h
  exact ⟨m, j, n, a, rfl⟩

theorem modLicences_same {f : LicenceTable → LicenceTable} {s : State} (h : f s.licences = s.licences) :
    modLicences f s = s := by unfold Machine.modLicences; rw [h]

/-- The table with one record evaluated. -/
def evaluateRecord (i : Nat) (t : LicenceTable) : LicenceTable :=
  { t with records := t.records.modify i (Option.map (evaluated t.clockValid t.clock)) }

theorem offers_reported (es : List JournalEntry) (s : State) :
    Reported s (es.foldl (fun s e => offer e s) s) :=
  foldl_induction (R := Reported) .refl (fun _ _ _ => .trans) (fun s e => offer_reported e s) es s

theorem offer_idle {s : State} (h : s.device ≠ .running) (e : JournalEntry) : offer e s = s := by
  rw [offer, offerNoted, if_pos h]

theorem offers_idle {s : State} (h : s.device ≠ .running) (es : List JournalEntry) :
    es.foldl (fun s e => offer e s) s = s := by
  induction es with
  | nil => rfl
  | cons e es ih => rw [List.foldl_cons, offer_idle h, ih]

/-- The evaluation of one record, and the entry that reports it where the state changes. -/
theorem evaluateAt_eq (i : Nat) (s : State) :
    ∃ es : List JournalEntry, evaluateAt i s = es.foldl (fun s e => offer e s) (modLicences (evaluateRecord i) s) := by
  unfold evaluateAt
  split
  · next h =>
    have hsame : s.licences.records.modify i
        (Option.map (evaluated s.licences.clockValid s.licences.clock)) = s.licences.records := by
      refine List.ext_getElem? fun j => ?_
      rw [List.getElem?_modify]
      by_cases hij : i = j
      · subst hij
        cases hr : s.licences.records[i]? with
        | none => rfl
        | some r =>
          rw [List.getD_eq_getElem?_getD, hr] at h
          obtain rfl : r = none := h
          simp
      · simp [hij]
    refine ⟨[], (modLicences_same ?_).symm⟩
    rw [evaluateRecord, hsame]
  · next x h =>
    have hget : s.licences.records[i]? = some (some x) := by
      rw [List.getD_eq_getElem?_getD] at h
      cases hr : s.licences.records[i]? with
      | none => rw [hr] at h; cases h
      | some r => rw [hr] at h; exact congrArg some h
    have hset : s.licences.records.modify i (Option.map (evaluated s.licences.clockValid s.licences.clock)) =
        s.licences.records.set i (some (evaluated s.licences.clockValid s.licences.clock x)) := by
      rw [List.modify_eq_set_getElem?, hget]
      rfl
    dsimp only
    split
    · next hs =>
      have hx : evaluated s.licences.clockValid s.licences.clock x = x := by
        unfold evaluated
        rw [hs]
      obtain ⟨hi, hv⟩ := List.getElem?_eq_some_iff.1 hget
      refine ⟨[], (modLicences_same ?_).symm⟩
      rw [evaluateRecord, hset, hx, ← hv, List.set_getElem_self]
    · refine ⟨[_], congrArg (offer _) ?_⟩
      unfold Machine.modLicences evaluateRecord
      rw [hset]
      rfl

/-- The table with every record evaluated. -/
def evaluateRecords (t : LicenceTable) : LicenceTable :=
  { t with records := recordsEvaluated t.clockValid t.clock t.records }

theorem foldl_evaluateRecord (is : List Nat) (t : LicenceTable) :
    is.foldl (fun t i => evaluateRecord i t) t =
      { t with
        records := is.foldl (fun rs i => rs.modify i (Option.map (evaluated t.clockValid t.clock))) t.records } := by
  induction is generalizing t with
  | nil => rfl
  | cons i is ih => rw [List.foldl_cons, ih]; rfl

theorem foldl_evaluateRecord_all (t : LicenceTable) :
    (List.range t.records.length).foldl (fun t i => evaluateRecord i t) t = evaluateRecords t := by
  rw [foldl_evaluateRecord, foldl_modify_length]
  rfl

theorem foldl_modLicences (is : List Nat) (s : State) :
    is.foldl (fun s i => modLicences (evaluateRecord i) s) s =
      modLicences (fun t => is.foldl (fun t i => evaluateRecord i t) t) s := by
  induction is generalizing s with
  | nil => rfl
  | cons i is ih => rw [List.foldl_cons, ih]; rfl

/-- An evaluation of the whole table gives every record its derived state, and reports the changes (R77). -/
theorem evaluateAll_reported (s : State) : Reported (modLicences evaluateRecords s) (evaluateAll s) := by
  have hfold : ∀ (is : List Nat) (u v : State), Reported u v →
      Reported (is.foldl (fun s i => modLicences (evaluateRecord i) s) u)
        (is.foldl (fun s i => evaluateAt i s) v) := by
    intro is
    induction is with
    | nil => exact fun u v h => h
    | cons i is ih =>
      intro u v h
      obtain ⟨es, he⟩ := evaluateAt_eq i v
      rw [List.foldl_cons, List.foldl_cons, he]
      exact ih _ _ ((h.modLicences _).trans (offers_reported es _))
  have h := hfold (List.range s.licences.records.length) s s (.refl s)
  rw [foldl_modLicences] at h
  rwa [show Machine.modLicences evaluateRecords s = _ from
    congrArg (fun t => { s with licences := t }) (foldl_evaluateRecord_all s.licences).symm]

theorem evaluateAll_licences (s : State) : (evaluateAll s).licences = evaluateRecords s.licences :=
  (evaluateAll_reported s).licences

/-- Outside RUNNING the evaluation reports nothing (R178). -/
theorem evaluateAll_idle {s : State} (h : s.device ≠ .running) :
    evaluateAll s = modLicences evaluateRecords s := by
  have hfold : ∀ (is : List Nat) (u : State), u.device ≠ .running →
      is.foldl (fun s i => evaluateAt i s) u = is.foldl (fun s i => modLicences (evaluateRecord i) s) u := by
    intro is
    induction is with
    | nil => exact fun u _ => rfl
    | cons i is ih =>
      intro u hu
      obtain ⟨es, he⟩ := evaluateAt_eq i u
      rw [List.foldl_cons, List.foldl_cons, he, offers_idle (by exact hu)]
      exact ih _ hu
  rw [evaluateAll, hfold _ _ h, foldl_modLicences]
  exact congrArg (fun t => { s with licences := t }) (foldl_evaluateRecord_all s.licences)

/-! ## Resets -/

/-- A reset leaves the part as it boots, every record evaluated (R73, R77). -/
theorem bootState_evaluated (boot : Lane → Lane) (c : ClockUnit) (t : LicenceTable) (s : State) :
    bootState boot c t s = modLicences evaluateRecords (booted boot c t s) :=
  evaluateAll_idle (s := booted boot c t s) (fun h => nomatch h)

theorem bootLane_atReset (x : Lane) : linkAtReset x.link.line (bootLane x).link := by
  unfold bootLane
  cases h : x.link.line with
  | none => exact ⟨rfl, rfl, rfl, rfl, rfl, rfl, rfl, rfl, rfl, rfl, rfl, rfl, rfl, rfl, rfl⟩
  | some f => exact ⟨rfl, rfl, rfl, rfl, rfl, rfl, rfl, rfl, rfl, rfl, rfl, rfl, rfl, rfl, rfl⟩

/-- Settles O16: a reset is `booted` with every record evaluated. -/
theorem resetsRestoreThePart : Obligations.ResetsRestoreThePart := by
  refine ⟨fun kept elapsed s => ⟨_, rfl, ?_⟩, fun external s => ⟨_, rfl, ?_⟩⟩
  · have hlane (l : LaneId) : (noteChanges s (powerUp kept elapsed s)).lane l = bootLane (s.lane l) := by
      rw [noteChanges_lane, powerUp, bootState_evaluated]
      exact booted_lane _ _ _ s l
    simp only [powerUp, bootState_evaluated] at hlane ⊢
    refine ⟨rfl, rfl, rfl, rfl, rfl, rfl, rfl, rfl, rfl, rfl, rfl, fun l => ?_, rfl, fun h => ?_, fun h => ?_,
      ?_, rfl, rfl⟩
    · rw [hlane]
      exact ⟨rfl, bootLane_atReset _⟩
    · subst h
      exact ⟨rfl, rfl, rfl, rfl, rfl, rfl, rfl⟩
    · subst h
      exact ⟨rfl, rfl, rfl, rfl, rfl, rfl, rfl⟩
    · cases kept
      · rfl
      · rfl
  · have hlane (l : LaneId) : (noteChanges s (resetDevice external s)).lane l = rebootLane (s.lane l) := by
      rw [noteChanges_lane, resetDevice, bootState_evaluated]
      exact booted_lane _ _ _ s l
    simp only [resetDevice, bootState_evaluated] at hlane ⊢
    refine ⟨rfl, rfl, rfl, rfl, rfl, rfl, rfl, rfl, rfl, rfl, rfl, rfl, fun l => ?_, rfl, rfl, rfl, rfl, rfl⟩
    rw [hlane]
    exact ⟨rfl, ⟨rfl, rfl, fun line slot j => by rw [lineSlot_silenced]; rfl⟩, bootLane_atReset _⟩

end Sys2Proof.Machine
end

section
/-! What the changes of state and the ends of a run make of a lane (R2, R17, R23, R27, R101), and the halt of
the device (R172). -/

namespace Sys2Proof.Machine

theorem eq_of_bare {x y : Lane} (h : bare y = bare x) : ∃ n, y = { x with statusCount := n } := by
  refine ⟨y.statusCount, ?_⟩
  calc y = { bare y with statusCount := y.statusCount } := rfl
    _ = { bare x with statusCount := y.statusCount } := by rw [h]

/-! ## The end of a run -/

theorem closedLane_eq (x : Lane) :
    ∃ k i, closedLane x = { x with tally := closedTally x.tally, link := k, indicators := i } := by
  obtain ⟨k, i, h⟩ := dropUnseen_eq (afterMarks x.link.awaiting)
    (x.link.awaiting.length - (afterMarks x.link.awaiting).length) x
  exact ⟨k, i, by rw [closedLane, dropMarked, h]⟩

theorem drainedLane_eq (x : Lane) :
    ∃ t k i, drainedLane x = { x with tally := t, link := k, indicators := i } := by
  unfold drainedLane
  split
  · obtain ⟨k, i, h⟩ := closedLane_eq x
    exact ⟨_, k, i, h⟩
  · exact ⟨_, _, _, rfl⟩

theorem drainedLane_tally (x : Lane) : (drainedLane x).tally = x.tally ∨
    (drainedLane x).tally = closedTally x.tally := by
  unfold drainedLane
  split
  · exact .inr rfl
  · exact .inl rfl

theorem runEndLane_eq (c : Cause) (x : Lane) :
    ∃ t k i, runEndLane c x = { x with tally := t, link := k, indicators := i } := by
  unfold runEndLane
  split
  · obtain ⟨t, k, i, h⟩ := drainedLane_eq { x with tally := endedTally c x.tally }
    exact ⟨t, k, i, h⟩
  · exact ⟨_, _, _, rfl⟩

theorem runEndLane_tally {c : Cause} {x : Lane} (h : x.tally.phase = .running) :
    ((runEndLane c x).tally.phase = .closing ∨ (runEndLane c x).tally.phase = .closed) ∧
      (runEndLane c x).tally.endCause = c := by
  rw [runEndLane, if_pos h]
  rcases drainedLane_tally { x with tally := endedTally c x.tally } with ht | ht
  · rw [ht]; exact ⟨.inl rfl, rfl⟩
  · rw [ht]; exact ⟨.inr rfl, rfl⟩

theorem runEndLane_notRunning (c : Cause) (x : Lane) : (runEndLane c x).tally.phase ≠ .running := by
  by_cases h : x.tally.phase = .running
  · rcases (runEndLane_tally (c := c) h).1 with hp | hp
    · rw [hp]; exact fun h => nomatch h
    · rw [hp]; exact fun h => nomatch h
  · rw [runEndLane, if_neg h]
    exact h

/-- A lane that STOPPING takes over, ended at once where every output is mute (R23). -/
def stoppedLane (c : Cause) (x : Lane) : Lane :=
  let y := settleLane .stopping c (runEndLane c x)
  if everyMute x.sound.applied then settleLane .ended c y else y

/-- A lane that ends at once, mute (R27). -/
def endedLane (c : Cause) (x : Lane) : Lane := settleLane .ended c (runEndLane c (muteAtOnce x))

theorem settleLane_of_bare {x y : Lane} (st : LaneState) (c : Cause) (h : bare y = bare x) :
    bare (settleLane st c y) = bare (settleLane st c x) :=
  show bare (settleLane st c (bare y)) = bare (settleLane st c (bare x)) by rw [h]

theorem runEndLane_sound (c : Cause) (x : Lane) : (runEndLane c x).sound = x.sound := by
  obtain ⟨t, k, i, h⟩ := runEndLane_eq c x
  rw [h]

theorem stopLane_bare (l : LaneId) (c : Cause) (s : State) :
    bare ((stopLane l c s).lane l) = bare (stoppedLane c (s.lane l)) := by
  have hstop : bare ((enterState l .stopping c (runEnd l c s)).lane l) =
      bare (settleLane .stopping c (runEndLane c (s.lane l))) := by
    rw [enterState_bare, runEnd_lane_self]
  have hsound : ((enterState l .stopping c (runEnd l c s)).lane l).sound.applied = (s.lane l).sound.applied := by
    show (bare ((enterState l .stopping c (runEnd l c s)).lane l)).sound.applied = _
    rw [hstop]
    show (runEndLane c (s.lane l)).sound.applied = _
    rw [runEndLane_sound]
  unfold stopLane stoppedLane
  dsimp only
  rw [hsound]
  split
  · exact (enterState_bare _ _ _ _).trans (settleLane_of_bare _ _ hstop)
  · exact hstop

theorem endNow_bare (l : LaneId) (c : Cause) (s : State) :
    bare ((endNow l c s).lane l) = bare (endedLane c (s.lane l)) := by
  rw [endNow, enterState_bare, runEnd_lane_self, State.lane_modLane_self]
  rfl

/-- What an EMERGENCY makes of a lane, its contact pattern apart (R27). -/
def emergencyLane (x : Lane) : Lane :=
  if inRunStates x.state = true then endedLane .emergency x
  else if x.state = .armed then settleLane .ready .emergency x
  else x

theorem emergencyStop_bare (l : LaneId) (s : State) :
    bare ((emergencyStop l s).lane l) = bare (emergencyLane (s.lane l)) := by
  unfold emergencyStop emergencyLane
  split
  case h_1 h | h_2 h | h_3 h | h_4 h => rw [h]; exact endNow_bare l .emergency s
  case h_5 h => rw [h]; exact enterState_bare l .ready .emergency s
  all_goals
    next h =>
      rw [h]
      rfl

theorem emergencyStop_lane_ne (s : State) {l m : LaneId} (h : m ≠ l) :
    (emergencyStop l s).lane m = s.lane m := (emergencyStop_work l [] s).rest.1 m h

/-- A piece of work done for each lane of a list, each touching its own lane alone. -/
theorem foldl_lane {f : State → LaneId → State} {g : Lane → Lane}
    (hself : ∀ s l, bare ((f s l).lane l) = bare (g (s.lane l)))
    (hother : ∀ s l m, m ≠ l → (f s l).lane m = s.lane m) (ls : List LaneId) (hn : ls.Nodup) (s : State)
    (m : LaneId) :
    (m ∈ ls → bare ((ls.foldl f s).lane m) = bare (g (s.lane m))) ∧
      (m ∉ ls → (ls.foldl f s).lane m = s.lane m) := by
  induction ls generalizing s with
  | nil => exact ⟨(fun h => nomatch h), fun _ => rfl⟩
  | cons l ls ih =>
    obtain ⟨hl, hls⟩ := List.nodup_cons.1 hn
    obtain ⟨hin, hout⟩ := ih hls (f s l)
    refine ⟨fun h => ?_, fun h => ?_⟩
    · by_cases hm : m = l
      · subst hm
        rw [List.foldl_cons, hout hl]
        exact hself s m
      · rcases List.mem_cons.1 h with h | h
        · exact absurd h hm
        · rw [List.foldl_cons, hin h, hother s l m hm]
    · obtain ⟨hm, hm'⟩ := not_or.1 (fun h' => h (List.mem_cons.2 h'))
      rw [List.foldl_cons, hout hm', hother s l m hm]

theorem mem_allLanes (l : LaneId) : l ∈ allLanes := by
  cases l
  all_goals decide

theorem allLanes_nodup : allLanes.Nodup := by decide

theorem foldl_allLanes {f : State → LaneId → State} {g : Lane → Lane}
    (hself : ∀ s l, bare ((f s l).lane l) = bare (g (s.lane l)))
    (hother : ∀ s l m, m ≠ l → (f s l).lane m = s.lane m) (s : State) (m : LaneId) :
    bare ((allLanes.foldl f s).lane m) = bare (g (s.lane m)) :=
  (foldl_lane hself hother allLanes allLanes_nodup s m).1 (mem_allLanes m)

/-! ## Outside RUNNING nothing is reported (R172, R178) -/

/-- Only the lanes, the Licence Table and the Clock Unit differ. -/
def Silent (s t : State) : Prop := ∃ ls lt c, t = { s with lanes := ls, licences := lt, clockUnit := c }

theorem Silent.refl (s : State) : Silent s s := ⟨_, _, _, rfl⟩

theorem Silent.trans {s t u : State} (h : Silent s t) (k : Silent t u) : Silent s u := by
  obtain ⟨ls, lt, c, rfl⟩ := h
  obtain ⟨ls', lt', c', rfl⟩ := k
  exact ⟨ls', lt', c', rfl⟩

theorem Silent.device {s t : State} (h : Silent s t) : t.device = s.device := by
  obtain ⟨ls, lt, c, rfl⟩ := h
  rfl

theorem modLane_silent (l : LaneId) (f : Lane → Lane) (s : State) : Silent s (s.modLane l f) := ⟨_, _, _, rfl⟩

theorem writeLaneStatus_idle {l : LaneId} {s : State} (h : s.device ≠ .running) : writeLaneStatus l s = s :=
  if_neg h

theorem switchBack_silent {s : State} (h : s.device ≠ .running) : Silent s (switchBack s) := by
  unfold switchBack
  split
  · rw [writeDeviceStatus_idle (by exact h), clockEntry, offer_idle (by exact h)]
    exact ⟨_, _, _, rfl⟩
  · exact .refl s

theorem changeState_silent {l : LaneId} {st : LaneState} {c : Cause} {f : Lane → Lane} {s : State}
    (h : s.device ≠ .running) : Silent s (changeState l st c f s) := by
  unfold changeState
  rw [offer_idle h, writeLaneStatus_idle (by exact h)]
  exact (modLane_silent l _ s).trans (switchBack_silent (by exact h))

theorem closeTally_silent {l : LaneId} {w : WayClosed} {s : State} (h : s.device ≠ .running) :
    Silent s (closeTally l w s) := by
  unfold closeTally
  dsimp only
  split
  · exact ⟨_, _, _, rfl⟩
  · rw [offer_idle (by exact h)]
    exact ⟨_, _, _, rfl⟩

theorem runEnd_silent {l : LaneId} {c : Cause} {s : State} (h : s.device ≠ .running) :
    Silent s (runEnd l c s) := by
  unfold runEnd checkDrained
  split
  · split
    · exact (modLane_silent l _ s).trans (closeTally_silent (by exact h))
    · exact modLane_silent l _ s
  · exact .refl s

theorem emergencyStop_silent {l : LaneId} {s : State} (h : s.device ≠ .running) :
    Silent s (emergencyStop l s) := by
  have hend : Silent s (endNow l .emergency s) := by
    have hrun : Silent s (runEnd l .emergency (s.modLane l muteAtOnce)) :=
      (modLane_silent l _ s).trans (runEnd_silent (by exact h))
    exact hrun.trans (changeState_silent (by rw [hrun.device]; exact h))
  unfold emergencyStop
  split
  case h_1 | h_2 | h_3 | h_4 => exact hend
  case h_5 => exact changeState_silent h
  all_goals exact .refl s

/-! ## The halt (R172) -/

/-- What the halt makes of a lane. -/
def haltedLane (x : Lane) : Lane := { silenceLines (emergencyLane x) with contacts := 0 }

theorem silencedLane_bare {x y : Lane} (h : bare y = bare x) :
    bare { silenceLines y with contacts := 0 } = bare { silenceLines x with contacts := 0 } :=
  show bare { silenceLines (bare y) with contacts := 0 } = bare { silenceLines (bare x) with contacts := 0 } by
    rw [h]

/-- The halt ends the runs and cuts every line; beside the lanes, the licences and the Clock Unit only the
device's own fields change. -/
theorem enterHalted_effect {dir : AccessDir} {r : DeviceReason} (area : HaltArea) (s : State)
    (hr : r = match dir with | .read => .haltRead | .write => .haltWrite) :
    (∀ l, bare ((enterHalted dir area s).lane l) = bare (haltedLane (s.lane l))) ∧
      Silent (noteDeviceChange { s with device := .halted, reason := r, haltArea := some area })
        (enterHalted dir area s) := by
  subst hr
  generalize hu : noteDeviceChange { s with device := .halted, reason := (match dir with
    | .read => .haltRead | .write => .haltWrite : DeviceReason), haltArea := some area } = u
  have heq : enterHalted dir area s = allLanes.foldl
      (fun s l => s.modLane l fun x => { silenceLines x with contacts := 0 })
      (allLanes.foldl (fun s l => emergencyStop l s) u) := by
    rw [← hu]
    rfl
  have hlane (l : LaneId) : u.lane l = s.lane l := by rw [← hu]; rfl
  have hdev : u.device ≠ .running := by rw [← hu]; exact fun h => nomatch h
  have hstop : Silent u (allLanes.foldl (fun s l => emergencyStop l s) u) := by
    refine foldl_induction (R := fun s t => s.device ≠ .running → Silent s t) (fun s _ => .refl s)
      (fun a b c h k hd => ?_) (fun s l hd => emergencyStop_silent hd) allLanes u hdev
    have hab := h hd
    exact hab.trans (k (by rw [hab.device]; exact hd))
  rw [heq]
  refine ⟨fun l => ?_, hstop.trans (foldl_induction (R := Silent) .refl (fun _ _ _ => .trans)
    (fun s l => modLane_silent l _ s) allLanes _)⟩
  rw [foldl_allLanes (g := fun x => { silenceLines x with contacts := 0 })
    (fun s l => by rw [State.lane_modLane_self]) (fun s l m hm => State.lane_modLane_ne _ _ hm)]
  refine silencedLane_bare ?_
  rw [foldl_allLanes (g := emergencyLane) (fun s l => emergencyStop_bare l s)
    (fun s l m hm => emergencyStop_lane_ne s hm), hlane]

theorem endedLane_fields (c : Cause) (x : Lane) :
    (endedLane c x).p = x.p ∧ (endedLane c x).loaded = x.loaded ∧ (endedLane c x).tracks = x.tracks ∧
      (endedLane c x).sound.out = x.sound.out ∧ (endedLane c x).sound.outLen = x.sound.outLen ∧
      (endedLane c x).sound.applied = allMute ∧ (endedLane c x).tally.phase ≠ .running := by
  have hphase := runEndLane_notRunning c (muteAtOnce x)
  obtain ⟨t, k, i, h⟩ := runEndLane_eq c (muteAtOnce x)
  rw [h] at hphase
  rw [endedLane, h]
  exact ⟨rfl, rfl, rfl, rfl, rfl, rfl, hphase⟩

theorem emergencyLane_fields (x : Lane) :
    (emergencyLane x).p = x.p ∧ (emergencyLane x).loaded = x.loaded ∧ (emergencyLane x).tracks = x.tracks ∧
      (emergencyLane x).sound.out = x.sound.out ∧ (emergencyLane x).sound.outLen = x.sound.outLen := by
  unfold emergencyLane
  split
  · obtain ⟨hp, hl, ht, ho, hn, _⟩ := endedLane_fields .emergency x
    exact ⟨hp, hl, ht, ho, hn⟩
  · split
    · exact ⟨rfl, rfl, rfl, rfl, rfl⟩
    · exact ⟨rfl, rfl, rfl, rfl, rfl⟩

theorem haltedLane_running {x : Lane} (h : inRunStates x.state = true) :
    (haltedLane x).state = .ended ∧ (haltedLane x).lastCause = .emergency ∧ timersClear (haltedLane x) ∧
      (haltedLane x).sound.applied = List.replicate 24 .mute ∧ (haltedLane x).tally.phase ≠ .running := by
  obtain ⟨_, _, _, _, _, ha, hphase⟩ := endedLane_fields .emergency x
  rw [haltedLane, emergencyLane, if_pos h]
  exact ⟨rfl, rfl, ⟨rfl, rfl, rfl, rfl⟩, ha, hphase⟩

theorem haltedLane_armed {x : Lane} (h : x.state = .armed) :
    (haltedLane x).state = .ready ∧ (haltedLane x).startSecond = none := by
  rw [haltedLane, emergencyLane, if_neg (by rw [h]; exact Bool.false_ne_true), if_pos h]
  exact ⟨rfl, rfl⟩

theorem haltedLane_idle {x : Lane} (h : inRunStates x.state = false) (ha : x.state ≠ .armed) :
    haltedLane x = { x with contacts := 0, sound := { x.sound with period := silence, silenced := true } } := by
  rw [haltedLane, emergencyLane, if_neg (by rw [h]; exact Bool.false_ne_true), if_neg ha]
  rfl

/-- What the halt leaves of a lane, and what it takes from every lane. -/
theorem haltedLane_fields (x : Lane) :
    (haltedLane x).contacts = 0 ∧ (haltedLane x).sound.period = silence ∧ (haltedLane x).p = x.p ∧
      (haltedLane x).loaded = x.loaded ∧ (haltedLane x).tracks = x.tracks ∧
      (haltedLane x).sound.out = x.sound.out ∧ (haltedLane x).sound.outLen = x.sound.outLen ∧
      (haltedLane x).sound.silenced = true := by
  obtain ⟨hp, hld, ht, ho, hn⟩ := emergencyLane_fields x
  unfold haltedLane silenceLines
  generalize emergencyLane x = y at hp hld ht ho hn ⊢
  exact ⟨rfl, rfl, hp, hld, ht, ho, hn, rfl⟩

/-- The clauses of the halt for one lane. -/
theorem haltedLane_clauses (x : Lane) (n : Nat) :
    linesCut x { haltedLane x with statusCount := n } ∧
    ((haltedLane x).contacts = 0 ∧ (haltedLane x).p = x.p ∧ (haltedLane x).sound.period = silence ∧
      (haltedLane x).loaded = x.loaded ∧ (haltedLane x).tracks = x.tracks ∧
      (inRunStates x.state = true →
        (haltedLane x).state = .ended ∧ (haltedLane x).lastCause = .emergency ∧ timersClear (haltedLane x) ∧
          (haltedLane x).sound.applied = List.replicate 24 .mute ∧ (haltedLane x).tally.phase ≠ .running) ∧
      (x.state = .armed → (haltedLane x).state = .ready ∧ (haltedLane x).startSecond = none) ∧
      (inRunStates x.state = false → x.state ≠ .armed →
        bare (haltedLane x) =
          bare { x with contacts := 0, sound := { x.sound with period := silence, silenced := true } })) := by
  obtain ⟨hc, hper, hp, hld, ht, ho, hn, hs⟩ := haltedLane_fields x
  refine ⟨⟨ho, hn, fun line slot j => lineSlot_silenced hs line slot j⟩, hc, hp, hper, hld, ht,
    haltedLane_running, haltedLane_armed, fun h ha => by rw [haltedLane_idle h ha]⟩

/-- Settles O21, by what the halt makes of each lane (`haltedLane`). -/
theorem failedTableAccessHalts : Obligations.FailedTableAccessHalts := by
  intro dir area s
  refine ⟨fun hd => ?_, fun hd => ?_⟩
  · have hto : accessFailed dir area s = enterHalted dir area s := if_pos hd
    obtain ⟨hlane, ls, lt, c, hrest⟩ := enterHalted_effect (dir := dir) area s rfl
    refine ⟨noteChanges s (enterHalted dir area s), congrArg (fun t => Host.Outcome.next (noteChanges s t)) hto, ?_⟩
    have hself (l : LaneId) : ∃ n, (noteChanges s (enterHalted dir area s)).lane l =
        { haltedLane (s.lane l) with statusCount := n } := by
      rw [noteChanges_lane]
      exact eq_of_bare (hlane l)
    refine ⟨?_, ?_, ?_, ?_, fun l => ?_, fun l => ?_, ?_, ?_, ?_, ?_, ?_⟩
    case refine_5 =>
      obtain ⟨n, hl⟩ := hself l
      rw [hl]
      exact (haltedLane_clauses (s.lane l) n).1
    case refine_6 =>
      obtain ⟨n, hl⟩ := hself l
      rw [hl]
      exact (haltedLane_clauses (s.lane l) n).2
    all_goals
      rw [hrest]
      rfl
  · have hto : accessFailed dir area s = s := if_neg hd
    exact congrArg Host.Outcome.next (by rw [hto, noteChanges_self])

end Sys2Proof.Machine
end

section
/-! The Clock Unit: the selection of its source, the reference and the switch back (R154 to R156). -/

namespace Sys2Proof.Machine

/-! ## What a change of the Clock Unit reports -/

/-- The Clock Unit is `c`, and beside it only what reports touch has changed, in the areas of `areas`. -/
structure ClockTold (c : ClockUnit) (areas : List (Nat × Nat)) (s t : State) : Prop where
  reported : Reported { s with clockUnit := c } t
  mem : shapeOk s → memKept areas s t

theorem ClockTold.fields {c : ClockUnit} {areas : List (Nat × Nat)} {s t : State} (h : ClockTold c areas s t) :
    t.clockUnit = c ∧ t.device = s.device ∧ t.lanes = s.lanes ∧ t.licences = s.licences ∧
      t.inputs = s.inputs ∧ t.pending = s.pending := by
  obtain ⟨m, j, n, a, rfl⟩ := h.reported
  exact ⟨rfl, rfl, rfl, rfl, rfl, rfl⟩

theorem ClockTold.of_eq {c d : ClockUnit} {areas : List (Nat × Nat)} {s t : State} (h : ClockTold c areas s t)
    (hd : c = d) : ClockTold d areas s t := hd ▸ h

theorem ClockTold.notes {c : ClockUnit} {areas : List (Nat × Nat)} {s t : State} (h : ClockTold c areas s t) :
    noteChanges s t = t := by
  obtain ⟨m, j, n, a, rfl⟩ := h.reported
  exact noteChanges_eq_self rfl rfl rfl rfl

theorem ClockTold.silent (c : ClockUnit) (areas : List (Nat × Nat)) (s : State) :
    ClockTold c areas s { s with clockUnit := c } := ⟨.refl _, fun _ => .refl _ s⟩

/-- The Device Status Record tells of the Clock Unit. -/
theorem ClockTold.device (c : ClockUnit) (s : State) :
    ClockTold c [(deviceStatusAddr s, deviceStatusSize)] s (writeDeviceStatus { s with clockUnit := c }) :=
  ⟨writeDeviceStatus_reported _, fun hs => writeDeviceStatus_memKept (s := { s with clockUnit := c }) hs.1⟩

theorem ClockTold.told {c : ClockUnit} {s t u : State} (h : ClockTold c (reportAreas s) s t) (k : Told t u)
    (hs : shapeOk s → shapeOk t) : ClockTold c (reportAreas s) s u where
  reported := h.reported.trans k.reported
  mem hok := (h.mem hok).trans (by
    have hareas : reportAreas t = reportAreas s := by
      have hr := h.reported.tableAddr
      simp only [reportAreas, journalAddr, deviceStatusAddr, hr]
      rfl
    have := k.memKept (hs hok)
    rwa [hareas] at this)

theorem ClockTold.deviceReports (c : ClockUnit) (s : State) :
    ClockTold c (reportAreas s) s (writeDeviceStatus { s with clockUnit := c }) :=
  ⟨writeDeviceStatus_reported _, (writeDeviceStatus_told { s with clockUnit := c }).memKept⟩

/-! ## The selection (R154, R169) -/

/-- The INTERNAL source selected outside WAIT_CLOCK: at once. -/
theorem selectInternal_told {s : State} (hd : s.device ≠ .waitClock) :
    ClockTold ⟨false, .internal, s.clockUnit.refLocked⟩ [(deviceStatusAddr s, deviceStatusSize)] s
      (selectInternal s) := by
  by_cases h : s.clockUnit.source = .internal
  · have heq : selectInternal s = { s with clockUnit := ⟨false, .internal, s.clockUnit.refLocked⟩ } := by
      unfold selectInternal
      dsimp only
      rw [if_pos h, if_neg hd, h]
    rw [heq]
    exact .silent _ _ s
  · have heq : selectInternal s =
        writeDeviceStatus { s with clockUnit := ⟨false, .internal, s.clockUnit.refLocked⟩ } := by
      unfold selectInternal
      dsimp only
      rw [if_neg h, if_neg (by rw [setSource_device]; exact hd)]
      rfl
    rw [heq]
    exact .device _ s

theorem selectInternal_already {s : State} (hd : s.device ≠ .waitClock) (h : s.clockUnit.source = .internal) :
    selectInternal s = { s with clockUnit := { s.clockUnit with external := false } } := by
  unfold selectInternal
  dsimp only
  rw [if_pos h, if_neg hd]

/-- The source that the EXTERNAL selection gives. -/
def externalSource (c : ClockUnit) : ClockSource :=
  if c.source = .internal then (if c.refLocked then .external else .holdover) else c.source

theorem selectExternal_told (s : State) :
    ClockTold ⟨true, externalSource s.clockUnit, s.clockUnit.refLocked⟩
      [(deviceStatusAddr s, deviceStatusSize)] s (selectExternal s) := by
  unfold selectExternal externalSource
  dsimp only
  by_cases h : s.clockUnit.source = .internal
  · rw [if_neg (not_not.2 h), if_pos h]
    cases hr : s.clockUnit.refLocked with
    | true =>
      rw [if_pos rfl, if_pos rfl, setSource]
      exact .device _ s
    | false =>
      rw [if_neg Bool.false_ne_true, if_neg Bool.false_ne_true, setSource]
      exact .device _ s
  · rw [if_pos h, if_neg h]
    exact .silent _ _ s

theorem selectSource_follows (s : State) :
    (s.device ≠ .waitClock →
      ∃ t, exec (.clockSourceSelect false) s = .next t ∧ t.clockUnit.external = false ∧
        t.clockUnit.source = .internal ∧ t.clockUnit.refLocked = s.clockUnit.refLocked ∧
        (s.clockUnit.source = .internal →
          t = { s with clockUnit := { s.clockUnit with external := false } }) ∧
        t.device = s.device ∧ t.lanes = s.lanes ∧ t.licences = s.licences ∧ t.inputs = s.inputs ∧
        t.pending = s.pending ∧
        (shapeOk s → memKept [(deviceStatusAddr s, deviceStatusSize)] s t)) ∧
    ∃ t, exec (.clockSourceSelect true) s = .next t ∧ t.clockUnit.external = true ∧
      t.clockUnit.refLocked = s.clockUnit.refLocked ∧
      (s.clockUnit.source = .internal →
        t.clockUnit.source = if s.clockUnit.refLocked then .external else .holdover) ∧
      (s.clockUnit.source ≠ .internal → t.clockUnit.source = s.clockUnit.source) ∧
      t.device = s.device ∧ t.lanes = s.lanes ∧ t.licences = s.licences ∧ t.inputs = s.inputs ∧
      t.pending = s.pending ∧
      (shapeOk s → memKept [(deviceStatusAddr s, deviceStatusSize)] s t) := by
  refine ⟨fun hd => ⟨selectInternal s, ?_, ?_⟩, selectExternal s, ?_, ?_⟩
  · exact congrArg Host.Outcome.next (selectInternal_told hd).notes
  · obtain ⟨hc, hrest⟩ := (selectInternal_told hd).fields
    rw [hc]
    obtain ⟨h1, h2, h3, h4, h5⟩ := hrest
    exact ⟨rfl, rfl, rfl, selectInternal_already hd, h1, h2, h3, h4, h5, (selectInternal_told hd).mem⟩
  · exact congrArg Host.Outcome.next (selectExternal_told s).notes
  · obtain ⟨hc, h1, h2, h3, h4, h5⟩ := (selectExternal_told s).fields
    rw [hc]
    exact ⟨rfl, rfl, fun h => if_pos h, fun h => if_neg h, h1, h2, h3, h4, h5, (selectExternal_told s).mem⟩

/-! ## The reference (R155, R156) -/

theorem switchBack_told {s : State} (h : s.clockUnit.source = .holdover) (hr : s.clockUnit.refLocked = true) :
    ClockTold { s.clockUnit with
        source := if anyLaneRunning s = false then .external else .holdover }
      (reportAreas s) s (switchBack s) := by
  unfold switchBack
  cases hrun : anyLaneRunning s with
  | true =>
    have hdue : switchDue s = false := by simp [switchDue, hrun]
    rw [hdue, if_neg Bool.false_ne_true, if_neg (fun h => nomatch h), ← h]
    exact .silent _ _ s
  | false =>
    have hdue : switchDue s = true := by simp [switchDue, h, hr, hrun]
    rw [hdue, if_pos rfl, if_pos rfl]
    exact (ClockTold.deviceReports _ s).told (clockEntry_told _ _)
      (writeDeviceStatus_told { s with clockUnit := { s.clockUnit with source := .external } }).keeps.shapeOk

/-- One change of the Clock Unit after another. -/
theorem ClockTold.trans {c d : ClockUnit} {s t u : State} (h : ClockTold c (reportAreas s) s t)
    (hs : shapeOk s → shapeOk t) (k : ClockTold d (reportAreas t) t u) : ClockTold d (reportAreas s) s u where
  reported := by
    obtain ⟨m, j, n, a, rfl⟩ := h.reported
    obtain ⟨m', j', n', a', rfl⟩ := k.reported
    exact ⟨m', j', n', a', rfl⟩
  mem hok := (h.mem hok).trans (by
    have hareas : reportAreas t = reportAreas s := by
      have hr := h.reported.tableAddr
      simp only [reportAreas, journalAddr, deviceStatusAddr, hr]
      rfl
    have := k.mem (hs hok)
    rwa [hareas] at this)

theorem setLocked_told (b : Bool) (s : State) :
    ClockTold { s.clockUnit with refLocked := b } (reportAreas s) s (setLocked b s) := .deviceReports _ s

theorem setLocked_shape (b : Bool) (s : State) : shapeOk s → shapeOk (setLocked b s) :=
  (setLocked_command b s).keeps.shapeOk

theorem ClockTold.entry {c : ClockUnit} {s t : State} (h : ClockTold c (reportAreas s) s t)
    (hs : shapeOk s → shapeOk t) (k : ClockEntry) : ClockTold c (reportAreas s) s (clockEntry k t) :=
  h.told (clockEntry_told k t) hs

/-- A change of the source by the unit's own events, told in the Device Status Record. -/
theorem ClockTold.setSource {c : ClockUnit} {s t : State} (h : ClockTold c (reportAreas s) s t)
    (hs : shapeOk s → shapeOk t) (src : ClockSource) :
    ClockTold { c with source := src } (reportAreas s) s (setSource src t) :=
  h.trans hs (by
    have k := ClockTold.deviceReports { t.clockUnit with source := src } t
    rw [h.fields.1] at k
    rw [Machine.setSource, h.fields.1]
    exact k)

theorem setSource_shape (src : ClockSource) (s : State) : shapeOk s → shapeOk (setSource src s) :=
  (writeDeviceStatus_told { s with clockUnit := { s.clockUnit with source := src } }).keeps.shapeOk

theorem setLocked_source (b : Bool) (s : State) : (setLocked b s).clockUnit.source = s.clockUnit.source := by
  rw [(setLocked_told b s).fields.1]

/-- What the reference's loss does, by the source. -/
theorem referenceGoes_eq {s : State} (h : s.clockUnit.refLocked = true) :
    referenceGoes s =
      match s.clockUnit.source with
      | .internal => setLocked false s
      | .acquiring => setLocked false s
      | .external => clockEntry .referenceLost (setSource .holdover (setLocked false s))
      | .holdover => clockEntry .referenceLost (setLocked false s) := by
  unfold referenceGoes
  rw [if_neg (by rw [h]; exact Bool.false_ne_true)]
  dsimp only
  generalize hsource : (setLocked false s).clockUnit.source = source
  obtain rfl := (setLocked_source false s).symm.trans hsource
  cases s.clockUnit.source <;> rfl

/-- What the reference's lock does, by the source. -/
theorem referenceLocks_eq {s : State} (h : s.clockUnit.refLocked = false) :
    referenceLocks s =
      match s.clockUnit.source with
      | .internal => setLocked true s
      | .external => setLocked true s
      | .holdover => switchBack (clockEntry .referenceLocked (setLocked true s))
      | .acquiring =>
        if (setLocked true s).device = .waitClock then enterWaitTable (setSource .external (setLocked true s))
        else setLocked true s := by
  unfold referenceLocks
  rw [if_neg (by rw [h]; exact Bool.false_ne_true)]
  dsimp only
  generalize hsource : (setLocked true s).clockUnit.source = source
  obtain rfl := (setLocked_source true s).symm.trans hsource
  cases s.clockUnit.source <;> rfl

theorem referenceGoes_told {s : State} (h : s.clockUnit.refLocked = true) :
    ClockTold ⟨s.clockUnit.external,
        if s.clockUnit.source = .external then .holdover else s.clockUnit.source, false⟩
      (reportAreas s) s (referenceGoes s) := by
  have hgone := setLocked_told false s
  have hheld : s.clockUnit.source ≠ .external →
      ClockTold ⟨s.clockUnit.external,
          if s.clockUnit.source = .external then .holdover else s.clockUnit.source, false⟩
        (reportAreas s) s (setLocked false s) := fun hne => by
    rw [if_neg hne]
    exact hgone
  rw [referenceGoes_eq h]
  cases hs : s.clockUnit.source with
  | internal => exact (hheld (fun he => nomatch hs.symm.trans he)).of_eq (by rw [hs])
  | acquiring => exact (hheld (fun he => nomatch hs.symm.trans he)).of_eq (by rw [hs])
  | external =>
    exact (hgone.setSource (setLocked_shape false s) .holdover).entry
      (fun hok => setSource_shape _ _ (setLocked_shape false s hok)) _
  | holdover => exact (ClockTold.of_eq (hheld (fun he => nomatch hs.symm.trans he)) (by rw [hs])).entry (setLocked_shape false s) _

theorem referenceLocks_told {s : State} (h : s.clockUnit.refLocked = false)
    (hacq : s.clockUnit.source ≠ .acquiring) :
    ClockTold ⟨s.clockUnit.external,
        if s.clockUnit.source = .holdover ∧ anyLaneRunning s = false then .external
        else s.clockUnit.source, true⟩
      (reportAreas s) s (referenceLocks s) := by
  have hlocked := setLocked_told true s
  have hplain : s.clockUnit.source ≠ .holdover →
      ClockTold ⟨s.clockUnit.external,
          if s.clockUnit.source = .holdover ∧ anyLaneRunning s = false then .external
          else s.clockUnit.source, true⟩
        (reportAreas s) s (setLocked true s) := fun hne => by
    rw [if_neg fun hh => hne hh.1]; exact hlocked
  rw [referenceLocks_eq h]
  cases hs : s.clockUnit.source with
  | internal => exact (hplain (fun he => nomatch hs.symm.trans he)).of_eq (by rw [hs])
  | external => exact (hplain (fun he => nomatch hs.symm.trans he)).of_eq (by rw [hs])
  | acquiring => exact absurd hs hacq
  | holdover =>
    have hentry := hlocked.entry (setLocked_shape true s) .referenceLocked
    have hunit := hentry.fields.1
    have hback := switchBack_told (s := clockEntry .referenceLocked (setLocked true s))
      (by rw [hunit]; exact hs) (by rw [hunit])
    have hrun : anyLaneRunning (clockEntry .referenceLocked (setLocked true s)) = anyLaneRunning s :=
      congrArg (fun q : Quad Lane => allLanes.any fun l => inRunStates (q.get l).state) hentry.fields.2.2.1
    rw [hunit, hrun] at hback
    have hall := hentry.trans (fun hok => (clockEntry_told _ _).keeps.shapeOk (setLocked_shape true s hok)) hback
    exact hall.of_eq (by cases anyLaneRunning s <;> rfl)

/-- The frame that the clauses of the reference share. -/
theorem ClockTold.clause {c : ClockUnit} {areas : List (Nat × Nat)} {s t : State} (h : ClockTold c areas s t) :
    t.lanes = s.lanes ∧ t.device = s.device ∧ t.licences = s.licences ∧ t.inputs = s.inputs ∧
      t.pending = s.pending ∧ (shapeOk s → memKept areas s t) := by
  obtain ⟨_, hdevice, hlanes, hlic, hin, hpend⟩ := h.fields
  exact ⟨hlanes, hdevice, hlic, hin, hpend, h.mem⟩

theorem reference_follows (s : State) :
    (s.clockUnit.refLocked = true →
      ∃ t, exec .referenceLoss s = .next t ∧ t.clockUnit.refLocked = false ∧
        t.clockUnit.source =
          (if s.clockUnit.source = .external then .holdover else s.clockUnit.source) ∧
        t.clockUnit.external = s.clockUnit.external ∧ t.lanes = s.lanes ∧ t.device = s.device ∧
        t.licences = s.licences ∧ t.inputs = s.inputs ∧ t.pending = s.pending ∧
        (shapeOk s → memKept (reportAreas s) s t)) ∧
    (s.clockUnit.refLocked = false → s.clockUnit.source ≠ .acquiring →
      ∃ t, exec .referenceLock s = .next t ∧ t.clockUnit.refLocked = true ∧
        t.clockUnit.source =
          (if s.clockUnit.source = .holdover ∧ anyLaneRunning s = false then .external
          else s.clockUnit.source) ∧
        t.clockUnit.external = s.clockUnit.external ∧ t.lanes = s.lanes ∧ t.device = s.device ∧
        t.licences = s.licences ∧ t.inputs = s.inputs ∧ t.pending = s.pending ∧
        (shapeOk s → memKept (reportAreas s) s t)) ∧
    (s.clockUnit.source = .holdover → s.clockUnit.refLocked = true → anyLaneRunning s = false →
      ∃ t, exec .clockSwitchBack s = .next t ∧ t.clockUnit.source = .external ∧
        t.clockUnit.refLocked = true ∧ t.clockUnit.external = s.clockUnit.external ∧
        t.lanes = s.lanes ∧ t.device = s.device ∧ t.licences = s.licences ∧ t.inputs = s.inputs ∧
        t.pending = s.pending ∧ (shapeOk s → memKept (reportAreas s) s t)) := by
  refine ⟨fun h => ?_, fun h hacq => ?_, fun h hr hrun => ?_⟩
  · have hgoes := referenceGoes_told h
    refine ⟨referenceGoes s, congrArg Host.Outcome.next hgoes.notes, ?_⟩
    rw [hgoes.fields.1]
    exact ⟨rfl, rfl, rfl, hgoes.clause⟩
  · have hlocks := referenceLocks_told h hacq
    refine ⟨referenceLocks s, congrArg Host.Outcome.next hlocks.notes, ?_⟩
    rw [hlocks.fields.1]
    exact ⟨rfl, rfl, rfl, hlocks.clause⟩
  · have hback := switchBack_told h hr
    refine ⟨switchBack s, congrArg Host.Outcome.next hback.notes, ?_⟩
    rw [hback.fields.1]
    exact ⟨if_pos hrun, hr, rfl, hback.clause⟩

/-! ## WAIT_CLOCK and RESET (R154, R170) -/

/-- The device in WAIT_TABLE out of WAIT_CLOCK, with the Clock Unit `u`. -/
def leftWaitClock (u : ClockUnit) (s : State) : State :=
  { s with
    device := .waitTable
    clockUnit := u
    attention := s.attention ||| attentionBit 6
    hiStored := false }

theorem enterWaitTable_of_waitClock {u : ClockUnit} {s t : State} (ht : t = { s with clockUnit := u }) :
    (s.hiStored = false → enterWaitTable t = leftWaitClock u s) ∧
    (s.hiStored = true → enterWaitTable t = writeBaseHi s.tableHi (leftWaitClock u s)) := by
  subst ht
  refine ⟨fun h => ?_, fun h => ?_⟩
  · rw [enterWaitTable_of_unstored (s := { s with clockUnit := u }) h, leftWaitClock, ← h]
    rfl
  · rw [enterWaitTable]
    exact if_pos h

/-- A command that takes a WAIT_CLOCK device to WAIT_TABLE with the Clock Unit `u`. -/
theorem exec_of_waitClock {u : ClockUnit} {c : Instr} {s t : State} (ht : t = { s with clockUnit := u })
    (hc : exec c s = .next (noteChanges s (enterWaitTable t))) :
    (s.hiStored = false → exec c s = .next (leftWaitClock u s)) ∧
    (s.hiStored = true → exec c s = exec (.tableBaseHiWrite s.tableHi HostActs.none) (leftWaitClock u s)) := by
  obtain ⟨hplain, hstored⟩ := enterWaitTable_of_waitClock ht
  refine ⟨fun h => ?_, fun h => ?_⟩
  · rw [hc, hplain h]
    exact congrArg Host.Outcome.next (noteChanges_eq_self rfl rfl rfl rfl)
  · rw [hc, hstored h]
    exact congrArg Host.Outcome.next rfl

theorem setSource_idle {s : State} (src : ClockSource) (h : s.device ≠ .running) :
    setSource src s = { s with clockUnit := { s.clockUnit with source := src } } := writeDeviceStatus_idle h

theorem setLocked_idle {s : State} (b : Bool) (h : s.device ≠ .running) :
    setLocked b s = { s with clockUnit := { s.clockUnit with refLocked := b } } := writeDeviceStatus_idle h

theorem waitClock_left (u : ClockUnit) (c : Instr) (s : State)
    (hc : (c = .clockSourceSelect false ∧ u = ⟨false, .internal, s.clockUnit.refLocked⟩) ∨
      (c = .referenceLock ∧ s.clockUnit.refLocked = false ∧ s.clockUnit.source = .acquiring ∧
        u = ⟨s.clockUnit.external, .external, true⟩))
    (hd : s.device = .waitClock) :
    (s.hiStored = false → exec c s = .next (leftWaitClock u s)) ∧
    (s.hiStored = true → exec c s = exec (.tableBaseHiWrite s.tableHi HostActs.none) (leftWaitClock u s)) := by
  have hidle : s.device ≠ .running := by rw [hd]; exact nofun
  rcases hc with ⟨rfl, rfl⟩ | ⟨rfl, hr, hs, rfl⟩
  · refine exec_of_waitClock (t := { s with clockUnit := ⟨false, .internal, s.clockUnit.refLocked⟩ }) rfl ?_
    refine congrArg (fun t => Host.Outcome.next (noteChanges s t)) ?_
    rw [selectSource, if_neg Bool.false_ne_true, selectInternal]
    dsimp only
    by_cases hint : s.clockUnit.source = .internal
    · rw [if_pos hint, if_pos hd, hint]
    · rw [if_neg hint, setSource_idle _ (by exact hidle), if_pos hd]
  · refine exec_of_waitClock (t := { s with clockUnit := ⟨s.clockUnit.external, .external, true⟩ }) rfl ?_
    refine congrArg (fun t => Host.Outcome.next (noteChanges s t)) ?_
    rw [referenceLocks_eq hr, hs, setLocked_idle _ hidle]
    dsimp only
    rw [if_pos hd, setSource_idle _ (by exact hidle)]

theorem reset_locks {s : State} (hd : s.device = .reset) (hr : s.clockUnit.refLocked = false)
    (hs : s.clockUnit.source = .acquiring) :
    exec .referenceLock s = .next { s with clockUnit := { s.clockUnit with refLocked := true } } := by
  have hlock : referenceLocks s = { s with clockUnit := { s.clockUnit with refLocked := true } } := by
    rw [referenceLocks_eq hr, hs, setLocked_idle _ (by rw [hd]; exact nofun)]
    dsimp only
    rw [if_neg (by rw [hd]; exact nofun)]
  show Host.Outcome.next (noteChanges s (referenceLocks s)) = _
  rw [hlock]
  exact congrArg Host.Outcome.next (noteChanges_eq_self rfl rfl rfl rfl)

/-- The command by which the last running lane leaves makes the switch back that is due (R156). -/
theorem lastRunning_switches {c : Instr} {s t : State} (hs : s.clockUnit.source = .holdover)
    (hr : s.clockUnit.refLocked = true) (hrun : anyLaneRunning s = true) (ht : exec c s = .next t)
    (hleft : anyLaneRunning t = false) (hd : t.device ≠ .reset) : t.clockUnit.source = .external := by
  rcases (exec_command ht).watch (.inl ⟨hs, hr, hrun⟩) with h | h | ⟨_, _, h⟩ | h
  · exact absurd h hd
  · exact absurd (hleft.symm.trans (h.trans hrun)) Bool.false_ne_true
  · exact absurd (hleft.symm.trans h) Bool.false_ne_true
  · exact h

/-- Settles O22, the Clock Unit's changes as reports of it and the WAIT_CLOCK exits as the writes of
TABLE_BASE_HI that they stand for. -/
theorem clockSourceFollowsSelectionAndReference : Obligations.ClockSourceFollowsSelectionAndReference := by
  unfold Obligations.ClockSourceFollowsSelectionAndReference
  exact ⟨selectSource_follows, reference_follows, waitClock_left, fun _ => reset_locks,
    fun _ _ _ => lastRunning_switches⟩

end Sys2Proof.Machine
end

section
/-! The Lane Status Record shows its lane (R176, R179): what the bytes of a record laid out by `layFrom` show,
region by region. -/

namespace Sys2Proof.Machine

/-- The bytes `bs`, standing at offset `o` of a record, show every field of `fs` and hold 0 elsewhere. -/
structure Shows (o : Nat) (fs : List RecordField) (bs : List Byte) : Prop where
  value : ∀ f ∈ fs, o ≤ f.offset ∧ f.offset + f.size ≤ o + bs.length ∧
    field bs (f.offset - o) f.size = f.value % 256 ^ f.size
  zero : ∀ i < bs.length, (∀ f ∈ fs, o + i < f.offset ∨ f.offset + f.size ≤ o + i) → bs.getD i 0 = 0

namespace Shows

theorem of_mem {o : Nat} {fs gs : List RecordField} {bs : List Byte} (h : Shows o fs bs)
    (hm : ∀ f, f ∈ gs ↔ f ∈ fs) : Shows o gs bs :=
  ⟨fun f hf => h.value f ((hm f).1 hf), fun i hi hz => h.zero i hi fun f hf => hz f ((hm f).2 hf)⟩

/-- A value of `n` bytes. -/
theorem le {p o n v : Nat} (w : Nat) (ho : p = o) (hv : w = v) :
    Shows p [⟨o, n, v⟩] (Machine.le n w) := by
  subst ho hv
  refine ⟨fun f hf => ?_, fun i hi hz => ?_⟩
  · obtain rfl := List.mem_singleton.1 hf
    refine ⟨le_refl _, by rw [le_length], ?_⟩
    rw [Nat.sub_self, field, List.drop_zero, List.take_of_length_le (by rw [le_length]), fromLe_le]
  · rw [le_length] at hi
    rcases hz _ List.mem_cons_self with h | h
    · exact absurd (show p + i < p from h) (by omega)
    · exact absurd (show p + n ≤ p + i from h) (by omega)

theorem moved {p o : Nat} {fs : List RecordField} {bs : List Byte} (h : Shows o fs bs) (hp : p = o) :
    Shows p fs bs := hp ▸ h

theorem zeros (o n : Nat) : Shows o [] (Machine.zeros n) :=
  ⟨(fun _ hf => nomatch hf), fun i hi _ => by
    rw [zeros_length] at hi
    rw [List.getD_eq_getElem _ _ (by rw [zeros_length]; exact hi)]
    exact List.getElem_replicate _⟩

theorem append {o : Nat} {fs gs : List RecordField} {bs cs : List Byte} (h : Shows o fs bs)
    (k : Shows (o + bs.length) gs cs) : Shows o (fs ++ gs) (bs ++ cs) := by
  refine ⟨fun f hf => ?_, fun i hi hz => ?_⟩
  · rw [List.length_append]
    rcases List.mem_append.1 hf with hf | hf
    · obtain ⟨hlo, hhi, hval⟩ := h.value f hf
      refine ⟨hlo, by omega, ?_⟩
      rw [← hval, field, field, List.drop_append_of_le_length (by omega),
        List.take_append_of_le_length (by rw [List.length_drop]; omega)]
    · obtain ⟨hlo, hhi, hval⟩ := k.value f hf
      refine ⟨by omega, by omega, ?_⟩
      rw [← hval, field, field, List.drop_append, List.drop_of_length_le (by omega), List.nil_append]
      congr 3
      omega
  · rw [List.length_append] at hi
    by_cases hb : i < bs.length
    · rw [List.getD_append _ _ _ _ hb]
      exact h.zero i hb fun f hf => hz f (List.mem_append_left _ hf)
    · rw [List.getD_append_right _ _ _ _ (by omega)]
      refine k.zero _ (by omega) fun f hf => ?_
      have := hz f (List.mem_append_right _ hf)
      omega

/-- One field of a layout, and the layout's rest. -/
theorem lay {b pos off size : Nat} {fs gs : List RecordField} {bs : List Byte}
    {rest : List (Nat × List Byte)} (hoff : pos ≤ off) (h : Shows (b + off) fs bs)
    (k : Shows (b + (off + bs.length)) gs (layFrom (off + bs.length) size rest)) :
    Shows (b + pos) (fs ++ gs) (layFrom pos size ((off, bs) :: rest)) := by
  have hgap : b + pos + (Machine.zeros (off - pos)).length = b + off := by rw [zeros_length]; omega
  have hz := (zeros (b + pos) (off - pos)).append (hgap ▸ h)
  refine hz.append (cs := layFrom (off + bs.length) size rest) ?_
  rw [List.length_append, zeros_length, show b + pos + (off - pos + bs.length) = b + (off + bs.length) by omega]
  exact k

/-- A layout of its own, at offset `o` of the record. -/
theorem layout {o size : Nat} {fs gs : List RecordField} {rest : List (Nat × List Byte)}
    (h : Shows (o + 0) gs (layFrom 0 size rest)) (hm : ∀ f, f ∈ fs ↔ f ∈ gs) : Shows o fs (layFrom 0 size rest) :=
  of_mem h hm

theorem done {o pos size : Nat} : Shows o [] (layFrom pos size []) := zeros _ _

/-- A list of values of `n` bytes each. -/
theorem each {α : Type} {n : Nat} (g : Nat → α → List RecordField) (f : α → List Byte)
    (hn : ∀ x, (f x).length = n) (o : Nat) (h : ∀ k x, Shows (o + n * k) (g k x) (f x)) (xs : List α) (k : Nat) :
    Shows (o + n * k) ((xs.zipIdx k).flatMap fun e => g e.2 e.1) (xs.flatMap f) := by
  induction xs generalizing k with
  | nil => exact zeros _ 0
  | cons x xs ih =>
    rw [List.zipIdx_cons, List.flatMap_cons, List.flatMap_cons]
    refine (h k x).append ?_
    rw [hn, Nat.add_assoc, ← Nat.mul_succ]
    exact ih (k + 1)

end Shows

theorem trackField_shows (o : Nat) (s : State) (l : LaneId) (e : Essence) :
    Shows o (trackFields o s l e) (trackField s l e) := by
  unfold trackField
  refine .layout (.lay (by omega) (.le _ rfl rfl) <| .lay (by simp [le_length]) (.le _ rfl rfl) <|
    .lay (by simp [le_length]) (.le _ rfl rfl) <| .lay (by simp [le_length]) (.le _ rfl rfl) <|
    .lay (by simp [frameField_length]) (.le _ rfl rfl) <|
    .lay (by simp [le_length]) (.le _ rfl rfl) .done) fun f => ?_
  simp [trackFields, frameOr, noFrame]

theorem wantedField_shows (o : Nat) (w : Option Wanted) : Shows o (wantedFields o w) (wantedField w) := by
  unfold wantedField
  refine .layout (.lay (by omega) (.le _ rfl rfl) <|
    .lay (by simp [le_length]) (.le (v := flag (w.any Wanted.announced)) _ rfl (by cases w <;> rfl)) <|
    .lay (by simp [le_length]) (.le _ rfl rfl) <| .lay (by simp [le_length]) (.le _ rfl rfl) .done) fun f => ?_
  simp [wantedFields, frameOr, noFrame]

theorem storeField_shows (o : Nat) (st : Store) : Shows o (storeFields o st) (storeField st) := by
  unfold storeField
  refine .layout (.lay (by omega) (.le _ rfl rfl) <| .lay (by simp [le_length]) (.le _ rfl rfl) <|
    .lay (by simp [le_length]) (.le _ rfl rfl) <| .lay (by simp [le_length]) (.le _ rfl rfl) <|
    .lay (by simp [le_length]) (.le _ rfl rfl) <| .lay (by simp [le_length]) (.le _ rfl rfl) <|
    .lay (by simp [le_length]) (.le _ rfl rfl) <| .lay (by simp [le_length]) (.le _ rfl rfl) <|
    .lay (by simp [le_length]) (.le _ rfl rfl) .done) fun f => ?_
  simp [storeFields]

theorem Shows.of_singles {α : Type} {n : Nat} (g : Nat → α → RecordField) (f : α → List Byte)
    (hn : ∀ x, (f x).length = n) (o : Nat) (h : ∀ k x, Shows (o + n * k) [g k x] (f x)) (xs : List α) :
    Shows o (xs.zipIdx.map fun e => g e.2 e.1) (xs.flatMap f) := by
  rw [List.map_eq_flatMap]
  exact Shows.each (fun k x => [g k x]) f hn o h xs 0

theorem tallyField_shows (o k : Nat) (e : TallyEntry) (ho : o = 0x178 + 16 * k) :
    Shows o [⟨0x178 + 16 * k, 4, e.licence⟩, ⟨0x17C + 16 * k, 4, e.total⟩,
      ⟨0x180 + 16 * k, 4, e.threshold⟩, ⟨0x184 + 16 * k, 3, e.confirmed⟩,
      ⟨0x187 + 16 * k, 1, e.status.ctorIdx⟩] (tallyField e) := by
  subst ho
  unfold tallyField
  refine .of_mem (.append (.append (.append (.append (.le _ rfl rfl) (.le (o := 0x17C + 16 * k) _ ?_ rfl))
    (.le (o := 0x180 + 16 * k) _ ?_ rfl)) (.le (o := 0x184 + 16 * k) _ ?_ rfl))
    (.le (o := 0x187 + 16 * k) _ ?_ rfl)) fun f => ?_
  case refine_5 => simp
  all_goals
    simp only [List.length_append, le_length]
    omega

theorem faultField_shows (r : Option FaultRecord) : Shows 0x200 (faultFields r) (faultField r) := by
  cases r with
  | none =>
    unfold faultField
    refine .layout (.lay (by omega) (.le _ rfl rfl) <|
      .lay (by simp [frameField_length]) (.le _ rfl rfl) .done) fun f => ?_
    simp [faultFields, noFrame]
  | some r =>
    unfold faultField
    refine .layout (.lay (by omega) (.le _ rfl rfl) <| .lay (by simp [le_length]) (.le _ rfl rfl) <|
      .lay (by simp [le_length]) (.le _ rfl rfl) <| .lay (by simp [le_length]) (.le _ rfl rfl) <|
      .lay (by simp [le_length]) (.le _ rfl rfl) <| .lay (by simp [le_length]) (.le _ rfl rfl) <|
      .lay (by simp [le_length]) (.le _ rfl rfl) <|
      .lay (by simp [le_length])
        (.of_singles (fun k v => ⟨0x210 + 4 * k, 4, v⟩) (le 4) (le_length 4) 0x210 (fun k v => .le _ rfl rfl) _)
        .done) fun f => ?_
    simp [faultFields]

theorem holdField_shows (h : Option HoldRecord) : Shows 0x20 (holdFields h) (holdField h) := by
  cases h with
  | none => exact .zeros _ 5
  | some r =>
    unfold holdField
    refine .of_mem (.append (.append (.append (.append (.le _ rfl rfl) (.le (o := 0x21) _ ?_ rfl))
      (.le (o := 0x22) _ ?_ rfl)) (.le (o := 0x23) _ ?_ rfl)) (.le (o := 0x24) _ ?_ rfl)) fun f => ?_
    case refine_5 => simp [holdFields]
    all_goals simp only [List.length_append, le_length]

/-- The word of an applied gain. -/
def gainWord : Gain → Nat
  | .mute => 0x8000
  | .level v => signed16 v

theorem soundFields_eq (x : Sound) :
    soundFields x =
      [⟨0x35, 1, mapStateCode x.stage⟩,
        ⟨0x36, 1, flag x.stagedRouting.isSome + 2 * flag x.stagedTrims.isSome⟩, ⟨0x38, 2, x.clipCount⟩,
        ⟨0x260, 4, (x.trims.zipIdx.map fun e => if e.1.mute then 2 ^ e.2 else 0).sum⟩] ++
        (x.applied.zipIdx.map fun e => ⟨0x40 + 2 * e.2, 2, gainWord e.1⟩) ++
        x.trims.zipIdx.map fun e => ⟨0x230 + 2 * e.2, 2, signed16 e.1.trim⟩ := rfl

theorem gainField_shows (o : Nat) (g : Gain) : Shows o [⟨o, 2, gainWord g⟩] (gainField g) := by
  cases g
  · exact .le _ rfl rfl
  · exact .le _ rfl rfl

/-- The mute bits, an output's bit its index. -/
theorem flagBits_eq_sum (ts : List Trim) (k : Nat) :
    2 ^ k * flagBits (ts.map Trim.mute) = ((ts.zipIdx k).map fun e => if e.1.mute then 2 ^ e.2 else 0).sum := by
  induction ts generalizing k with
  | nil => rfl
  | cons t ts ih =>
    rw [List.zipIdx_cons, List.map_cons, List.map_cons, List.sum_cons, ← ih (k + 1), flagBits, pow_succ]
    cases t.mute <;> simp [flag] <;> ring

/-- The fields of the record after its update count, in the record's order. -/
theorem laneStatusBody_fields {s : State} {l : LaneId} (h : laneShapeOk (s.lane l)) :
    ∃ gs, Shows (0 + 4) gs (laneStatusBody s l) ∧
      ∀ f, f ∈ laneRecordFields s l ↔ f ∈ [(⟨0x00, 4, (s.lane l).statusCount⟩ : RecordField)] ++ gs := by
  obtain ⟨htrims, _, happlied, _, hentries, hfault⟩ := h
  have ha := flatMap_length_of_each (s.lane l).sound.applied gainField 2 gainField_length
  have he := flatMap_length_of_each (s.lane l).tally.entries tallyField 16 tallyField_length
  have ht := flatMap_length_of_each (s.lane l).sound.trims (fun t => leInt 2 t.trim) 2
    fun _ => leInt_length _ _
  unfold laneStatusBody
  refine ⟨_,
    .lay (by omega) (.le (o := 0x04) _ rfl rfl) <| .lay ?_ (.le (o := 0x05) _ rfl rfl) <|
    .lay ?_ (.le (o := 0x06) (v := flag (s.lane l).waitingLicence + 2 * flag (s.lane l).scanner.readError +
      4 * flag (routingWritten (s.lane l).sound.stage)) _ rfl ?_) <|
    .lay ?_ (.le (o := 0x08) _ rfl rfl) <| .lay ?_ (.le (o := 0x0C) _ rfl rfl) <|
    .lay ?_ (.le (o := 0x10) _ rfl rfl) <| .lay ?_ (.le (o := 0x11) _ rfl rfl) <|
    .lay ?_ (.le (o := 0x12) _ rfl rfl) <| .lay ?_ (.le (o := 0x14) _ rfl rfl) <|
    .lay ?_ (.le (o := 0x18) _ rfl rfl) <| .lay ?_ (holdField_shows _) <|
    .lay ?_ (.append (.append (.le (o := 0x28) _ rfl rfl) (.le (o := 0x2A) _ ?_ rfl)) (.le (o := 0x2C) _ ?_ rfl)) <|
    .lay ?_ (.append (.le (o := 0x30) _ rfl rfl) (.le (o := 0x32) _ ?_ rfl)) <|
    .lay ?_ (.le (o := 0x34) _ rfl rfl) <| .lay ?_ (.le (o := 0x35) _ rfl rfl) <|
    .lay ?_ (.le (o := 0x36) (v := flag (s.lane l).sound.stagedRouting.isSome +
      2 * flag (s.lane l).sound.stagedTrims.isSome) _ rfl ?_) <|
    .lay ?_ (.le (o := 0x38) _ rfl rfl) <| .lay ?_ (.le (o := 0x3C) _ rfl rfl) <|
    .lay ?_ (.of_singles (fun k g => ⟨0x40 + 2 * k, 2, gainWord g⟩)
      gainField gainField_length 0x40 (fun k g => gainField_shows _ g) _) <|
    .lay ?_ (.le (o := 0x70) _ rfl rfl) <|
    .lay ?_ (.le (o := 0x71) (v := (s.lane l).scanner.writePending.countP id) _ rfl ?_) <|
    .lay ?_ (.append (.append (trackField_shows 0x80 _ _ _) ((trackField_shows 0x90 _ _ _).moved ?_))
      ((trackField_shows 0xA0 _ _ _).moved ?_)) <|
    .lay ?_ (.append (.append (.append (.append (wantedField_shows 0xB0 _) ((wantedField_shows 0xB8 _).moved ?_))
      ((wantedField_shows 0xC0 _).moved ?_)) ((wantedField_shows 0xC8 _).moved ?_))
      ((wantedField_shows 0xD0 _).moved ?_)) <|
    .lay ?_ (.append (.append (.append (storeField_shows 0xE0 _) ((storeField_shows 0xF8 _).moved ?_))
      ((storeField_shows 0x110 _).moved ?_)) ((storeField_shows 0x128 _).moved ?_)) <|
    .lay ?_ (.le (o := 0x140) _ rfl rfl) <| .lay ?_ (.le (o := 0x144) _ rfl rfl) <|
    .lay ?_ (.append (.le (o := 0x146) _ rfl rfl) (.le (o := 0x147) _ ?_ rfl)) <|
    .lay ?_ (.append (.append (.append (.append (.append (.append (.append (.le (o := 0x148) _ rfl rfl)
        (.le (o := 0x149) _ ?_ rfl))
        (.le (o := 0x14A) _ ?_ rfl))
        (.le (o := 0x14B) _ ?_ rfl))
        (.le (o := 0x14C) _ ?_ rfl))
        (.le (o := 0x14D) _ ?_ rfl))
        (.le (o := 0x14E) _ ?_ rfl))
        (.le (o := 0x14F) _ ?_ rfl)) <|
    .lay ?_ (.le (o := 0x150) (v := ((s.lane l).link.headId.map BitVec.toNat).getD 0) _ rfl ?_) <|
    .lay ?_ (.append (.append (.append (.append (.append (.append (.append (.le (o := 0x158) _ rfl rfl)
        (.le (o := 0x15A) _ ?_ rfl))
        (.le (o := 0x15C) _ ?_ rfl))
        (.zeros _ 2))
        (.le (o := 0x160) _ ?_ rfl))
        (.le (o := 0x162) _ ?_ rfl))
        (.le (o := 0x164) _ ?_ rfl))
        (.le (o := 0x166) _ ?_ rfl)) <|
    .lay ?_ (.append (.append (.le (o := 0x168) _ rfl rfl)
        (.le (o := 0x16A) _ ?_ rfl))
        (.le (o := 0x16C) _ ?_ rfl)) <|
    .lay ?_ (.append (.append (.append (.le (o := 0x170) _ rfl rfl)
        (.le (o := 0x171) _ ?_ rfl))
        (.le (o := 0x172) _ ?_ rfl))
        (.le (o := 0x173) _ ?_ rfl)) <|
    .lay ?_ (.each (fun k (e : TallyEntry) => [⟨0x178 + 16 * k, 4, e.licence⟩, ⟨0x17C + 16 * k, 4, e.total⟩,
      ⟨0x180 + 16 * k, 4, e.threshold⟩, ⟨0x184 + 16 * k, 3, e.confirmed⟩,
      ⟨0x187 + 16 * k, 1, e.status.ctorIdx⟩]) tallyField tallyField_length 0x178
      (fun k e => tallyField_shows _ k e rfl) _ 0) <|
    .lay ?_ (faultField_shows _) <|
    .lay ?_ (.of_singles (fun k (t : Trim) => ⟨0x230 + 2 * k, 2, signed16 t.trim⟩) (fun t => leInt 2 t.trim)
      (fun _ => leInt_length _ _) 0x230 (fun k t => .le _ rfl rfl) _) <|
    .lay ?_ (.le (o := 0x260) (v := ((s.lane l).sound.trims.zipIdx.map fun e =>
      if e.1.mute then 2 ^ e.2 else 0).sum) _ rfl ?_) .done, fun f => ?_⟩
  case refine_3 => simp only [flagBits]; ring
  case refine_20 => simp only [flagBits]; ring
  case refine_26 => exact List.countP_eq_length_filter.symm
  case refine_52 => cases (s.lane l).link.headId <;> rfl
  case refine_71 => simpa using flagBits_eq_sum (s.lane l).sound.trims 0
  case refine_72 =>
    simp only [laneRecordFields, laneFields, soundFields_eq, linkFields, tallyFields, List.mem_append,
      List.mem_cons, List.not_mem_nil, or_false]
    apply Iff.of_eq
    ac_rfl
  all_goals
    simp only [List.length_append, le_length, frameField_length, holdField_length, ha, he, ht,
      faultField_length hfault, trackField_length, wantedField_length, storeField_length, zeros_length] <;> omega

theorem laneStatusBody_shows {s : State} {l : LaneId} (h : laneShapeOk (s.lane l)) :
    Shows 0 (laneRecordFields s l) (le 4 (s.lane l).statusCount ++ laneStatusBody s l) := by
  obtain ⟨gs, hbody, hmem⟩ := laneStatusBody_fields h
  exact .of_mem (.append (.le _ rfl rfl) (by rw [le_length]; exact hbody)) hmem

end Sys2Proof.Machine
end

section
/-! The writes of the status records: at the acceptance of the Booth Table, at the boundaries of a lane, and
the notes of the other commands (R171, R176). -/

namespace Sys2Proof.Machine

/-! ## A Lane Status Record that stands as its lane is -/

/-- The Lane Status Record of `l` holds its update count and its lane. -/
def RecordStands (l : LaneId) (s : State) : Prop :=
  memReadBytes s.host.mem (laneStatusAddr s l) 1024 = le 4 (s.lane l).statusCount ++ laneStatusBody s l

theorem RecordStands.shows {l : LaneId} {s : State} (h : RecordStands l s) (hs : laneShapeOk (s.lane l)) :
    statusShows s l := by
  have hshows := laneStatusBody_shows hs
  unfold RecordStands at h
  refine ⟨fun f hf => ?_, fun i hi hz => ?_⟩
  · obtain ⟨_, _, hval⟩ := hshows.value f hf
    rw [h]
    exact hval
  · rw [h]
    refine hshows.zero i ?_ fun f hf => by rw [Nat.zero_add]; exact hz f hf
    rw [List.length_append, le_length, laneStatusBody_length hs]
    exact hi

/-- A part of the bytes read. -/
theorem memReadBytes_part (m : List Host.Cell) (a k n N : Nat) (h : k + n ≤ N) :
    memReadBytes m (a + k) n = ((memReadBytes m a N).drop k).take n := by
  refine List.ext_getElem ?_ fun i h1 h2 => ?_
  · simp only [memReadBytes, List.length_take, List.length_drop, List.length_map, List.length_range]
    omega
  · simp only [memReadBytes, List.getElem_take, List.getElem_drop, List.getElem_map, List.getElem_range]
    rw [Nat.add_assoc]

theorem RecordStands.count {l : LaneId} {s : State} (h : RecordStands l s) :
    memReadBytes s.host.mem (laneStatusAddr s l) 4 = le 4 (s.lane l).statusCount := by
  rw [show laneStatusAddr s l = laneStatusAddr s l + 0 from rfl, memReadBytes_part _ _ 0 4 1024 (by omega), h,
    List.drop_zero, List.take_append_of_le_length (by rw [le_length]), List.take_of_length_le (by rw [le_length])]

theorem laneStatusBody_take (s : State) (l : LaneId) :
    (laneStatusBody s l).take 1 = le 1 (s.lane l).state.ctorIdx := rfl

theorem RecordStands.state {l : LaneId} {s : State} (h : RecordStands l s) :
    memReadBytes s.host.mem (laneStatusAddr s l + 4) 1 = le 1 (s.lane l).state.ctorIdx := by
  rw [memReadBytes_part _ _ 4 1 1024 (by omega), h, List.drop_append_of_le_length (by rw [le_length]),
    List.drop_of_length_le (by rw [le_length]), List.nil_append, laneStatusBody_take]

/-- The record stands where its bytes, its lane and what the lane's record tells of stand. -/
theorem RecordStands.kept {l : LaneId} {s t : State} (h : RecordStands l s)
    (hmem : memReadBytes t.host.mem (laneStatusAddr t l) 1024 = memReadBytes s.host.mem (laneStatusAddr s l) 1024)
    (hl : t.lane l = s.lane l) (hlic : t.licences = s.licences) (he : t.engine = s.engine) :
    RecordStands l t := by
  rw [RecordStands, hmem, h, hl, laneStatusBody_congr (s := s) (by rw [hl]) hlic he]

theorem laneStatusNow_stands {l : LaneId} {s : State} (hs : laneShapeOk (s.lane l)) :
    RecordStands l (laneStatusNow l s) := by
  have hlane : (laneStatusNow l s).lane l = { s.lane l with statusCount := nextCount (s.lane l).statusCount } :=
    State.lane_modLane_self _ _ _
  have hlen : (le 4 (nextCount (s.lane l).statusCount) ++ laneStatusBody s l).length = 1024 := by
    rw [List.length_append, le_length, laneStatusBody_length hs]
  rw [RecordStands, laneStatusBody_congr (s := s) (t := laneStatusNow l s) (by rw [hlane]; rfl) rfl rfl, hlane,
    ← hlen]
  exact memReadBytes_memWrite_self _ _ _

theorem laneStatusNow_stands_ne {l m : LaneId} {s : State} (hm : m ≠ l) (hs : laneShapeOk (s.lane l))
    (h : RecordStands m s) : RecordStands m (laneStatusNow l s) := by
  refine h.kept ?_ (State.lane_modLane_ne _ _ hm) rfl rfl
  refine memReadBytes_memWrite_outside ?_
  rw [List.length_append, le_length, laneStatusBody_length hs]
  have hidx : laneIndex m ≠ laneIndex l := by
    revert hm
    cases m <;> cases l <;> decide
  simp only [laneStatusAddr, tableAddr]
  show wide s.tableLo s.tableHi + 1024 + 1024 * laneIndex m + 1024 ≤ _ ∨ _ ≤ wide s.tableLo s.tableHi + 1024 + 1024 * laneIndex m
  omega

theorem laneStatusNow_lane_self (l : LaneId) (s : State) :
    (laneStatusNow l s).lane l = { s.lane l with statusCount := nextCount (s.lane l).statusCount } :=
  State.lane_modLane_self _ _ _

theorem laneStatusNow_lane_ne {l m : LaneId} (s : State) (hm : m ≠ l) : (laneStatusNow l s).lane m = s.lane m :=
  State.lane_modLane_ne _ _ hm

/-! ## The first writes (R171, R176) -/

/-- What the first writes and the fresh table change. -/
structure FirstWritten (s t : State) : Prop where
  rest : ∃ m n ls, t = { s with host := { s.host with mem := m }, statusCount := n, lanes := ls }
  lanes : ∀ l, bare (t.lane l) = bare (s.lane l)

theorem FirstWritten.refl (s : State) : FirstWritten s s := ⟨⟨s.host.mem, s.statusCount, s.lanes, rfl⟩, fun _ => rfl⟩

theorem FirstWritten.trans {s t u : State} (h : FirstWritten s t) (k : FirstWritten t u) : FirstWritten s u where
  rest := by
    obtain ⟨m, n, ls, rfl⟩ := h.rest
    obtain ⟨m', n', ls', rfl⟩ := k.rest
    exact ⟨m', n', ls', rfl⟩
  lanes l := (k.lanes l).trans (h.lanes l)

theorem laneStatusNow_written (l : LaneId) (s : State) : FirstWritten s (laneStatusNow l s) where
  rest := ⟨_, _, _, rfl⟩
  lanes m := by
    by_cases h : m = l
    · rw [h, laneStatusNow_lane_self]
      rfl
    · rw [laneStatusNow_lane_ne s h]

theorem firstWriteSteps_written {f : State → State} (h : f ∈ firstWriteSteps) (s : State) : FirstWritten s (f s) := by
  simp only [firstWriteSteps, List.mem_cons, List.not_mem_nil, or_false] at h
  rcases h with rfl | rfl | rfl | rfl | rfl | rfl
  · exact ⟨⟨_, _, _, rfl⟩, fun _ => rfl⟩
  · exact ⟨⟨_, _, _, rfl⟩, fun _ => rfl⟩
  all_goals exact laneStatusNow_written _ s

theorem makeFirstWrites_written (s : State) : FirstWritten s (makeFirstWrites s) := by
  have hall : ∀ (fs : List (State → State)), (∀ f ∈ fs, f ∈ firstWriteSteps) → ∀ u,
      FirstWritten u (fs.foldl (fun s f => f s) u) := by
    intro fs
    induction fs with
    | nil => exact fun _ u => .refl u
    | cons f fs ih =>
      exact fun h u => (firstWriteSteps_written (h f List.mem_cons_self) u).trans
        (ih (fun g hg => h g (List.mem_cons_of_mem _ hg)) (f u))
  exact hall _ (fun f hf => List.mem_of_mem_take hf) s

/-- The areas of the first writes, from the table's base. -/
def firstAreas : List (Nat × Nat) :=
  [(4, 4), (0x200, 256), (0x400, 1024), (0x800, 1024), (0xC00, 1024), (0x1000, 1024)]

theorem firstWrites_eq (s : State) : firstWrites s = firstAreas.map fun w => (tableAddr s + w.1, w.2) := by
  simp [firstWrites, firstAreas, deviceStatusAddr, laneStatusAddr, deviceStatusSize, laneStatusSize, laneIndex,
    Nat.add_assoc]

theorem writesBeforeFailure_eq_length {h : HostSide} {ws : List (Nat × Nat)} :
    writesBeforeFailure h ws = ws.length ↔ ∀ w ∈ ws, accessFails h.writeFails w.1 w.2 = false := by
  induction ws with
  | nil => exact ⟨(fun _ _ hw => nomatch hw), fun _ => rfl⟩
  | cons w ws ih =>
    unfold writesBeforeFailure
    rw [List.forall_mem_cons, ← ih]
    cases accessFails h.writeFails w.1 w.2 with
    | true => simp
    | false => simp

theorem firstWritesOk_iff (s : State) :
    firstWritesOk s = true ↔
      ∀ w ∈ firstAreas, accessFails s.host.writeFails (tableAddr s + w.1) w.2 = false := by
  have h := writesBeforeFailure_eq_length (h := s.host) (ws := firstWrites s)
  rw [firstWrites_eq, List.forall_mem_map] at h
  rw [← h, firstWritesOk, decide_eq_true_iff, firstWrites_eq, List.length_map]
  rfl

/-! ## The acceptance (R171) -/

theorem setReason_fields (r : DeviceReason) (s : State) :
    (setReason r s).reason = r ∧ (setReason r s).device = s.device ∧ (setReason r s).licences = s.licences := by
  unfold setReason
  split
  · next h => exact ⟨h, rfl, rfl⟩
  · exact ⟨rfl, rfl, rfl⟩

/-- The state that the acceptance judges: the written base, no write stored. -/
def offered (v : Word32) (acts : HostActs) (s : State) : State :=
  { applyActs acts s with tableHi := v, hiStored := false }

/-- What the acceptance makes of a WAIT_TABLE device, by the first check that fails. -/
theorem acceptTable_cases (u : State) :
    (tableAddr u % 4096 ≠ 0 → acceptTable u = setReason .align { u with hiStored := false }) ∧
    (tableAddr u % 4096 = 0 → hostRead u.host (tableAddr u) 64 = none →
      acceptTable u = setReason .read { u with hiStored := false }) ∧
    (∀ bs, tableAddr u % 4096 = 0 → hostRead u.host (tableAddr u) 64 = some bs →
      (field bs 0 2 ≠ 1 ∨ field bs 8 2 ≠ 0 → acceptTable u = setReason .layout { u with hiStored := false }) ∧
      (field bs 0 2 = 1 → field bs 8 2 = 0 →
        acceptTable u =
          if firstWritesOk { u with hiStored := false } then
            enterRunning (makeFirstWrites (freshTable { u with hiStored := false }))
          else setReason .write (makeFirstWrites (freshTable { u with hiStored := false })))) := by
  refine ⟨fun h => if_pos h, fun h hr => ?_, fun bs h hr => ⟨fun hl => ?_, fun h0 h8 => ?_⟩⟩
  · rw [acceptTable]
    dsimp only
    rw [if_neg (not_not.2 (by exact h)), show hostRead u.host (tableAddr { u with hiStored := false }) 64 = none from hr]
    rfl
  · rw [acceptTable]
    dsimp only
    rw [if_neg (not_not.2 (by exact h)), show hostRead u.host (tableAddr { u with hiStored := false }) 64 = some bs from hr]
    exact if_pos hl
  · rw [acceptTable]
    dsimp only
    rw [if_neg (not_not.2 (by exact h)), show hostRead u.host (tableAddr { u with hiStored := false }) 64 = some bs from hr]
    exact if_neg (by rw [h0, h8]; exact fun hh => hh.elim (fun k => k rfl) fun k => k rfl)

/-- The state before the first Lane Status Record is written. -/
def headerWritten (s : State) : State := deviceStatusNow (putBytes (tableAddr s + 4) (zeros 4) s)

theorem makeFirstWrites_eq {s : State} (h : firstWritesOk s = true) :
    makeFirstWrites s = laneStatusNow .d (laneStatusNow .c (laneStatusNow .b (laneStatusNow .a (headerWritten s)))) := by
  have hall : writesBeforeFailure s.host (firstWrites s) = 6 := of_decide_eq_true h
  rw [makeFirstWrites, hall]
  rfl

/-- A Lane Status Record written again and again, the lane's record at its end as after its own write. -/
theorem lanesWritten {s : State} (hs : ∀ l, laneShapeOk (s.lane l)) (l : LaneId) :
    let t := laneStatusNow .d (laneStatusNow .c (laneStatusNow .b (laneStatusNow .a s)))
    RecordStands l t ∧ (t.lane l).statusCount = nextCount (s.lane l).statusCount := by
  have hshape {m : LaneId} {u v : State} (h : FirstWritten u v) : laneShapeOk (u.lane m) → laneShapeOk (v.lane m) := by
    intro hu
    obtain ⟨n, hn⟩ := eq_of_bare (h.lanes m)
    rw [hn]
    exact hu
  have ha := laneStatusNow_written .a s
  have hb := ha.trans (laneStatusNow_written .b _)
  have hc := hb.trans (laneStatusNow_written .c _)
  have hone {m k : LaneId} {u : State} (hm : m ≠ k) (hk : laneShapeOk (u.lane k)) {c : Nat}
      (h : RecordStands m u ∧ (u.lane m).statusCount = c) :
      RecordStands m (laneStatusNow k u) ∧ ((laneStatusNow k u).lane m).statusCount = c :=
    ⟨laneStatusNow_stands_ne hm hk h.1, by rw [laneStatusNow_lane_ne _ hm]; exact h.2⟩
  have hself {k : LaneId} {u : State} (hk : laneShapeOk (u.lane k)) {c : Nat} (h : (u.lane k).statusCount = c) :
      RecordStands k (laneStatusNow k u) ∧ ((laneStatusNow k u).lane k).statusCount = nextCount c :=
    ⟨laneStatusNow_stands hk, by rw [laneStatusNow_lane_self, h]⟩
  have hsa := hs .a
  have hsb := hshape ha (hs .b)
  have hsc := hshape hb (hs .c)
  have hsd := hshape hc (hs .d)
  cases l with
  | a => exact hone (by decide) hsd (hone (by decide) hsc (hone (by decide) hsb (hself hsa rfl)))
  | b => exact hone (by decide) hsd (hone (by decide) hsc (hself hsb (by rw [laneStatusNow_lane_ne _ (by decide)])))
  | c =>
    exact hone (by decide) hsd (hself hsc (by
      rw [laneStatusNow_lane_ne _ (by decide), laneStatusNow_lane_ne _ (by decide)]))
  | d =>
    exact hself hsd (by
      rw [laneStatusNow_lane_ne _ (by decide), laneStatusNow_lane_ne _ (by decide),
        laneStatusNow_lane_ne _ (by decide)])

/-- Bytes outside a lane's record stand when it is written. -/
theorem laneStatusNow_bytes {l : LaneId} {s : State} {a n : Nat} (h : a + n ≤ tableAddr s + 0x400) :
    memReadBytes (laneStatusNow l s).host.mem a n = memReadBytes s.host.mem a n := by
  refine memReadBytes_memWrite_outside (.inl (h.trans ?_))
  simp only [laneStatusAddr]
  omega

theorem FirstWritten.tableAddr {s t : State} (h : FirstWritten s t) : tableAddr t = tableAddr s := by
  obtain ⟨m, n, ls, rfl⟩ := h.rest
  rfl

theorem FirstWritten.inputs {s t : State} (h : FirstWritten s t) : t.inputs = s.inputs := by
  obtain ⟨m, n, ls, rfl⟩ := h.rest
  rfl

/-- What stands in host memory once every first write is made. -/
theorem firstWrites_stand {s : State} (hs : ∀ l, laneShapeOk (s.lane l)) (h : firstWritesOk s = true) :
    memReadBytes (makeFirstWrites s).host.mem (tableAddr s + 4) 4 = zeros 4 ∧
      (makeFirstWrites s).statusCount = nextCount s.statusCount ∧
      ∀ l, RecordStands l (makeFirstWrites s) ∧
        ((makeFirstWrites s).lane l).statusCount = nextCount (s.lane l).statusCount := by
  have hlanes := lanesWritten (s := headerWritten s) hs
  have ha := laneStatusNow_written .a (headerWritten s)
  have hb := ha.trans (laneStatusNow_written .b _)
  have hc := hb.trans (laneStatusNow_written .c _)
  have hbase : tableAddr s + 4 + 4 ≤ tableAddr (headerWritten s) + 0x400 := by
    show tableAddr s + 4 + 4 ≤ tableAddr s + 0x400
    omega
  rw [makeFirstWrites_eq h]
  refine ⟨?_, rfl, hlanes⟩
  rw [laneStatusNow_bytes (by rw [hc.tableAddr]; exact hbase),
    laneStatusNow_bytes (by rw [hb.tableAddr]; exact hbase),
    laneStatusNow_bytes (by rw [ha.tableAddr]; exact hbase),
    laneStatusNow_bytes (s := headerWritten s) hbase]
  refine (memReadBytes_memWrite_outside (.inl ?_)).trans (memReadBytes_memWrite_self _ _ (zeros 4))
  show tableAddr s + 4 + 4 ≤ tableAddr s + 0x200
  omega

/-- The device RUNNING, not yet told of. -/
def toRunning (w : State) : State := noteDeviceChange { w with device := .running, reason := .none }

/-- The Device Status Record is written last at the entry to RUNNING, and tells of it. -/
theorem enterRunning_eq (w : State) : enterRunning w = deviceStatusNow (toRunning w) :=
  writeDeviceStatus_running (s := toRunning w) rfl

theorem deviceStatusNow_bytes {s : State} (hin : s.inputs.length = 8) {a n : Nat}
    (h : a + n ≤ tableAddr s + 0x200 ∨ tableAddr s + 0x300 ≤ a) :
    memReadBytes (deviceStatusNow s).host.mem a n = memReadBytes s.host.mem a n := by
  refine memReadBytes_memWrite_outside ?_
  rw [List.length_append, le_length, deviceStatusBody_length (s := s) hin]
  simp only [deviceStatusAddr]
  show a + n ≤ tableAddr s + 0x200 ∨ tableAddr s + 0x200 + (4 + 252) ≤ a
  omega

/-- The head of the Device Status Record once it is written. -/
theorem deviceStatusNow_head {s : State} (hin : s.inputs.length = 8) :
    memReadBytes (deviceStatusNow s).host.mem (deviceStatusAddr s) 4 = le 4 (nextCount s.statusCount) ∧
      memReadBytes (deviceStatusNow s).host.mem (deviceStatusAddr s + 4) 1 = le 1 s.device.ctorIdx := by
  have hwhole : memReadBytes (deviceStatusNow s).host.mem (deviceStatusAddr s) 256 =
      le 4 (nextCount s.statusCount) ++ deviceStatusBody s := by
    have hlen : (le 4 (nextCount s.statusCount) ++ deviceStatusBody s).length = 256 := by
      rw [List.length_append, le_length, deviceStatusBody_length hin]
    rw [← hlen]
    exact memReadBytes_memWrite_self _ _ _
  refine ⟨?_, ?_⟩
  · rw [show deviceStatusAddr s = deviceStatusAddr s + 0 from rfl, memReadBytes_part _ _ 0 4 256 (by omega), hwhole,
      List.drop_zero, List.take_append_of_le_length (by rw [le_length]), List.take_of_length_le (by rw [le_length])]
  · rw [memReadBytes_part _ _ 4 1 256 (by omega), hwhole, List.drop_append_of_le_length (by rw [le_length]),
      List.drop_of_length_le (by rw [le_length]), List.nil_append]
    rfl

theorem freshTable_lane (s : State) (l : LaneId) :
    (freshTable s).lane l = { s.lane l with statusCount := 0 } := by
  cases l <;> rfl

/-- A Booth Table that passes every check is accepted (R171). -/
theorem acceptTable_runs {u : State} {bs : List Byte} (halign : tableAddr u % 4096 = 0)
    (hread : hostRead u.host (tableAddr u) 64 = some bs) (h0 : field bs 0 2 = 1) (h8 : field bs 8 2 = 0)
    (hw : ∀ w ∈ firstAreas, accessFails u.host.writeFails (tableAddr u + w.1) w.2 = false) (hs : shapeOk u) :
    ∃ t, acceptTable u = t ∧ t.device = .running ∧ t.reason = .none ∧
      t.tableHi = u.tableHi ∧ t.tableLo = u.tableLo ∧ t.attention = u.attention ||| attentionBit 6 ∧
      t.journal = ⟨0, 0, 0, 0⟩ ∧ memReadBytes t.host.mem (tableAddr t + 4) 4 = zeros 4 ∧
      memReadBytes t.host.mem (deviceStatusAddr t + 4) 1 = [3] ∧ t.statusCount = 4 ∧
      memReadBytes t.host.mem (deviceStatusAddr t) 4 = [4, 0, 0, 0] ∧
      (∀ l, bare (t.lane l) = bare (u.lane l) ∧ (t.lane l).statusCount = 2 ∧ RecordStands l t) ∧
      t.licences = u.licences ∧ t.clockUnit = u.clockUnit ∧ t.inputs = u.inputs ∧
      t.engine = u.engine ∧ t.pending = u.pending := by
  have hok : firstWritesOk { u with hiStored := false } = true := (firstWritesOk_iff _).2 hw
  have hok' : firstWritesOk (freshTable { u with hiStored := false }) = true := hok
  obtain ⟨_, _, hcases⟩ := acceptTable_cases u
  obtain ⟨_, hrun⟩ := hcases bs halign hread
  have hshape (l : LaneId) : laneShapeOk ((freshTable { u with hiStored := false }).lane l) := by
    rw [freshTable_lane]
    exact hs.lane l
  obtain ⟨hheader, hcount, hlanes⟩ := firstWrites_stand (s := freshTable { u with hiStored := false }) hshape hok'
  have hwritten := makeFirstWrites_written (freshTable { u with hiStored := false })
  have hbare (l : LaneId) := (hwritten.lanes l).trans (congrArg bare (freshTable_lane { u with hiStored := false } l))
  generalize makeFirstWrites (freshTable { u with hiStored := false }) = w at *
  refine ⟨enterRunning w, by rw [hrun h0 h8, if_pos hok], ?_⟩
  have hin : (toRunning w).inputs.length = 8 := by
    show w.inputs.length = 8
    rw [hwritten.inputs]
    exact hs.1
  obtain ⟨hhead, hstate⟩ := deviceStatusNow_head hin
  have hcount4 : nextCount (toRunning w).statusCount = 4 := congrArg nextCount hcount
  rw [hcount4] at hhead
  have hbelow : memReadBytes (deviceStatusNow (toRunning w)).host.mem (tableAddr (toRunning w) + 4) 4 = zeros 4 := by
    rw [deviceStatusNow_bytes hin (.inl (by omega)), show tableAddr (toRunning w) = tableAddr w from rfl,
      hwritten.tableAddr]
    exact hheader
  have hstand (l : LaneId) : bare ((deviceStatusNow (toRunning w)).lane l) = bare (u.lane l) ∧
      ((deviceStatusNow (toRunning w)).lane l).statusCount = 2 ∧ RecordStands l (deviceStatusNow (toRunning w)) := by
    obtain ⟨hst, hc⟩ := hlanes l
    refine ⟨hbare l, hc.trans (by rw [freshTable_lane]; rfl),
      RecordStands.kept (s := toRunning w) ?_ ?_ rfl rfl rfl⟩
    · exact hst
    · refine deviceStatusNow_bytes hin (.inr ?_)
      simp only [laneStatusAddr]
      show tableAddr (toRunning w) + 0x300 ≤ tableAddr (toRunning w) + 0x400 + 0x400 * laneIndex l
      omega
  have hthree : le 1 (toRunning w).device.ctorIdx = [3] := by
    show le 1 DeviceState.running.ctorIdx = [3]
    decide
  have hfour : le 4 4 = [4, 0, 0, 0] := by decide
  rw [enterRunning_eq]
  refine ⟨rfl, rfl, ?_, ?_, ?_, ?_, hbelow, hstate.trans hthree, hcount4, hhead.trans hfour, hstand, ?_⟩
  all_goals
    obtain ⟨m, n, ls, rfl⟩ := hwritten.rest
  case refine_5 => exact ⟨rfl, rfl, rfl, rfl, rfl⟩
  all_goals rfl

theorem writeBaseHi_waitTable (v : Word32) {u : State} (h : u.device = .waitTable) :
    writeBaseHi v u = acceptTable { u with tableHi := v } := by
  unfold writeBaseHi
  split
  case h_2 => rfl
  all_goals next hd => cases h.symm.trans hd

theorem writeBaseHi_waitClock (v : Word32) {u : State} (h : u.device = .waitClock) :
    writeBaseHi v u = { u with tableHi := v, hiStored := true } := by
  unfold writeBaseHi
  split
  case h_1 => rfl
  all_goals next hd => cases h.symm.trans hd

theorem writeBaseHi_elsewhere (v : Word32) {u : State} (h : u.device = .reset ∨ u.device = .running ∨ u.device = .halted) :
    writeBaseHi v u = u := by
  unfold writeBaseHi
  split
  case h_1 hd | h_2 hd =>
    rw [hd] at h
    rcases h with h | h | h
    all_goals cases h
  all_goals rfl

/-- The bytes that an accepted table's write of TABLE_BASE_HI leaves, as a command. -/
theorem baseHi_runs {v : Word32} {acts : HostActs} {s : State} {bs : List Byte} (hd : s.device = .waitTable)
    (halign : wide s.tableLo v % 4096 = 0) (hread : hostRead (hostActs s.host acts) (wide s.tableLo v) 64 = some bs)
    (h0 : field bs 0 2 = 1) (h8 : field bs 8 2 = 0)
    (hw : ∀ w ∈ firstAreas,
      accessFails (hostActs s.host acts).writeFails (wide s.tableLo v + w.1) w.2 = false) (hs : shapeOk s) :
    ∃ t, exec (.tableBaseHiWrite v acts) s = .next t ∧ t.device = .running ∧ t.reason = .none ∧
      t.tableHi = v ∧ t.tableLo = s.tableLo ∧ t.attention = s.attention ||| attentionBit 6 ∧
      t.journal = ⟨0, 0, 0, 0⟩ ∧ memReadBytes t.host.mem (tableAddr t + 4) 4 = zeros 4 ∧
      memReadBytes t.host.mem (deviceStatusAddr t + 4) 1 = [3] ∧ t.statusCount = 4 ∧
      memReadBytes t.host.mem (deviceStatusAddr t) 4 = [4, 0, 0, 0] ∧
      (∀ l, bare (t.lane l) = bare (s.lane l) ∧ (t.lane l).statusCount = 2 ∧
        memReadBytes t.host.mem (laneStatusAddr t l) 4 = [2, 0, 0, 0] ∧
        memReadBytes t.host.mem (laneStatusAddr t l + 4) 1 = le 1 (s.lane l).state.ctorIdx ∧
        statusShows t l) ∧
      t.licences = s.licences ∧ t.clockUnit = s.clockUnit ∧ t.inputs = s.inputs ∧
      t.engine = s.engine ∧ t.pending = s.pending := by
  obtain ⟨t, ht, hdev, hreason, hhi, hlo, hatt, hj, hheader, hstate, hcount, hhead, hlanes, hrest⟩ :=
    acceptTable_runs (u := { applyActs acts s with tableHi := v }) halign hread h0 h8 hw hs
  have hexec : exec (.tableBaseHiWrite v acts) s = .next (noteChanges s t) := by
    refine congrArg (fun x => Host.Outcome.next (noteChanges s x)) ?_
    rw [writeBaseHi_waitTable v (show (applyActs acts s).device = .waitTable from hd)]
    exact ht
  refine ⟨_, hexec, hdev, hreason, hhi, hlo, hatt, hj, hheader, hstate, hcount, hhead, fun l => ?_, hrest⟩
  obtain ⟨hbare, htwo, hstands⟩ := hlanes l
  obtain ⟨n, hn⟩ := eq_of_bare hbare
  have hst : (t.lane l).state = (s.lane l).state := by rw [hn]; rfl
  have hbytes := hstands.count
  have hbyte := hstands.state
  rw [htwo, show le 4 2 = [2, 0, 0, 0] by decide] at hbytes
  rw [hst] at hbyte
  refine ⟨hbare, htwo, hbytes, hbyte, RecordStands.shows (s := noteChanges s t) hstands ?_⟩
  rw [noteChanges_lane, hn]
  exact hs.lane l

/-- A table that fails a check leaves the device in WAIT_TABLE with the check's name. -/
theorem acceptTable_fails (u : State) (hd : u.device = .waitTable) :
    (tableAddr u % 4096 ≠ 0 → (acceptTable u).device = .waitTable ∧ (acceptTable u).reason = .align) ∧
    (tableAddr u % 4096 = 0 → hostRead u.host (tableAddr u) 64 = none →
      (acceptTable u).device = .waitTable ∧ (acceptTable u).reason = .read) ∧
    (tableAddr u % 4096 = 0 →
      (∃ bs, hostRead u.host (tableAddr u) 64 = some bs ∧ (field bs 0 2 ≠ 1 ∨ field bs 8 2 ≠ 0)) →
      (acceptTable u).device = .waitTable ∧ (acceptTable u).reason = .layout) ∧
    (tableAddr u % 4096 = 0 →
      (∃ bs, hostRead u.host (tableAddr u) 64 = some bs ∧ field bs 0 2 = 1 ∧ field bs 8 2 = 0) →
      (∃ w ∈ firstAreas, accessFails u.host.writeFails (tableAddr u + w.1) w.2 = true) →
      (acceptTable u).device = .waitTable ∧ (acceptTable u).reason = .write) ∧
    ((acceptTable u).device = .waitTable ∨ (acceptTable u).device = .running) ∧
    (acceptTable u).licences = u.licences := by
  obtain ⟨halign, hnone, hsome⟩ := acceptTable_cases u
  have hwritten := makeFirstWrites_written (freshTable { u with hiStored := false })
  obtain ⟨m, n, ls, hw⟩ := hwritten.rest
  have hfail (r : DeviceReason) (w : State) (hwd : w.device = .waitTable) (h : acceptTable u = setReason r w) :
      (acceptTable u).device = .waitTable ∧ (acceptTable u).reason = r := by
    obtain ⟨hr, hdev, _⟩ := setReason_fields r w
    rw [h]
    exact ⟨hdev.trans hwd, hr⟩
  have hmade : (makeFirstWrites (freshTable { u with hiStored := false })).device = .waitTable := by rw [hw]; exact hd
  refine ⟨fun h => hfail _ { u with hiStored := false } hd (halign h), fun h hr => hfail _ { u with hiStored := false } hd (hnone h hr),
    fun h ⟨bs, hr, hl⟩ => hfail _ { u with hiStored := false } hd ((hsome bs h hr).1 hl),
    fun h ⟨bs, hr, h0, h8⟩ ⟨w, hwm, hwf⟩ => hfail .write _ hmade ?_, ?_⟩
  · refine ((hsome bs h hr).2 h0 h8).trans (if_neg fun hok => ?_)
    exact absurd (((firstWritesOk_iff _).1 hok w hwm).symm.trans hwf) Bool.false_ne_true
  · have hkeep (r : DeviceReason) (w : State) (hwd : w.device = .waitTable) (hl : w.licences = u.licences)
        (h : acceptTable u = setReason r w) :
        ((acceptTable u).device = .waitTable ∨ (acceptTable u).device = .running) ∧
          (acceptTable u).licences = u.licences := by
      obtain ⟨_, hdev, hlic⟩ := setReason_fields r w
      rw [h]
      exact ⟨.inl (hdev.trans hwd), hlic.trans hl⟩
    have hmadeLic : (makeFirstWrites (freshTable { u with hiStored := false })).licences = u.licences := by rw [hw]; rfl
    by_cases h : tableAddr u % 4096 = 0
    · cases hr : hostRead u.host (tableAddr u) 64 with
      | none => exact hkeep _ { u with hiStored := false } hd rfl (hnone h hr)
      | some bs =>
        obtain ⟨hlay, hrun⟩ := hsome bs h hr
        by_cases hl : field bs 0 2 ≠ 1 ∨ field bs 8 2 ≠ 0
        · exact hkeep _ { u with hiStored := false } hd rfl (hlay hl)
        · obtain ⟨h0, h8⟩ := not_or.1 hl
          have heq := hrun (not_not.1 h0) (not_not.1 h8)
          by_cases hok : firstWritesOk { u with hiStored := false } = true
          · rw [if_pos hok, enterRunning_eq] at heq
            rw [heq]
            exact ⟨.inr rfl, hmadeLic⟩
          · rw [if_neg hok] at heq
            exact hkeep _ _ hmade hmadeLic heq
    · exact hkeep _ { u with hiStored := false } hd rfl (halign h)

theorem baseHi_elsewhere (v : Word32) (acts : HostActs) (s : State) :
    (s.device = .waitClock →
      exec (.tableBaseHiWrite v acts) s =
        .next { s with host := hostActs s.host acts, tableHi := v, hiStored := true }) ∧
    (s.device = .reset ∨ s.device = .running ∨ s.device = .halted →
      exec (.tableBaseHiWrite v acts) s = .next { s with host := hostActs s.host acts }) := by
  have hexec {t : State} (h : writeBaseHi v (applyActs acts s) = t) (hl : t.lanes = s.lanes)
      (he : t.engine = s.engine) (hlic : t.licences = s.licences) (hc : t.recordChanged = s.recordChanged) :
      exec (.tableBaseHiWrite v acts) s = .next t :=
    congrArg Host.Outcome.next ((congrArg (noteChanges s) h).trans (noteChanges_eq_self hl he hlic hc))
  exact ⟨fun hd => hexec (writeBaseHi_waitClock v (u := applyActs acts s) hd) rfl rfl rfl rfl,
    fun hd => hexec (writeBaseHi_elsewhere v (u := applyActs acts s) hd) rfl rfl rfl rfl⟩

end Sys2Proof.Machine
end

section
/-! The Lane Status Record at the boundaries of its lane, and the notes of the other commands (R176). -/

namespace Sys2Proof.Machine

theorem laneState_of_body {s t : State} {l : LaneId} (h : laneStatusBody s l = laneStatusBody t l) :
    (s.lane l).state = (t.lane l).state := by
  have hbyte : le 1 (s.lane l).state.ctorIdx = le 1 (t.lane l).state.ctorIdx := by
    rw [← laneStatusBody_take, ← laneStatusBody_take, h]
  revert hbyte
  cases (s.lane l).state <;> cases (t.lane l).state <;> decide

/-- The record is written at the boundary of a lane that is not EMPTY, and of one whose fields have changed. -/
theorem boundaryStatus_writes {l : LaneId} {s t : State} (hd : t.device = .running)
    (h : (t.lane l).state ≠ .empty ∨ s.recordChanged.get l = true ∨ laneStatusBody t l ≠ laneStatusBody s l) :
    boundaryStatus l s t =
      { laneStatusNow l (noteChanges s t) with recordChanged := (noteChanges s t).recordChanged.set l false } := by
  have hwrite : ¬ ((noteChanges s t).lane l).state = .empty ∨ ¬ (noteChanges s t).recordChanged.get l = false := by
    rcases h with h | h | h
    · exact .inl h
    · exact .inr (by rw [noteChanges_recordChanged, h, Bool.true_or]; decide)
    · refine .inr ?_
      have hne : laneStatusBody s l ≠ laneStatusBody t l := fun he => h he.symm
      rw [noteChanges_recordChanged, recordDiffers, decide_eq_true hne, Bool.or_true]
      decide
  unfold boundaryStatus
  dsimp only
  rw [if_neg (not_and_or.2 hwrite), writeLaneStatus, if_pos (show (noteChanges s t).device = .running from hd)]
  rfl

theorem boundaryStatus_stands {l : LaneId} {s t : State} (hd : t.device = .running) (hs : laneShapeOk (t.lane l))
    (h : (t.lane l).state ≠ .empty ∨ s.recordChanged.get l = true ∨ laneStatusBody t l ≠ laneStatusBody s l) :
    RecordStands l (boundaryStatus l s t) ∧ (boundaryStatus l s t).recordChanged.get l = false ∧
      (boundaryStatus l s t).lane l = { t.lane l with statusCount := nextCount (t.lane l).statusCount } := by
  rw [boundaryStatus_writes hd h]
  refine ⟨laneStatusNow_stands (s := noteChanges s t) hs, Quad.get_set_self _ _ _, ?_⟩
  exact laneStatusNow_lane_self l (noteChanges s t)

/-- A boundary that finds nothing to write in an EMPTY lane's record. -/
theorem boundaryStatus_rests {l : LaneId} {s t : State} (he : (t.lane l).state = .empty)
    (hc : s.recordChanged.get l = false) (hb : laneStatusBody t l = laneStatusBody s l) :
    boundaryStatus l s t =
      { noteChanges s t with recordChanged := (noteChanges s t).recordChanged.set l false } := by
  have hnone : (noteChanges s t).recordChanged.get l = false := by
    rw [noteChanges_recordChanged, hc, recordDiffers, hb]
    exact decide_eq_false (not_not.2 rfl)
  unfold boundaryStatus
  dsimp only
  rw [if_pos ⟨he, hnone⟩]

theorem boundaryStatus_body (l : LaneId) (s t : State) :
    laneStatusBody (boundaryStatus l s t) l = laneStatusBody t l := by
  refine laneStatusBody_congr (boundaryStatus_bare l s t) ?_ ?_
  · unfold boundaryStatus
    dsimp only
    split
    · rfl
    · exact writeLaneStatus_licences l (noteChanges s t)
  · unfold boundaryStatus
    dsimp only
    split
    · rfl
    · exact writeLaneStatus_engine l (noteChanges s t)

theorem boundaryBody_running {l : LaneId} {s : State} (hd : s.device = .running) :
    (boundaryBody l s).device = .running := by
  have h := (boundaryBody_work (l := l) (s := s) (more := partAreas (s.lane l)) (List.Subset.refl _)).rest
  obtain ⟨_, ⟨hdev, _⟩, _⟩ := h
  exact hdev.trans hd

theorem boundaryBody_shape {l : LaneId} {s : State} (hs : shapeOk s) : shapeOk (boundaryBody l s) :=
  (boundaryBody_work (l := l) (s := s) (more := partAreas (s.lane l)) (List.Subset.refl _)).keeps.shapeOk hs

/-- At the boundary of a lane that is not EMPTY the record is written before the look. -/
theorem boundary_shows {l : LaneId} {s : State} (hc : s.clockUnit.source ≠ .acquiring) (hd : s.device = .running)
    (hs : shapeOk s) (he : (s.lane l).state ≠ .empty) :
    ∃ u, exec (.frameBoundary l) s = .next (boundaryLook l false u) ∧ statusShows u l ∧
      u.recordChanged.get l = false := by
  refine ⟨boundaryStatus l s (boundaryBody l s), congrArg Host.Outcome.next (boundary_eq hc), ?_⟩
  have hshape := (boundaryBody_shape (l := l) hs).lane l
  have hwrite : ((boundaryBody l s).lane l).state ≠ .empty ∨ s.recordChanged.get l = true ∨
      laneStatusBody (boundaryBody l s) l ≠ laneStatusBody s l := by
    by_cases hb : laneStatusBody (boundaryBody l s) l = laneStatusBody s l
    · exact .inl (by rw [laneState_of_body hb]; exact he)
    · exact .inr (.inr hb)
  obtain ⟨hstands, hnone, hlane⟩ := boundaryStatus_stands (boundaryBody_running hd) hshape hwrite
  exact ⟨hstands.shows (by rw [hlane]; exact hshape), hnone⟩

/-! ## An EMPTY lane's boundary -/

/-- A lane after the count of its closing window (R101). -/
def windowLane (x : Lane) : Lane :=
  if x.tally.phase = .closing then
    if Config.windowLength ≤ x.tally.window + 1 then
      closedLane { x with tally := { x.tally with window := x.tally.window + 1 } }
    else { x with tally := { x.tally with window := x.tally.window + 1 } }
  else x

theorem windowTick_lane_self (l : LaneId) (s : State) : (windowTick l s).lane l = windowLane (s.lane l) := by
  unfold windowTick windowLane
  split
  · dsimp only
    split
    · rw [closeTally_lane, modTally, State.lane_modLane_self]
    · rw [modTally, State.lane_modLane_self]
  · rfl

theorem windowLane_eq (x : Lane) : ∃ t k i, windowLane x = { x with tally := t, link := k, indicators := i } := by
  unfold windowLane
  split
  · split
    · obtain ⟨k, i, h⟩ := closedLane_eq { x with tally := { x.tally with window := x.tally.window + 1 } }
      exact ⟨_, k, i, h⟩
    · exact ⟨_, _, _, rfl⟩
  · exact ⟨_, _, _, rfl⟩

theorem playSamples_eq (n : Nat) (x : Lane) :
    ∃ i, playSamples n x = { x with indicators := i, sound := advanceSound n x.sound } := by
  obtain ⟨i, h⟩ := setIndicatorIf_eq (decide (clipsAhead x.sound n ≠ 0)) .clip x
  exact ⟨i, by rw [playSamples, h]⟩

theorem liftWaits_eq (x : Lane) : ∃ tr o, liftWaits x = { x with tracks := tr, overlay := o } := by
  unfold liftWaits
  split
  · exact ⟨_, _, rfl⟩
  · exact ⟨_, _, rfl⟩

theorem beginBoundary_eq (x : Lane) :
    ∃ i so tr o, beginBoundary x = { x with indicators := i, sound := so, tracks := tr, overlay := o } := by
  obtain ⟨i, h⟩ := playSamples_eq (x.sound.periodLen - x.sound.periodPos) x
  have hend : ∃ so, endPeriod x = { x with indicators := i, sound := so } := ⟨_, by rw [endPeriod, h]⟩
  obtain ⟨so, hend⟩ := hend
  obtain ⟨tr, o, hlift⟩ := liftWaits_eq (swapStaged (endPeriod x))
  rw [beginBoundary, hlift, swapStaged_eq, hend]
  exact ⟨_, _, _, _, rfl⟩

/-- The boundary's own work on a lane without show work: the record, or a step of the link test. -/
theorem boundaryWork_idle {l : LaneId} {s : State} (h : (s.lane l).state = .empty) :
    boundaryWork l s = idleRecord l s := by
  unfold boundaryWork
  rw [h]

theorem boundaryBody_empty {l : LaneId} {s : State} (h : (s.lane l).state = .empty) :
    ((boundaryBody l s).lane l).state = .empty ∧
      ((boundaryBody l s).lane l).statusCount = (s.lane l).statusCount := by
  obtain ⟨i, so, tr, o, hbegin⟩ := beginBoundary_eq (s.lane l)
  obtain ⟨t, k, i', hwin⟩ := windowLane_eq (beginBoundary (s.lane l))
  have hlane : (windowTick l (s.modLane l beginBoundary)).lane l = windowLane (beginBoundary (s.lane l)) := by
    rw [windowTick_lane_self, State.lane_modLane_self]
  have hstate : ((windowTick l (s.modLane l beginBoundary)).lane l).state = .empty := by
    rw [hlane, hwin, hbegin]
    exact h
  obtain ⟨t', k', i'', o', hlink⟩ := linkBoundary_lane l blackClosed
    (clearUpdates ((windowTick l (s.modLane l beginBoundary)).lane l).overlay.tileMap) []
    (windowTick l (s.modLane l beginBoundary))
  rw [boundaryBody, boundaryWork_idle hstate, State.lane_modLane_self, idleRecord, hlink, hlane, hwin, hbegin]
  exact ⟨h, rfl⟩

/-- Work that changes host memory in the report areas alone. -/
structure ReportsOnly (s t : State) : Prop where
  shape : shapeOk s → shapeOk t
  areas : reportAreas t = reportAreas s
  mem : shapeOk s → memKept (reportAreas s) s t

namespace ReportsOnly

theorem refl (s : State) : ReportsOnly s s := ⟨id, rfl, fun _ => .refl _ s⟩

theorem trans {s t u : State} (h : ReportsOnly s t) (k : ReportsOnly t u) : ReportsOnly s u where
  shape := k.shape ∘ h.shape
  areas := k.areas.trans h.areas
  mem hs := (h.mem hs).trans (h.areas ▸ k.mem (h.shape hs))

theorem of_told {s t : State} (h : Told s t) : ReportsOnly s t := ⟨h.keeps.shapeOk, h.reported.reportAreas, h.memKept⟩

/-- Work of a lane that leaves host memory alone. -/
theorem of_work {l : LaneId} {s t : State} (h : LaneWork l [] s t) (hm : t.host = s.host) : ReportsOnly s t where
  shape := h.keeps.shapeOk
  areas := by
    have hr := h.rest.2.1.tableAddr
    simp only [reportAreas, journalAddr, deviceStatusAddr, hr]
  mem _ := memKept_of_host hm

end ReportsOnly

theorem closeTally_reports (l : LaneId) (w : WayClosed) (s : State) : ReportsOnly s (closeTally l w s) := by
  have hclose : ReportsOnly s ((releaseAll (reservedLicences (s.lane l).tally) s).modLane l closedLane) :=
    .of_work ((modLicences_work _ l [] s).trans (.modLane [] (closedLane_keeps _) (closedLane_state _))) rfl
  unfold closeTally
  dsimp only
  split
  · exact hclose
  · exact hclose.trans (.of_told (offer_told _ _))

theorem windowTick_reports (l : LaneId) (s : State) : ReportsOnly s (windowTick l s) := by
  have hcount : ReportsOnly s (modTally l (fun t => { t with window := t.window + 1 }) s) :=
    .of_work (.modLane [] (.of_tally rfl id) rfl) rfl
  unfold windowTick
  split
  · dsimp only
    split
    · exact hcount.trans (closeTally_reports l .expired _)
    · exact hcount
  · exact .refl s

/-- A change of the lane's fields in a form that its record can show. -/
theorem ReportsOnly.modLane {l : LaneId} {s : State} {f : Lane → Lane}
    (h : laneShapeOk (s.lane l) → laneShapeOk (f (s.lane l))) : ReportsOnly s (s.modLane l f) where
  shape hs := ⟨hs.1, hs.2.1, (everyLane_iff _ _).2 (forall_lane_of_self (s := s) (t := s.modLane l f)
    (P := fun x y => laneShapeOk x → laneShapeOk y) (fun _ => id) (by rw [State.lane_modLane_self]; exact h)
    (fun _ hm => State.lane_modLane_ne _ _ hm) · (hs.lane _))⟩
  areas := rfl
  mem _ := memKept_of_host rfl

theorem checkDrained_reports (l : LaneId) (s : State) : ReportsOnly s (checkDrained l s) := by
  unfold checkDrained
  split
  · exact closeTally_reports l .drained s
  · exact .refl s

theorem testBoundary_reports (l : LaneId) (s : State) : ReportsOnly s (testBoundary l s) := by
  have hmod (f : Link → Link) (u : State) : ReportsOnly u (modLink l f u) := .modLane id
  unfold testBoundary
  dsimp only
  split
  · exact hmod _ s
  · split
    · exact ((hmod _ s).trans (hmod _ _)).trans (.of_told (offer_told _ _))
    · exact hmod _ s

theorem linkBoundary_reports (l : LaneId) (pic : Picture) (tiles : List TileUpdate) (map : List Nat) (s : State) :
    ReportsOnly s (linkBoundary l pic tiles map s) := by
  unfold linkBoundary
  split
  · exact ((ReportsOnly.modLane (makeRoom_apart _).shape).trans (checkDrained_reports l _)).trans (.modLane id)
  · exact testBoundary_reports l s
  · exact .modLane id
  · exact .modLane id

theorem boundaryBody_reports {l : LaneId} {s : State} (h : (s.lane l).state = .empty) :
    ReportsOnly s (boundaryBody l s) := by
  have hbegin : ReportsOnly s (s.modLane l beginBoundary) := .of_work (beginBoundary_work l [] s) rfl
  have hstate : ((windowTick l (s.modLane l beginBoundary)).lane l).state = .empty := by
    obtain ⟨t, k, i, hwin⟩ := windowLane_eq (beginBoundary (s.lane l))
    rw [windowTick_lane_self, State.lane_modLane_self, hwin]
    exact (beginBoundary_state _).trans h
  rw [boundaryBody, boundaryWork_idle hstate]
  exact ((hbegin.trans (windowTick_reports l _)).trans (linkBoundary_reports l _ _ _ _)).trans (.modLane id)

/-- At the boundary of an EMPTY lane the record is written where it has changed, and only there. -/
theorem emptyBoundary_shows {l : LaneId} {s : State} (hc : s.clockUnit.source ≠ .acquiring) (hd : s.device = .running)
    (hs : shapeOk s) (he : (s.lane l).state = .empty) :
    ∃ u, exec (.frameBoundary l) s = .next u ∧ u.recordChanged.get l = false ∧
      (s.recordChanged.get l = true ∨ laneStatusBody u l ≠ laneStatusBody s l →
        (u.lane l).statusCount = ((s.lane l).statusCount + 2) % 2 ^ 32 ∧ statusShows u l) ∧
      (s.recordChanged.get l = false → laneStatusBody u l = laneStatusBody s l →
        (u.lane l).statusCount = (s.lane l).statusCount ∧ memKept (reportAreas s) s u) := by
  obtain ⟨hstate, hcount⟩ := boundaryBody_empty he
  have hafter : ((boundaryStatus l s (boundaryBody l s)).lane l).state = .empty := by
    have hbare := boundaryStatus_bare l s (boundaryBody l s)
    obtain ⟨n, hn⟩ := eq_of_bare hbare
    rw [hn]
    exact hstate
  have hlook : boundaryLook l false (boundaryStatus l s (boundaryBody l s)) =
      boundaryStatus l s (boundaryBody l s) := by
    rw [boundaryLook, if_neg (by rw [hafter]; exact fun h => nomatch h.2), noteChanges_self]
  refine ⟨boundaryStatus l s (boundaryBody l s),
    congrArg Host.Outcome.next ((boundary_eq hc).trans hlook), ?_, fun h => ?_, fun hrc hb => ?_⟩
  · exact Quad.get_set_self _ _ _
  · rw [boundaryStatus_body] at h
    have hshape := (boundaryBody_shape (l := l) hs).lane l
    obtain ⟨hstands, _, hlane⟩ := boundaryStatus_stands (boundaryBody_running hd) hshape (.inr h)
    refine ⟨?_, hstands.shows (by rw [hlane]; exact hshape)⟩
    rw [hlane, ← hcount]
    rfl
  · rw [boundaryStatus_body] at hb
    rw [boundaryStatus_rests hstate hrc hb]
    exact ⟨hcount, (boundaryBody_reports he).mem hs⟩

/-! ## Every other command notes what it changes -/

/-- A command that is no boundary ends with the notes of its changes. -/
theorem exec_notes {c : Instr} {s t : State} (hb : isBoundary c = false) (ht : exec c s = .next t) :
    ∃ u, t = noteChanges s u := by
  cases c
  case frameBoundary | primed | seekPrimed | holdTaken | starveLimitExpiry | linkGraceExpiry | holdLimitExpiry |
      closingWindowExpired | linkTestComplete => cases hb
  all_goals exact ⟨_, (Host.Outcome.next.inj ht).symm⟩

theorem exec_recordChanged {c : Instr} {l : LaneId} {s t : State} (hb : isBoundary c = false)
    (ht : exec c s = .next t) :
    t.recordChanged.get l = true ↔ s.recordChanged.get l = true ∨ laneStatusBody t l ≠ laneStatusBody s l := by
  obtain ⟨u, rfl⟩ := exec_notes hb ht
  rw [noteChanges_recordChanged, Bool.or_eq_true, recordDiffers, decide_eq_true_iff]
  exact or_congr_right ne_comm

/-- Settles O18: the acceptance by its checks and first writes, the records by their bytes. -/
theorem tableAcceptanceRunsOrFailsByName : Obligations.TableAcceptanceRunsOrFailsByName := by
  unfold Obligations.TableAcceptanceRunsOrFailsByName
  refine ⟨fun v acts s bs hd halign hread h0 h8 hw hs => baseHi_runs hd halign hread h0 h8 hw hs,
    fun v acts s => ⟨fun hd => ⟨noteChanges s (acceptTable { applyActs acts s with tableHi := v }), ?_,
      acceptTable_fails { applyActs acts s with tableHi := v } hd⟩, baseHi_elsewhere v acts s⟩,
    fun _ _ => boundary_shows, fun _ _ => emptyBoundary_shows, fun _ _ _ _ => exec_recordChanged⟩
  exact congrArg (fun x => Host.Outcome.next (noteChanges s x))
    (writeBaseHi_waitTable v (u := applyActs acts s) hd)

end Sys2Proof.Machine
end

section
/-! The service of a request slot (R174, R175): what a command of a lane's slot leaves, from what its request
makes of the state in which the slot is marked TAKEN. -/

namespace Sys2Proof.Machine

/-! ## The commands of a lane's slot -/

theorem exec_laneRequest {l : LaneId} {rq : Req} {kind : Nat} {c : Instr} (hc : (kind, c) ∈ laneRequests l rq)
    (s : State) :
    kindKnown (.lane l) kind = true ∧
      exec c s = .next (noteChanges s (serve (.lane l) kind rq false s)) := by
  simp only [laneRequests, List.mem_cons, List.not_mem_nil, or_false, Prod.mk.injEq] at hc
  rcases hc with ⟨rfl, rfl⟩ | ⟨rfl, rfl⟩ | ⟨rfl, rfl⟩ | ⟨rfl, rfl⟩ | ⟨rfl, rfl⟩ | ⟨rfl, rfl⟩ | ⟨rfl, rfl⟩ |
    ⟨rfl, rfl⟩ | ⟨rfl, rfl⟩ | ⟨rfl, rfl⟩ | ⟨rfl, rfl⟩ | ⟨rfl, rfl⟩ | ⟨rfl, rfl⟩ | ⟨rfl, rfl⟩ | ⟨rfl, rfl⟩ |
    ⟨rfl, rfl⟩ | ⟨rfl, rfl⟩
  all_goals exact ⟨rfl, rfl⟩

theorem exec_deviceRequest {rq : Req} {agrees : Bool} {kind : Nat} {c : Instr}
    (hc : (kind, c) ∈ deviceRequests rq agrees) (s : State) :
    kindKnown .device kind = true ∧
      ∃ b, exec c s = .next (noteChanges s (serve .device kind rq b s)) ∧
        ∀ r, serve .device kind rq agrees r = serve .device kind rq b r := by
  simp only [deviceRequests, List.mem_cons, List.not_mem_nil, or_false, Prod.mk.injEq] at hc
  rcases hc with ⟨rfl, rfl⟩ | ⟨rfl, rfl⟩ | ⟨rfl, rfl⟩ | ⟨rfl, rfl⟩ | ⟨rfl, rfl⟩ | ⟨rfl, rfl⟩ | ⟨rfl, rfl⟩ |
    ⟨rfl, rfl⟩ | ⟨rfl, rfl⟩
  all_goals exact ⟨rfl, _, rfl, fun _ => rfl⟩

theorem serve_running {n : SlotId} {kind : Nat} {rq : Req} {agrees : Bool} {s : State} (h : s.device = .running) :
    serve n kind rq agrees s = writeAnswer n kind rq (judgeRequest n kind rq agrees (markTaken n s)) := if_pos h

theorem serve_idle {n : SlotId} {kind : Nat} {rq : Req} {agrees : Bool} {s : State} (h : s.device ≠ .running) :
    serve n kind rq agrees s = s := if_neg h

/-! ## The answer -/

/-- Bytes of a slot stand when a Lane Status Record is written. -/
theorem writeLaneStatus_slot {l : LaneId} {s : State} (n : SlotId) :
    memReadBytes (writeLaneStatus l s).host.mem (slotAddr s n) 64 = memReadBytes s.host.mem (slotAddr s n) 64 := by
  unfold writeLaneStatus
  split
  · refine memReadBytes_memWrite_outside (.inl ?_)
    have hn : slotIndex n ≤ 4 := by
      cases n with
      | lane m => cases m <;> decide
      | device => decide
    simp only [slotAddr, laneStatusAddr]
    omega
  · rfl

theorem attention_set (w : BitVec 7) (n : SlotId) : (w ||| attentionBit (slotIndex n)) &&& attentionBit (slotIndex n) ≠ 0 := by
  have hbit : attentionBit (slotIndex n) ≠ 0 := by
    cases n with
    | lane m => cases m <;> decide
    | device => decide
  intro h
  apply hbit
  rw [← h]
  ext i hi
  simp only [BitVec.getElem_and, BitVec.getElem_or]
  cases (attentionBit (slotIndex n))[i] <;> simp

/-- A command of slot `n` with the answer `a`, from the state `w` that its request leaves. -/
structure Answers (n : SlotId) (kind : Nat) (rq : Req) (a : Answer) (w t : State) : Prop where
  answer : answered n kind rq a w t
  lane : ∀ m, bare (t.lane m) = bare (w.lane m)
  others : ∀ m, n ≠ .lane m → t.lane m = w.lane m
  registers : registersKept w t
  units : unitsKept w t
  licences : t.licences = w.licences
  clockUnit : t.clockUnit = w.clockUnit
  unreported : unreported w t

theorem writeAnswer_answers (n : SlotId) (kind : Nat) (rq : Req) (a : Answer) (s w : State) :
    Answers n kind rq a w (noteChanges s (writeAnswer n kind rq (w, a))) := by
  have hput : memReadBytes (memWrite w.host.mem (slotAddr w n) (answerBytes kind rq a)) (slotAddr w n) 64 =
      answerBytes kind rq a := by
    have := memReadBytes_memWrite_self w.host.mem (slotAddr w n) (answerBytes kind rq a)
    rwa [answerBytes_length] at this
  cases n with
  | device =>
    exact ⟨⟨hput, attention_set _ .device⟩, fun _ => rfl, fun _ _ => rfl, .refl w, ⟨rfl, rfl, rfl, rfl⟩, rfl, rfl,
      ⟨rfl, rfl⟩⟩
  | lane l =>
    generalize hu : setAttention (slotIndex (.lane l)) (putBytes (slotAddr w (.lane l)) (answerBytes kind rq a) w) = u
    have ht : writeAnswer (.lane l) kind rq (w, a) = writeLaneStatus l u := by rw [← hu]; rfl
    have huw : ∃ m at', u = { w with host := { w.host with mem := m }, attention := at' } := ⟨_, _, hu.symm⟩
    have hbytes : memReadBytes u.host.mem (slotAddr u (.lane l)) 64 = answerBytes kind rq a := by
      rw [← hu]
      exact hput
    have hatt : u.attention &&& attentionBit (slotIndex (.lane l)) ≠ 0 := by
      rw [← hu]
      exact attention_set _ _
    have hsame : ∃ m ls, writeLaneStatus l u = { u with host := { u.host with mem := m }, lanes := ls } := by
      unfold writeLaneStatus
      split
      · exact ⟨_, _, rfl⟩
      · exact ⟨_, _, rfl⟩
    have hslot := writeLaneStatus_slot (l := l) (s := u) (.lane l)
    rw [hbytes] at hslot
    have hother (m : LaneId) (hm : m ≠ l) := writeLaneStatus_lane_ne u hm
    have hself := writeLaneStatus_bare l u
    obtain ⟨m, at', rfl⟩ := huw
    obtain ⟨m', ls, hrest⟩ := hsame
    rw [ht]
    refine ⟨⟨hslot, ?_⟩, fun k => ?_, fun k hk => hother k fun h => hk (h ▸ rfl), ?_, ?_, ?_, ?_, ?_⟩
    · show (writeLaneStatus l _).attention &&& _ ≠ 0
      rw [hrest]
      exact hatt
    · by_cases hk : k = l
      · rw [hk]
        exact hself
      · exact congrArg bare (hother k hk)
    all_goals rw [hrest]
    · exact .refl w
    · exact ⟨rfl, rfl, rfl, rfl⟩
    · rfl
    · rfl
    · exact ⟨rfl, rfl⟩

/-! ## A request of a lane that reaches its owner -/

/-- The answer and the frame of a lane's request, whose work has left the state `w`. -/
structure LaneServing (l : LaneId) (kind : Nat) (rq : Req) (a : Answer) (more : List (Nat × Nat))
    (s w t : State) : Prop where
  served : laneServed l kind rq a more s t
  lane : bare (t.lane l) = bare (w.lane l)
  licences : t.licences = w.licences
  clockUnit : t.clockUnit = w.clockUnit
  unreported : unreported w t

theorem requestAreas_subset (s : State) (l : LaneId) (more : List (Nat × Nat)) :
    eventAreas s l ++ slotArea s (.lane l) :: more ⊆ requestAreas s l ++ more := by
  intro r hr
  simp only [eventAreas, requestAreas, List.mem_append, List.mem_cons] at hr ⊢
  tauto

theorem writeAnswer_serving {l : LaneId} {kind : Nat} {rq : Req} {a : Answer} {more : List (Nat × Nat)}
    {s w : State} (hwork : LaneWork l (slotArea s (.lane l) :: more) (markTaken (.lane l) s) w) :
    LaneServing l kind rq a more s w (noteChanges s (writeAnswer (.lane l) kind rq (w, a))) := by
  have hslot : slotArea s (.lane l) ∈ slotArea s (.lane l) :: more := List.mem_cons_self
  have hto := (markTaken_work (.lane l) hslot).trans hwork
  have haddr := slotAddr_of_registers hto.rest.2.1 (.lane l)
  have hall := (hto.trans (writeAnswer_work (r := (w, a)) kind rq (by show (slotAddr w (.lane l), 64) ∈ _; rw [haddr]; exact hslot))).trans
    (noteChanges_work l _ s _)
  have hans := writeAnswer_answers (.lane l) kind rq a s w
  refine ⟨⟨?_, hall.rest, fun hs => (hall.mem hs).mono (requestAreas_subset s l more)⟩, hans.lane l, hans.licences,
    hans.clockUnit, hans.unreported⟩
  have := hans.answer
  rwa [answered, haddr] at this

theorem serveLane {l : LaneId} {kind : Nat} {rq : Req} {c : Instr} (hc : (kind, c) ∈ laneRequests l rq) {s : State}
    (hd : s.device = .running) {b : List Byte} (hb : blockCopy (.lane l) rq s = .ok b) {w : State} {a : Answer}
    (hw : laneRequest l kind rq b (markTaken (.lane l) s) = some (w, a)) {more : List (Nat × Nat)}
    (hwork : LaneWork l (slotArea s (.lane l) :: more) (markTaken (.lane l) s) w) :
    ∃ t, exec c s = .next t ∧ LaneServing l kind rq a more s w t := by
  obtain ⟨hk, hexec⟩ := exec_laneRequest hc s
  refine ⟨_, hexec, ?_⟩
  have hjudge : judgeRequest (.lane l) kind rq false (markTaken (.lane l) s) = (w, a) := by
    unfold judgeRequest
    rw [hk, show readBlock (markTaken (.lane l) s).host rq = .ok b from hb]
    exact congrArg (Option.getD · _) hw
  rw [serve_running hd, hjudge]
  exact writeAnswer_serving hwork

/-- A request that is refused: nothing of the lane changes, and nothing is reported. -/
theorem serveLane_refused {l : LaneId} {kind : Nat} {rq : Req} {c : Instr} (hc : (kind, c) ∈ laneRequests l rq)
    {s : State} (hr : reaches (.lane l) rq s) {a : Answer}
    (hw : ∀ b, blockCopy (.lane l) rq s = .ok b →
      laneRequest l kind rq b (markTaken (.lane l) s) = some (markTaken (.lane l) s, a)) :
    ∃ t, exec c s = .next t ∧ laneRefused l kind rq a s t ∧ t.clockUnit = s.clockUnit ∧ unreported s t := by
  obtain ⟨hd, b, hb⟩ := hr
  obtain ⟨t, ht, hserving⟩ := serveLane hc hd hb (hw b hb) (more := []) (.refl l _ _)
  exact ⟨t, ht, ⟨hserving.lane, hserving.licences, hserving.served⟩, hserving.clockUnit, hserving.unreported⟩

/-! ## Requests that are answered before they reach their owner (R175) -/

/-- The Lane Status Record that an answer in slot `n` is followed by. -/
def ownRecord (s : State) : SlotId → List (Nat × Nat)
  | .lane l => [statusArea s l]
  | .device => []

/-- What an answer changes where nothing else does: the slot, ATTENTION and the lane's own record. -/
theorem writeAnswer_memKept (n : SlotId) (kind : Nat) (rq : Req) (a : Answer) {s : State} (hs : shapeOk s) :
    memKept (slotArea s n :: ownRecord s n) s
      (noteChanges s (writeAnswer n kind rq (markTaken n s, a))) := by
  have htaken := putBytes_memKept (slotAddr s n) [2] s
  have hput := putBytes_memKept (slotAddr s n) (answerBytes kind rq a) (markTaken n s)
  rw [answerBytes_length] at hput
  have hslot : memKept [slotArea s n] s (putBytes (slotAddr s n) (answerBytes kind rq a) (markTaken n s)) := by
    refine memKept.trans ⟨fun x hx => htaken.1 x fun r hr => ?_, htaken.2⟩ hput
    obtain rfl := List.mem_singleton.1 hr
    have := hx _ List.mem_cons_self
    simp only [slotArea, List.length_singleton] at this ⊢
    omega
  cases n with
  | device => exact hslot
  | lane l =>
    generalize hu : setAttention (slotIndex (.lane l))
      (putBytes (slotAddr s (.lane l)) (answerBytes kind rq a) (markTaken (.lane l) s)) = u
    have hlane : laneShapeOk (u.lane l) := by rw [← hu]; exact hs.lane l
    have hbase : statusArea u l = statusArea s l := by rw [← hu]; rfl
    have hfirst : memKept [slotArea s (.lane l), statusArea s l] s u := by
      rw [← hu]
      exact hslot.mono (List.cons_subset_cons _ (List.nil_subset _))
    have hlast : memKept [slotArea s (.lane l), statusArea s l] u (writeLaneStatus l u) := by
      unfold writeLaneStatus
      split
      · have hw := putBytes_memKept (laneStatusAddr u l) (le 4 (nextCount (u.lane l).statusCount) ++ laneStatusBody u l) u
        rw [List.length_append, le_length, laneStatusBody_length hlane] at hw
        have hsame : [statusArea u l] ⊆ [slotArea s (.lane l), statusArea s l] := by
          rw [hbase]
          exact List.subset_cons_self _ _
        exact hw.mono hsame
      · exact .refl _ u
    have ht : writeAnswer (.lane l) kind rq (markTaken (.lane l) s, a) = writeLaneStatus l u := by rw [← hu]; rfl
    rw [ht]
    exact hfirst.trans hlast

/-- A request of a running device that its judgement answers `a` at once. -/
theorem serve_unserved {n : SlotId} {kind : Nat} {rq : Req} {agrees : Bool} {a : Answer} {s : State}
    (hd : s.device = .running) (hj : judgeRequest n kind rq agrees (markTaken n s) = (markTaken n s, a)) :
    answered n kind rq a s (noteChanges s (serve n kind rq agrees s)) ∧
      (∀ l, bare ((noteChanges s (serve n kind rq agrees s)).lane l) = bare (s.lane l)) ∧
      registersKept s (noteChanges s (serve n kind rq agrees s)) ∧
      unitsKept s (noteChanges s (serve n kind rq agrees s)) ∧
      (noteChanges s (serve n kind rq agrees s)).licences = s.licences ∧
      (noteChanges s (serve n kind rq agrees s)).clockUnit = s.clockUnit ∧
      unreported s (noteChanges s (serve n kind rq agrees s)) ∧
      (shapeOk s → memKept (slotArea s n :: ownRecord s n) s
        (noteChanges s (serve n kind rq agrees s))) := by
  rw [serve_running hd, hj]
  have h := writeAnswer_answers n kind rq a s (markTaken n s)
  exact ⟨h.answer, h.lane, h.registers, h.units, h.licences, h.clockUnit, h.unreported,
    writeAnswer_memKept n kind rq a⟩

theorem kindUnknown_iff (n : SlotId) (kind : Nat) : kindUnknown n kind = true ↔ kindKnown n kind = false := by
  cases n
  · simp only [kindUnknown, kindKnown, Bool.or_eq_true, decide_eq_true_iff, Bool.and_eq_false_iff, decide_eq_false_iff_not]
    omega
  · simp only [kindUnknown, kindKnown, Bool.or_eq_true, decide_eq_true_iff, Bool.and_eq_false_iff, decide_eq_false_iff_not]
    omega

/-- A command of a slot whose request does not reach its owner. -/
theorem exec_request {l : LaneId} {rq : Req} {agrees : Bool} {kind : Nat} {c : Instr} {n : SlotId}
    (hc : ((kind, c) ∈ laneRequests l rq ∧ n = .lane l) ∨ ((kind, c) ∈ deviceRequests rq agrees ∧ n = .device))
    (s : State) :
    kindKnown n kind = true ∧ ∃ b, exec c s = .next (noteChanges s (serve n kind rq b s)) := by
  rcases hc with ⟨hc, rfl⟩ | ⟨hc, rfl⟩
  · obtain ⟨hk, hexec⟩ := exec_laneRequest hc s
    exact ⟨hk, _, hexec⟩
  · obtain ⟨hk, b, hexec, _⟩ := exec_deviceRequest hc s
    exact ⟨hk, b, hexec⟩

theorem judgeRequest_error {n : SlotId} {kind : Nat} {rq : Req} {agrees : Bool} {s : State} {a : Answer}
    (hk : kindKnown n kind = true) (hb : readBlock s.host rq = .error a) :
    judgeRequest n kind rq agrees s = (s, a) := by
  unfold judgeRequest
  rw [hk, hb]
  rfl

/-- Settles O23, by the answer of a request that does not reach its owner (`serve_unserved`). -/
theorem unservableRequestsAreAnswered : Obligations.UnservableRequestsAreAnswered := by
  unfold Obligations.UnservableRequestsAreAnswered
  refine ⟨fun n kind rq s hu => ?_, fun l rq agrees kind c n s hc => ?_⟩
  · have hk := (kindUnknown_iff n kind.toNat).1 hu
    have hexec : exec (.unknownRequestKind n kind rq) s =
        .next (noteChanges s (serve n kind.toNat rq false s)) := by
      refine congrArg (fun x => Host.Outcome.next (noteChanges s x)) (if_neg ?_)
      rw [hk]
      exact Bool.false_ne_true
    refine ⟨fun hd => ?_, fun hd => by rw [hexec, serve_idle hd, noteChanges_self]⟩
    have hj : judgeRequest n kind.toNat rq false (markTaken n s) = (markTaken n s, ⟨.unknownRequest, .none, 0, []⟩) := by
      unfold judgeRequest
      rw [hk]
      rfl
    obtain ⟨ha, hl, hreg, hunits, hlic, hclock, hun, hmem⟩ := serve_unserved hd hj
    refine ⟨_, hexec, ha, hl, hreg, hunits, hlic, hclock, hun, ?_⟩
    cases n
    · exact hmem
    · exact hmem
  · obtain ⟨hk, b, hexec⟩ := exec_request hc s
    refine ⟨fun hd => ?_, fun hd hlen => ?_, fun hd hlen hne hfail => ?_⟩
    · rw [hexec, serve_idle hd, noteChanges_self]
    · have hb : readBlock (markTaken n s).host rq = .error ⟨.param, .blockLength, 0, []⟩ := if_pos hlen
      obtain ⟨ha, hl, _, hunits, hlic, _, hun, _⟩ := serve_unserved hd (judgeRequest_error (agrees := b) hk hb)
      exact ⟨_, hexec, ha, hl, hlic, hunits.1, hun⟩
    · have hb : readBlock (markTaken n s).host rq = .error ⟨.param, .readError, 0, []⟩ := by
        unfold readBlock
        rw [if_neg (show ¬ Config.blockMax < rq.blockLen.toNat from not_lt.2 hlen), if_neg hne, hostRead, if_pos (show accessFails (markTaken n s).host.readFails _ _ = true from hfail)]
        rfl
      obtain ⟨ha, hl, _, hunits, hlic, _, hun, _⟩ := serve_unserved hd (judgeRequest_error (agrees := b) hk hb)
      exact ⟨_, hexec, ha, hl, hlic, hunits.1, hun⟩

end Sys2Proof.Machine
end

section
/-! The requests of the device's slot, the summons, and the requests that a lane's state does not accept
(R3 to R33, R174, R175). -/

namespace Sys2Proof.Machine

/-! ## A request of the device's slot -/

/-- The answer and the frame of a request of the device's slot, whose work has left the state `w`. -/
structure DeviceServing (kind : Nat) (rq : Req) (a : Answer) (more : List (Nat × Nat)) (s w t : State) : Prop where
  served : deviceServed kind rq a more s t
  lanes : t.lanes = w.lanes
  licences : t.licences = w.licences
  clockUnit : t.clockUnit = w.clockUnit
  inputs : t.inputs = w.inputs
  inputTicks : t.inputTicks = w.inputTicks
  unreported : unreported w t

theorem slotAddr_of_addr {s t : State} (h : tableAddr t = tableAddr s) (n : SlotId) : slotAddr t n = slotAddr s n := by
  rw [slotAddr, slotAddr, h]

theorem slotArea_mem_deviceAreas (s : State) : slotArea s .device ∈ deviceAreas s := by
  rw [mem_deviceAreas]
  exact .inl rfl

theorem serveDevice {kind : Nat} {rq : Req} {agrees : Bool} {c : Instr} (hc : (kind, c) ∈ deviceRequests rq agrees)
    {s : State} (hd : s.device = .running) {b : List Byte} (hb : blockCopy .device rq s = .ok b) {w : State} {a : Answer}
    (hw : deviceRequest kind rq b agrees (markTaken .device s) = some (w, a)) {more : List (Nat × Nat)}
    (hwork : DeviceWork more (markTaken .device s) w) :
    ∃ t, exec c s = .next t ∧ DeviceServing kind rq a more s w t := by
  obtain ⟨hk, b', hexec, hsame⟩ := exec_deviceRequest hc s
  rw [← hsame s] at hexec
  refine ⟨_, hexec, ?_⟩
  have hjudge : judgeRequest .device kind rq agrees (markTaken .device s) = (w, a) := by
    unfold judgeRequest
    rw [hk, show readBlock (markTaken .device s).host rq = .ok b from hb]
    exact congrArg (Option.getD · _) hw
  rw [serve_running hd, hjudge]
  have hans := writeAnswer_answers .device kind rq a s w
  have haddr : slotAddr w .device = slotAddr s .device := slotAddr_of_addr hwork.registers.tableAddr .device
  have hmem (hs : shapeOk s) : memKept (deviceAreas s ++ more) s (noteChanges s (writeAnswer .device kind rq (w, a))) := by
    have htaken : memKept (deviceAreas s ++ more) s (markTaken .device s) := by
      have hput := putBytes_memKept (slotAddr s .device) [2] s
      refine ⟨fun x hx => hput.1 x fun r hr => ?_, hput.2⟩
      obtain rfl := List.mem_singleton.1 hr
      have := hx _ (List.mem_append_left _ (slotArea_mem_deviceAreas s))
      simp only [slotArea, List.length_singleton] at this ⊢
      omega
    have hput := putBytes_memKept (slotAddr w .device) (answerBytes kind rq a) w
    rw [answerBytes_length, haddr] at hput
    refine (htaken.trans (hwork.mem hs)).trans ?_
    refine memKept.mono (areas := [slotArea s .device]) ?_ fun r hr => ?_
    · show memKept _ w (putBytes (slotAddr w .device) (answerBytes kind rq a) w)
      rw [haddr]
      exact hput
    · rw [List.mem_singleton.1 hr]
      exact List.mem_append_left _ (slotArea_mem_deviceAreas s)
  refine ⟨⟨?_, hwork.registers.trans hans.registers, hans.units.2.2.1.trans hwork.engine,
    hans.units.2.2.2.trans hwork.keeps.pending, hmem⟩, ?_, hans.licences, hans.clockUnit, hans.units.1, hans.units.2.1,
    hans.unreported⟩
  · have := hans.answer
    rwa [answered, haddr] at this
  · rfl

/-- A request of the device's slot that is refused. -/
theorem serveDevice_refused {kind : Nat} {rq : Req} {agrees : Bool} {c : Instr}
    (hc : (kind, c) ∈ deviceRequests rq agrees) {s : State} (hr : reaches .device rq s) {a : Answer}
    (hw : ∀ b, blockCopy .device rq s = .ok b →
      deviceRequest kind rq b agrees (markTaken .device s) = some (markTaken .device s, a)) :
    ∃ t, exec c s = .next t ∧ deviceRefused kind rq a s t ∧ unreported s t := by
  obtain ⟨hd, b, hb⟩ := hr
  obtain ⟨t, ht, h⟩ := serveDevice hc hd hb (hw b hb) (more := []) (.refl [] _)
  exact ⟨t, ht, ⟨h.licences, h.lanes, h.inputs, h.clockUnit, h.served⟩, h.unreported⟩

/-! ## The registers through a request -/

theorem deviceRequest_registers {kind : Nat} {rq : Req} {b : List Byte} {agrees : Bool} {s : State}
    {r : State × Answer} (h : deviceRequest kind rq b agrees s = some r) : registersKept s r.1 := by
  unfold deviceRequest at h
  split at h
  case h_10 => cases h
  all_goals obtain rfl := (Option.some.inj h).symm
  · exact (doInstall_device [] b agrees s).registers
  · exact (doRemove_device [] rq s).registers
  · unfold doRead
    split
    · exact .refl s
    · split
      · exact .refl s
      · exact (writeBuffer_device (more := [_]) _ s fun _ => List.mem_cons_self).registers
  · unfold doList
    dsimp only
    split
    · exact .refl s
    · exact (writeBuffer_device (more := [_]) _ s fun _ => List.mem_cons_self).registers
  · exact (doSetClock_device [] rq s).registers
  · exact (doAdjustClock_device [] rq s).registers
  · exact .refl s
  · exact (doFactoryClear_device [] s).registers
  · exact (doSetInputs_device [] b s).registers

theorem serve_registers (n : SlotId) (kind : Nat) (rq : Req) (agrees : Bool) (s : State) :
    registersKept s (serve n kind rq agrees s) := by
  cases n with
  | lane l =>
    exact (serve_work (l := l) (more := slotArea s (.lane l) :: partAreas (s.lane l)) kind rq agrees
      List.mem_cons_self (List.subset_cons_self _ _)).rest.2.1
  | device =>
    by_cases hd : s.device = .running
    · rw [serve_running hd]
      have hjudge : registersKept s (judgeRequest .device kind rq agrees (markTaken .device s)).1 := by
        unfold judgeRequest
        split
        · exact .refl s
        · split
          · exact .refl s
          · next b _ =>
            change registersKept s
              ((deviceRequest kind rq b agrees (markTaken .device s)).getD (markTaken .device s, _)).1
            cases h : deviceRequest kind rq b agrees (markTaken .device s) with
            | none => exact .refl s
            | some r => exact deviceRequest_registers (s := markTaken .device s) h
      exact hjudge.trans (writeAnswer_answers .device kind rq _ s _).registers
    · rw [serve_idle hd]
      exact .refl s

/-! ## The summons (R174) -/

/-- The summon flags of one slot. -/
def oneFlag (n : SlotId) : BitVec 5 := (BitVec.ofNat 32 (2 ^ slotIndex n)).setWidth 5

theorem lookSummoned_clear {agrees : Bool} {s : State} {n : SlotId} (h : s.summonFlags &&& summonBit n = 0) :
    lookSummoned agrees s n = s := if_pos h

theorem foldl_lookSummoned_none {agrees : Bool} {s : State} (h : s.summonFlags = 0) (ns : List SlotId) :
    ns.foldl (lookSummoned agrees) s = s := by
  induction ns with
  | nil => rfl
  | cons n ns ih =>
    have hn : lookSummoned agrees s n = s := lookSummoned_clear (by rw [h]; exact BitVec.zero_and)
    rw [List.foldl_cons, hn, ih]

theorem oneFlag_clear {m n : SlotId} (h : m ≠ n) : oneFlag n &&& summonBit m = 0 := by
  revert h
  cases m with
  | device => cases n with
    | device => exact fun h => absurd rfl h
    | lane l => cases l <;> decide
  | lane k => cases n with
    | device => cases k <;> decide
    | lane l => cases k <;> cases l <;> decide

theorem oneFlag_set (n : SlotId) : oneFlag n &&& summonBit n ≠ 0 ∧ oneFlag n &&& ~~~summonBit n = 0 := by
  cases n with
  | device => decide
  | lane l => cases l <;> decide

/-- With one flag set and none left by the look, the look at its slot is the whole summons. -/
theorem foldl_lookSummoned {agrees : Bool} {s : State} {n : SlotId} (hflags : s.summonFlags = oneFlag n)
    (hleft : (lookSlot agrees { s with summonFlags := 0 } n).summonFlags = 0) {ns : List SlotId} (hn : n ∈ ns) :
    ns.foldl (lookSummoned agrees) s = lookSlot agrees { s with summonFlags := 0 } n := by
  induction ns with
  | nil => cases hn
  | cons m ns ih =>
    rw [List.foldl_cons]
    by_cases hm : m = n
    · subst hm
      obtain ⟨hset, hclear⟩ := oneFlag_set m
      have hlook : lookSummoned agrees s m = lookSlot agrees { s with summonFlags := 0 } m := by
        rw [lookSummoned, if_neg (by rw [hflags]; exact hset), hflags, hclear]
      rw [hlook, foldl_lookSummoned_none hleft]
    · rw [lookSummoned_clear (by rw [hflags]; exact oneFlag_clear hm)]
      exact ih ((List.mem_cons.1 hn).resolve_left fun h => hm h.symm)

theorem mem_allSlots (n : SlotId) : n ∈ allSlots := by
  cases n with
  | device => decide
  | lane l => cases l <;> decide

theorem lookSlot_registers (agrees : Bool) (s : State) (n : SlotId) : registersKept s (lookSlot agrees s n) := by
  unfold lookSlot
  split
  · exact .refl s
  · exact serve_registers n _ _ agrees s

/-- A summons of one slot with nothing else to look at. -/
theorem summonWrite_one {n : SlotId} {agrees : Bool} {s : State} (hd : s.device = .running) (hf : s.summonFlags = 0)
    (hw : s.journal.withheld = 0) :
    summonWrite (BitVec.ofNat 32 (2 ^ slotIndex n)) agrees s = lookSlot agrees s n := by
  have hflag : s.summonFlags ||| oneFlag n = oneFlag n := by rw [hf]; exact BitVec.zero_or
  have hs : { s with summonFlags := 0 } = s := by rw [← hf]
  have hlatched : gapCheck { s with summonFlags := s.summonFlags ||| oneFlag n } =
      { s with summonFlags := oneFlag n } := by
    rw [gapCheck, if_neg (fun h => h.2 hw), hflag]
  unfold summonWrite
  split
  case h_1 =>
    show allSlots.foldl (lookSummoned agrees) (gapCheck { s with summonFlags := s.summonFlags ||| oneFlag n }) = _
    have hlook := foldl_lookSummoned (agrees := agrees) (s := { s with summonFlags := oneFlag n }) (n := n) rfl
      ((lookSlot_registers agrees { s with summonFlags := 0 } n).2.2.2.2.2.2.2.1) (mem_allSlots n)
    rw [hlatched, hlook]
    exact congrArg (lookSlot agrees · n) hs
  all_goals next h => exact absurd (hd.symm.trans h) (by decide)

/-- Settles O24: with one flag set, a summons is the look at its slot. -/
theorem summonTakesThePostedRequest : Obligations.SummonTakesThePostedRequest := by
  unfold Obligations.SummonTakesThePostedRequest
  intro n agrees s bytes mask
  have hexec (t : State) (h : summonWrite mask agrees s = t) :
      exec (.summon mask HostActs.none agrees) s = .next (noteChanges s t) :=
    congrArg (fun x => Host.Outcome.next (noteChanges s x)) h
  refine ⟨fun hd hf hw => ⟨fun kind rq c hp hc => ?_, fun hp => ?_⟩, fun hd => ?_, fun hd => ?_⟩
  · have hlook : lookSlot agrees s n = serve n kind rq agrees s := by
      unfold lookSlot
      rw [hp]
    have hrun := hexec _ ((summonWrite_one hd hf hw).trans hlook)
    have hflags : (noteChanges s (serve n kind rq agrees s)).summonFlags = 0 :=
      (serve_registers n kind rq agrees s).2.2.2.2.2.2.2.1.trans hf
    rcases hc with ⟨l, rfl, hc⟩ | ⟨rfl, hc⟩
    · exact ⟨_, hrun, (exec_laneRequest hc s).2, hflags⟩
    · obtain ⟨_, b, hc, hsame⟩ := exec_deviceRequest hc s
      rw [← hsame s] at hc
      exact ⟨_, hrun, hc, hflags⟩
  · have hlook : lookSlot agrees s n = s := by
      unfold lookSlot
      rw [hp]
    rw [hexec _ ((summonWrite_one hd hf hw).trans hlook), noteChanges_self]
  · have hwait : summonWrite mask agrees s = { s with summonFlags := s.summonFlags ||| mask.setWidth 5 } := by
      unfold summonWrite
      split
      case h_2 | h_3 => rfl
      all_goals next h => rw [h] at hd; rcases hd with hd | hd <;> cases hd
    rw [hexec _ hwait]
    exact congrArg Host.Outcome.next (noteChanges_eq_self rfl rfl rfl rfl)
  · have hidle : summonWrite mask agrees s = s := by
      unfold summonWrite
      split
      case h_4 | h_5 => rfl
      all_goals next h => rw [h] at hd; rcases hd with hd | hd <;> cases hd
    rw [hexec _ hidle, noteChanges_self]

/-! ## Requests that the lane's state does not accept -/

theorem acceptsOptions_eq (x : Lane) : acceptsOptions x.state = acceptedIn 5 x := by
  simp only [acceptedIn]
  cases x.state <;> rfl

theorem acceptsSoundMap_eq (x : Lane) : acceptsSoundMap x = acceptedIn 6 x := by
  simp only [acceptedIn, acceptsSoundMap]
  cases x.state <;> rfl

theorem doStop_refused {l : LaneId} {s : State} (h : acceptedIn 13 (s.lane l) = false) :
    doStop l s = (s, stateAnswer) := by
  simp only [acceptedIn] at h
  unfold doStop
  cases hs : (s.lane l).state
  all_goals rw [hs] at h
  case playing | held | seeking | armed => cases h

theorem doLinkTest_refused {l : LaneId} {rq : Req} {s : State} (h : acceptedIn 17 (s.lane l) = false) :
    doLinkTest l rq s = (s, stateAnswer) := by
  simp only [acceptedIn, Bool.and_eq_false_iff, Bool.or_eq_false_iff, Bool.not_eq_false', decide_eq_false_iff_not,
    decide_eq_true_iff] at h
  unfold doLinkTest
  dsimp only
  rcases h with h | h
  · rw [if_pos h]
  · by_cases hs : (s.lane l).state ≠ .empty ∧ (s.lane l).state ≠ .ended
    · rw [if_pos hs]
    · rw [if_neg hs, if_pos h]

/-- A lane's request that its state does not accept is refused STATE. -/
theorem laneRequest_unaccepted {l : LaneId} {kind : Nat} {rq : Req} {b : List Byte} {s : State} {c : Instr}
    (hc : (kind, c) ∈ laneRequests l rq) (ha : acceptedIn kind (s.lane l) = false)
    (hk : kind = 8 → wide rq.w0 rq.w1 ≤ 2 ^ 40 - 1) :
    laneRequest l kind rq b s = some (s, ⟨.state, .none, 0, []⟩) := by
  simp only [laneRequests, List.mem_cons, List.not_mem_nil, or_false, Prod.mk.injEq] at hc
  rcases hc with ⟨rfl, -⟩ | ⟨rfl, -⟩ | ⟨rfl, -⟩ | ⟨rfl, -⟩ | ⟨rfl, -⟩ | ⟨rfl, -⟩ | ⟨rfl, -⟩ |
    ⟨rfl, -⟩ | ⟨rfl, -⟩ | ⟨rfl, -⟩ | ⟨rfl, -⟩ | ⟨rfl, -⟩ | ⟨rfl, -⟩ | ⟨rfl, -⟩ | ⟨rfl, -⟩ |
    ⟨rfl, -⟩ | ⟨rfl, -⟩
  all_goals refine congrArg some ?_
  case' inr.inr.inr.inr.inl => rw [← acceptsOptions_eq] at ha
  case' inr.inr.inr.inr.inr.inl => rw [← acceptsSoundMap_eq] at ha
  case inr.inr.inr.inr.inl | inr.inr.inr.inr.inr.inl => exact if_pos (by rw [ha]; rfl)
  case inr.inr.inr.inr.inr.inr.inr.inr.inr.inr.inr.inr.inl => exact doStop_refused ha
  case inr.inr.inr.inr.inr.inr.inr.inr.inr.inr.inr.inr.inr.inr.inr.inr => exact doLinkTest_refused ha
  all_goals
    simp only [acceptedIn, Bool.and_eq_false_iff, Bool.not_eq_false', decide_eq_false_iff_not,
      decide_eq_true_iff] at ha
  · exact if_pos ha
  · exact if_pos ha
  · exact if_pos ha
  · cases ha
  · exact if_pos ha
  · unfold doStartAt
    rw [if_neg (show ¬ Config.clockMax < wide rq.w0 rq.w1 from not_lt.2 (hk rfl)), if_pos ha]
    rfl
  · exact if_pos ha
  · exact if_pos ha
  · refine if_neg fun h => ?_
    rcases ha with ha | ha
    · exact ha h.1
    · exact absurd (h.2.symm.trans ha) (by decide)
  · exact if_pos ha
  · exact if_pos ha
  · exact if_pos ha
  · cases ha

/-- Settles O26: what a lane's state does not accept is refused before anything of the lane is touched. -/
theorem unacceptedRequestsLeaveTheLane : Obligations.UnacceptedRequestsLeaveTheLane := by
  unfold Obligations.UnacceptedRequestsLeaveTheLane
  refine ⟨fun l rq kind c s hc hr ha hk => ?_, fun l rq s hr hlate => ?_⟩
  · obtain ⟨t, ht, ⟨hlane, hlic, hserved⟩, hclock, hun⟩ := serveLane_refused (a := ⟨.state, .none, 0, []⟩) hc hr
      fun b _ => laneRequest_unaccepted (s := markTaken (.lane l) s) hc ha hk
    exact ⟨t, ht, hlane, hlic, hclock, hun, hserved⟩
  · have hc : (8, Instr.startAt l rq) ∈ laneRequests l rq := by simp [laneRequests]
    obtain ⟨t, ht, href, _, hun⟩ := serveLane_refused (a := ⟨.param, .none, 0, []⟩) hc hr
      fun b _ => congrArg some (if_pos hlate)
    exact ⟨t, ht, hun, href⟩

end Sys2Proof.Machine
end

section
/-! The settings of a lane, its holds and its arming (R3, R12 to R19, R32, R33). -/

namespace Sys2Proof.Machine

/-- What a lane's request leaves, where its work leaves the lane `y`. -/
theorem serveLane_to {l : LaneId} {kind : Nat} {rq : Req} {c : Instr} (hc : (kind, c) ∈ laneRequests l rq) {s : State}
    (hr : reaches (.lane l) rq s) {d : State × Answer}
    (hd : ∀ b, laneRequest l kind rq b (markTaken (.lane l) s) = some d) {w : State} {a : Answer} (hw : d = (w, a))
    {more : List (Nat × Nat)}
    (hwork : LaneWork l (slotArea s (.lane l) :: more) (markTaken (.lane l) s) d.1) {y : Lane}
    (hy : bare (w.lane l) = bare y) :
    ∃ t n, exec c s = .next t ∧ t.lane l = { y with statusCount := n } ∧ t.licences = w.licences ∧
      t.clockUnit = w.clockUnit ∧ unreported w t ∧ laneServed l kind rq a more s t := by
  subst hw
  obtain ⟨hrun, b, hb⟩ := hr
  obtain ⟨t, ht, h⟩ := serveLane hc hrun hb (hd b) hwork
  obtain ⟨n, hn⟩ := eq_of_bare (h.lane.trans hy)
  exact ⟨t, n, ht, hn, h.licences, h.clockUnit, h.unreported, h.served⟩

/-- A request whose whole work is a change of the lane's fields. -/
theorem serveLane_mod {l : LaneId} {kind : Nat} {rq : Req} {c : Instr} (hc : (kind, c) ∈ laneRequests l rq) {s : State}
    (hr : reaches (.lane l) rq s) {d : State × Answer}
    (hd : ∀ b, laneRequest l kind rq b (markTaken (.lane l) s) = some d) (f : Lane → Lane) (a : Answer)
    (hw : d = ((markTaken (.lane l) s).modLane l f, a))
    (hwork : LaneWork l [slotArea s (.lane l)] (markTaken (.lane l) s) d.1) :
    ∃ t, exec c s = .next t ∧ bare (t.lane l) = bare (f (s.lane l)) ∧ t.licences = s.licences ∧
      t.clockUnit = s.clockUnit ∧ unreported s t ∧ laneServed l kind rq a [] s t := by
  obtain ⟨t, n, ht, hlane, hlic, hclock, hun, hserved⟩ := serveLane_to hc hr hd hw (more := []) hwork
    (y := f (s.lane l)) (by rw [State.lane_modLane_self]; rfl)
  exact ⟨t, ht, by rw [hlane]; rfl, hlic, hclock, hun, hserved⟩

/-- A request that its own work refuses. -/
theorem serveLane_refuses {l : LaneId} {kind : Nat} {rq : Req} {c : Instr} (hc : (kind, c) ∈ laneRequests l rq)
    {s : State} (hr : reaches (.lane l) rq s) {d : State × Answer}
    (hd : ∀ b, laneRequest l kind rq b (markTaken (.lane l) s) = some d) {a : Answer}
    (hw : d = (markTaken (.lane l) s, a)) :
    ∃ t, exec c s = .next t ∧ laneRefused l kind rq a s t ∧ t.clockUnit = s.clockUnit ∧ unreported s t :=
  serveLane_refused hc hr fun b _ => (hd b).trans (congrArg some hw)

/-! ## Set Lane Options (R3) -/

theorem integrityOf_of_le {n : Nat} (h : n ≤ 1) :
    integrityOf n = some (if n = 0 then .tolerant else .strict) := by
  interval_cases n <;> rfl

theorem liveOf_of_le {n : Nat} (h : n ≤ 1) : liveOf n = some (decide (n = 1)) := by
  interval_cases n <;> rfl

theorem integrityOf_of_gt {n : Nat} (h : 1 < n) : integrityOf n = none := by
  unfold integrityOf
  split
  · omega
  · omega
  · rfl

theorem liveOf_of_gt {n : Nat} (h : 1 < n) : liveOf n = none := by
  unfold liveOf
  split
  · omega
  · omega
  · rfl

/-- The options of a request whose codes name modes. -/
def askedOptions (rq : Req) : LaneOptions :=
  optionsOf rq (if rq.w1.toNat = 0 then .tolerant else .strict) (decide (rq.w6.toNat = 1))

theorem doSetOptions_takes {l : LaneId} {rq : Req} {s : State} (hok : acceptsOptions (s.lane l).state = true)
    (h1 : rq.w1.toNat ≤ 1) (h6 : rq.w6.toNat ≤ 1) :
    doSetOptions l rq s =
      (s.modLane l fun x => { x with options := askedOptions rq }, okWords (optionWords (askedOptions rq))) := by
  unfold doSetOptions askedOptions
  rw [hok, integrityOf_of_le h1, liveOf_of_le h6]
  rfl

theorem doSetOptions_refuses {l : LaneId} {rq : Req} {s : State} (hok : acceptsOptions (s.lane l).state = true)
    (h : 1 < rq.w1.toNat ∨ 1 < rq.w6.toNat) : doSetOptions l rq s = (s, paramAnswer .mode) := by
  unfold doSetOptions
  rw [if_neg (by rw [hok]; exact Bool.false_ne_true)]
  rcases h with h | h
  · rw [integrityOf_of_gt h]
  · rw [liveOf_of_gt h]
    cases integrityOf rq.w1.toNat <;> rfl

theorem flag_decide_one {n : Nat} (h : n ≤ 1) : flag (decide (n = 1)) = n := by
  interval_cases n <;> rfl

theorem optionWords_asked {rq : Req} (h6 : rq.w6.toNat ≤ 1) :
    optionWords (askedOptions rq) =
      [(askedOptions rq).primeDepth + 2 ^ 8 * (askedOptions rq).integrity.ctorIdx +
          2 ^ 16 * (askedOptions rq).holdLimit + 2 ^ 24 * (askedOptions rq).fadeRate,
        (askedOptions rq).starveLimit + 2 ^ 16 * (askedOptions rq).linkGrace, rq.w6.toNat,
        (askedOptions rq).emergencyMask.toNat + 2 ^ 8 * (askedOptions rq).emergencyValue.toNat] := by
  rw [optionWords, show flag (askedOptions rq).liveUpdate = rq.w6.toNat from flag_decide_one h6]

/-- Settles O30: the options are taken whole, or the request is refused and none is. -/
theorem setLaneOptionsClamps : Obligations.SetLaneOptionsClamps := by
  unfold Obligations.SetLaneOptionsClamps
  intro l rq s hr hst
  have hc : (5, Instr.setLaneOptions l rq) ∈ laneRequests l rq := by simp [laneRequests]
  have hok : acceptsOptions ((markTaken (.lane l) s).lane l).state = true := by
    show acceptsOptions (s.lane l).state = true
    rcases hst with h | h | h
    all_goals rw [h]; rfl
  refine ⟨fun h1 h6 => ?_, fun h => ?_⟩
  · obtain ⟨t, ht, hlane, hlic, hclock, hun, hserved⟩ := serveLane_mod hc hr (fun _ => rfl) _ _
      (doSetOptions_takes hok h1 h6) (doSetOptions_work l _ rq _)
    refine ⟨t, askedOptions rq, ht, hlane, rfl, rfl, rfl, rfl, rfl, rfl, rfl, ?_, ?_, hlic, hclock, hun, ?_⟩
    · exact BitVec.eq_of_toNat_eq (by simp [askedOptions, optionsOf])
    · exact BitVec.eq_of_toNat_eq (by simp [askedOptions, optionsOf])
    · rw [optionWords_asked h6] at hserved
      exact hserved
  · obtain ⟨t, ht, ⟨hlane, hlic, hserved⟩, _, hun⟩ := serveLane_refuses hc hr (fun _ => rfl)
      (doSetOptions_refuses hok h)
    exact ⟨t, ht, hlane, hlic, hun, hserved⟩

/-! ## Set Level and Test Indicators (R32, R33) -/

/-- Settles O31. -/
theorem levelAndIndicatorRequests : Obligations.LevelAndIndicatorRequests := by
  unfold Obligations.LevelAndIndicatorRequests
  intro l rq s hr
  refine ⟨fun he => ?_, ?_⟩
  · have hc : (15, Instr.setLevel l rq) ∈ laneRequests l rq := by simp [laneRequests]
    exact serveLane_mod hc hr (fun _ => rfl) _ _ (if_neg he) (doSetLevel_work l _ rq _)
  · have hc : (16, Instr.testIndicators l rq) ∈ laneRequests l rq := by simp [laneRequests]
    exact serveLane_mod hc hr (fun _ => rfl) _ _ rfl (doTestIndicators_work l _ _)

/-! ## Hold and Cancel Hold (R18, R19) -/

/-- The pending hold record that a hold leaves. -/
def mergedHold (cause : Cause) (w : HoldWhen) : Option HoldRecord → HoldRecord
  | none => ⟨cause, w, 0⟩
  | some h => ⟨h.cause, (match w with | .now => .now | .reelEnd _ => h.when_), saturate8 (h.merged + 1)⟩

theorem mergeHold_eq (cause : Cause) (w : HoldWhen) (x : Lane) :
    mergeHold cause w x = { x with hold := some (mergedHold cause w x.hold) } := by
  unfold mergeHold mergedHold
  cases x.hold <;> rfl

theorem holdWords_some (h : HoldRecord) :
    holdWords (some h) =
      match h.when_ with
      | .now => [h.cause.ctorIdx, 0, 0, h.merged]
      | .reelEnd r => [h.cause.ctorIdx, 1, r, h.merged] := by
  obtain ⟨c, w, m⟩ := h
  cases w <;> rfl

theorem answerHold_eq (l : LaneId) (cause : Cause) (w : HoldWhen) (s : State) :
    answerHold l cause w s =
      (s.modLane l (mergeHold cause w), okWords (holdWords (some (mergedHold cause w (s.lane l).hold)))) := by
  unfold answerHold
  dsimp only
  rw [State.lane_modLane_self, mergeHold_eq]

/-- The place of a hold request in the run: at once, or at the end of the current reel. -/
def heldWhen (sh : Show) (rq : Req) (p : Nat) : HoldWhen :=
  if rq.w0 = 0 then .now else .reelEnd (currentReel sh p)

def heldCause (rq : Req) : Cause := if rq.w0 = 0 then .operatorNow else .operatorReelEnd

theorem doHold_takes {l : LaneId} {rq : Req} {s : State} {sh : Show} (hst : (s.lane l).state = .playing)
    (hsh : (s.lane l).loaded = some sh) (h : rq.w0 = 0 ∨ rq.w0 = 1) :
    doHold l rq s = answerHold l (heldCause rq) (heldWhen sh rq (s.lane l).p) s := by
  unfold doHold heldCause heldWhen
  dsimp only
  rw [if_neg (not_not.2 hst), hsh]
  by_cases h0 : rq.w0 = 0
  · rw [if_pos h0, if_pos h0, if_pos h0]
  · rw [if_neg h0, if_neg h0, if_neg h0, if_pos (h.resolve_left h0)]
    rfl

theorem mergedHold_fields {rq : Req} (hrq : rq.w0 = 0 ∨ rq.w0 = 1) (sh : Show) (x : Lane) :
    let h := mergedHold (heldCause rq) (heldWhen sh rq x.p) x.hold
    (rq.w0 = 0 → x.hold = none → h = ⟨.operatorNow, .now, 0⟩) ∧
    (rq.w0 = 1 → x.hold = none → h = ⟨.operatorReelEnd, .reelEnd (currentReel sh x.p), 0⟩) ∧
    (∀ g, x.hold = some g → h = ⟨g.cause, if rq.w0 = 0 then .now else g.when_, min 255 (g.merged + 1)⟩) := by
  dsimp only
  unfold heldCause heldWhen
  rcases hrq with h | h
  · refine ⟨fun _ hn => by rw [hn, if_pos h, if_pos h]; rfl, fun h1 _ => ?_, fun g hg => ?_⟩
    · rw [h] at h1
      exact absurd h1 (by decide)
    · rw [hg, if_pos h, if_pos h, if_pos h]
      rfl
  · have h0 : ¬ rq.w0 = 0 := by rw [h]; decide
    refine ⟨fun hz _ => absurd hz h0, fun _ hn => by rw [hn, if_neg h0, if_neg h0]; rfl, fun g hg => ?_⟩
    rw [hg, if_neg h0, if_neg h0, if_neg h0]
    rfl

/-- Settles O35. -/
theorem holdsMakeMergeAndCancel : Obligations.HoldsMakeMergeAndCancel := by
  unfold Obligations.HoldsMakeMergeAndCancel
  intro l rq s sh hr hst hsh
  have hc : (10, Instr.hold l rq) ∈ laneRequests l rq := by simp [laneRequests]
  refine ⟨fun h => ?_, fun h => ?_, fun h => ?_⟩
  · have hrq : rq.w0 = 0 ∨ rq.w0 = 1 := by
      rcases Nat.le_one_iff_eq_zero_or_eq_one.1 h with h | h
      · exact .inl (BitVec.eq_of_toNat_eq h)
      · exact .inr (BitVec.eq_of_toNat_eq h)
    obtain ⟨t, ht, hlane, hlic, hclock, hun, hserved⟩ := serveLane_mod hc hr (fun _ => rfl) _ _
      ((doHold_takes (s := markTaken (.lane l) s) hst hsh hrq).trans (answerHold_eq l _ _ _)) (doHold_work l _ rq _)
    obtain ⟨hnow, hreel, hmerge⟩ := mergedHold_fields hrq sh (s.lane l)
    rw [mergeHold_eq] at hlane
    rw [holdWords_some] at hserved
    exact ⟨t, _, ht, hlane, hnow, hreel, hmerge, hlic, hclock, hun, hserved⟩
  · have hw : doHold l rq (markTaken (.lane l) s) = (markTaken (.lane l) s, paramAnswer .mode) := by
      unfold doHold
      dsimp only
      rw [if_neg (not_not.2 (by exact hst)), if_neg, if_neg]
      · intro h1
        rw [h1] at h
        exact absurd h (by decide)
      · intro h0
        rw [h0] at h
        exact absurd h (by decide)
    obtain ⟨t, ht, ⟨hlane, hlic, hserved⟩, _, hun⟩ := serveLane_refuses hc hr (fun _ => rfl) hw
    exact ⟨t, ht, hlane, hserved⟩
  · have hc' : (11, Instr.cancelHold l rq) ∈ laneRequests l rq := by simp [laneRequests]
    exact serveLane_mod hc' hr (fun _ => rfl) (fun x => { x with hold := none }) _
      (if_pos ⟨hst, Option.isSome_iff_ne_none.2 h⟩) (doCancelHold_work l _ _)

/-! ## Arming and disarming (R12, R14) -/

/-- A change of lane state that leaves the rest of the lane alone. -/
theorem settleLane_keeps_rest (st : LaneState) (c : Cause) (x : Lane) :
    materialKept x (settleLane st c x) ∧ settingsKept x (settleLane st c x) ∧ mapKept x (settleLane st c x) ∧
      (settleLane st c x).sound.applied = x.sound.applied ∧ (settleLane st c x).tally = x.tally ∧
      (settleLane st c x).link = x.link :=
  ⟨⟨rfl, rfl, rfl, rfl, rfl, rfl, rfl, rfl⟩, ⟨rfl, rfl, rfl, rfl⟩, ⟨rfl, rfl, rfl, rfl, rfl, rfl⟩, rfl, rfl, rfl⟩

theorem doStartAt_arms {l : LaneId} {rq : Req} {s : State} (hst : (s.lane l).state = .ready)
    (hv : s.licences.clockValid = true) (hlate : s.licences.clock < wide rq.w0 rq.w1)
    (hin : wide rq.w0 rq.w1 ≤ 2 ^ 40 - 1) :
    doStartAt l rq s =
      (changeState l .armed .request (fun x => { x with startSecond := some (wide rq.w0 rq.w1) }) s, okAnswer) := by
  unfold doStartAt
  rw [if_neg (show ¬ Config.clockMax < wide rq.w0 rq.w1 from not_lt.2 hin), if_neg (not_not.2 hst), hv,
    if_neg (by decide), if_neg (not_le.2 hlate)]

/-- An ARMED lane that a request disarms. -/
theorem disarms {l : LaneId} {kind : Nat} {rq : Req} {c : Instr} (hc : (kind, c) ∈ laneRequests l rq) {s : State}
    (hr : reaches (.lane l) rq s)
    (hd : ∀ b, laneRequest l kind rq b (markTaken (.lane l) s) =
      some (enterState l .ready .request (markTaken (.lane l) s), okAnswer)) :
    ∃ t, exec c s = .next t ∧ (t.lane l).state = .ready ∧ (t.lane l).startSecond = none ∧
      timersClear (t.lane l) ∧ (t.lane l).lastCause = (s.lane l).lastCause ∧
      materialKept (s.lane l) (t.lane l) ∧ settingsKept (s.lane l) (t.lane l) ∧
      mapKept (s.lane l) (t.lane l) ∧ (t.lane l).sound.applied = (s.lane l).sound.applied ∧
      (t.lane l).tally = (s.lane l).tally ∧ (t.lane l).link = (s.lane l).link ∧
      t.licences = s.licences ∧ laneServed l kind rq ⟨.ok, .none, 0, []⟩ [] s t := by
  obtain ⟨t, n, ht, hlane, hlic, _, _, hserved⟩ := serveLane_to hc hr hd rfl (more := [])
    (enterState_work l _ .ready .request _) (enterState_bare l .ready .request _)
  obtain ⟨hmat, hset, hmap, happ, htal, hlink⟩ := settleLane_keeps_rest .ready .request (s.lane l)
  refine ⟨t, ht, ?_⟩
  rw [hlane]
  exact ⟨rfl, rfl, ⟨rfl, rfl, rfl, rfl⟩, rfl, hmat, hset, hmap, happ, htal, hlink,
    hlic.trans (changeState_licences l _ _ _ _), hserved⟩

/-- Settles O34. -/
theorem startAtArmsAndCancelStartDisarms : Obligations.StartAtArmsAndCancelStartDisarms := by
  unfold Obligations.StartAtArmsAndCancelStartDisarms
  intro l rq s hr
  refine ⟨fun hst hv hlate hin => ?_, fun hst kc hkc => ?_⟩
  · have hc : (8, Instr.startAt l rq) ∈ laneRequests l rq := by simp [laneRequests]
    have harm := doStartAt_arms (s := markTaken (.lane l) s) hst hv hlate hin
    have hwork : LaneWork l [slotArea s (.lane l)] (markTaken (.lane l) s)
        (doStartAt l rq (markTaken (.lane l) s)).1 := by
      rw [harm]
      dsimp only
      refine changeState_work _ ?_
      exact armLane_keeps (settleLane_state .armed .request ((markTaken (.lane l) s).lane l))
    obtain ⟨t, n, ht, hlane, hlic, _, _, hserved⟩ := serveLane_to hc hr
      (d := doStartAt l rq (markTaken (.lane l) s)) (fun _ => rfl) harm (more := []) hwork
      (y := { settleLane .armed .request (s.lane l) with startSecond := some (wide rq.w0 rq.w1) })
      (changeState_bare l .armed .request (fun x => { x with startSecond := some (wide rq.w0 rq.w1) }) (markTaken (.lane l) s))
    obtain ⟨hmat, hset, hmap, happ, htal, hlink⟩ := settleLane_keeps_rest .armed .request (s.lane l)
    refine ⟨t, ht, ?_⟩
    rw [hlane]
    exact ⟨rfl, rfl, ⟨rfl, rfl, rfl, rfl⟩, rfl, hmat, hset, hmap, happ, htal, hlink,
      hlic.trans (changeState_licences l _ _ _ _), hserved⟩
  · simp only [List.mem_cons, List.not_mem_nil, or_false] at hkc
    rcases hkc with rfl | rfl
    · have hc : (9, Instr.cancelStart l rq) ∈ laneRequests l rq := by simp [laneRequests]
      exact disarms hc hr fun _ => congrArg some (if_neg (not_not.2 hst))
    · have hc : (13, Instr.stop l rq) ∈ laneRequests l rq := by simp [laneRequests]
      refine disarms hc hr fun _ => congrArg some ?_
      unfold doStop
      split
      case h_4 => rfl
      all_goals next h => cases hst.symm.trans h

end Sys2Proof.Machine
end

section
/-! What the ends of a tally make of the Licence Table and of the link, and the requests that stop, empty or
prepare a lane (R5 to R9, R21 to R23, R101 to R104). -/

namespace Sys2Proof.Machine

/-! ## The Licence Table at the end of a tally (R86, R102) -/

/-- The table with every RESERVED entry of a tally returned. -/
def released (t : Tally) (table : LicenceTable) : LicenceTable :=
  { table with records := recordsReleased t table.records }

theorem closeTally_licences (l : LaneId) (w : WayClosed) (s : State) :
    (closeTally l w s).licences = released (s.lane l).tally s.licences := by
  unfold closeTally
  dsimp only
  split
  · rfl
  · rw [offer_licences]
    rfl

theorem closedLane_link (x : Lane) :
    (closedLane x).link =
      { x.link with awaiting := (closedLane x).link.awaiting, unseen := (closedLane x).link.unseen } := by
  obtain ⟨i, h⟩ := setIndicatorIf_eq
    (decide (x.link.awaiting.length - (afterMarks x.link.awaiting).length ≠ 0)) .unseen
    { x with
      link :=
        { x.link with
          awaiting := afterMarks x.link.awaiting
          unseen := saturate16 (x.link.unseen + (x.link.awaiting.length - (afterMarks x.link.awaiting).length)) } }
  rw [closedLane, dropMarked, dropUnseen, h]

/-- The lane and the table after the look for a drained window (R101). -/
theorem checkDrained_licences (l : LaneId) (s : State) :
    (checkDrained l s).licences =
      if (s.lane l).tally.phase = .closing ∧ hasMark (s.lane l).link.awaiting = false then
        released (s.lane l).tally s.licences
      else s.licences := by
  unfold checkDrained
  split
  · exact closeTally_licences l .drained s
  · rfl

theorem runEnd_licences (l : LaneId) (c : Cause) (s : State) :
    (runEnd l c s).licences =
      if (s.lane l).tally.phase = .running ∧ hasMark (s.lane l).link.awaiting = false then
        released (s.lane l).tally s.licences
      else s.licences := by
  unfold runEnd
  split
  · next h =>
    rw [checkDrained_licences, modTally, State.lane_modLane_self]
    dsimp only
    simp only [true_and, h]
    rfl
  · next h => rw [if_neg fun hh => h hh.1]

theorem runEndLane_marked {c : Cause} {x : Lane} (hp : x.tally.phase = .running) (hm : hasMark x.link.awaiting = true) :
    runEndLane c x = { x with tally := endedTally c x.tally } := by
  rw [runEndLane, if_pos hp, drainedLane, if_neg]
  intro h
  exact absurd (hm.symm.trans h.2) (by decide)

theorem runEndLane_unmarked {c : Cause} {x : Lane} (hp : x.tally.phase = .running) (hm : hasMark x.link.awaiting = false) :
    runEndLane c x = closedLane { x with tally := endedTally c x.tally } := by
  rw [runEndLane, if_pos hp, drainedLane, if_pos ⟨rfl, hm⟩]

theorem runEndLane_link (c : Cause) (x : Lane) :
    (runEndLane c x).link =
      { x.link with awaiting := (runEndLane c x).link.awaiting, unseen := (runEndLane c x).link.unseen } := by
  unfold runEndLane drainedLane
  split
  · split
    · exact closedLane_link { x with tally := endedTally c x.tally }
    · rfl
  · rfl

theorem enterState_licences (l : LaneId) (st : LaneState) (c : Cause) (s : State) :
    (enterState l st c s).licences = s.licences := changeState_licences l st c id s

theorem stopLane_licences (l : LaneId) (c : Cause) (s : State) :
    (stopLane l c s).licences = (runEnd l c s).licences := by
  unfold stopLane
  dsimp only
  split
  · rw [enterState_licences, enterState_licences]
  · rw [enterState_licences]

/-! ## Stop (R23) -/

/-- What a stop leaves of a lane: STOPPING, or ENDED at once where every output is mute. -/
theorem stoppedLane_stops (c : Cause) (x : Lane) : stopsWith c x (stoppedLane c x) := by
  obtain ⟨t, k, i, h⟩ := runEndLane_eq c x
  have htally (hp : x.tally.phase = .running) : (t.phase = .closing ∨ t.phase = .closed) ∧ t.endCause = c := by
    have := runEndLane_tally (c := c) hp
    rwa [h] at this
  unfold stoppedLane
  dsimp only
  rw [h]
  by_cases hm : everyMute x.sound.applied = true
  · rw [if_pos hm]
    exact ⟨(if_pos hm).symm, rfl, ⟨rfl, rfl, rfl, rfl⟩, rfl, rfl, htally⟩
  · rw [if_neg hm]
    exact ⟨(if_neg hm).symm, rfl, ⟨rfl, rfl, rfl, rfl⟩, rfl, rfl, htally⟩

theorem stoppedLane_rest (c : Cause) (x : Lane) :
    materialKept x (stoppedLane c x) ∧ settingsKept x (stoppedLane c x) ∧ mapKept x (stoppedLane c x) ∧
      (stoppedLane c x).tally = (runEndLane c x).tally ∧ (stoppedLane c x).link = (runEndLane c x).link := by
  obtain ⟨t, k, i, h⟩ := runEndLane_eq c x
  unfold stoppedLane
  dsimp only
  rw [h]
  split
  · exact ⟨⟨rfl, rfl, rfl, rfl, rfl, rfl, rfl, rfl⟩, ⟨rfl, rfl, rfl, rfl⟩, ⟨rfl, rfl, rfl, rfl, rfl, rfl⟩, rfl, rfl⟩
  · exact ⟨⟨rfl, rfl, rfl, rfl, rfl, rfl, rfl, rfl⟩, ⟨rfl, rfl, rfl, rfl⟩, ⟨rfl, rfl, rfl, rfl, rfl, rfl⟩, rfl, rfl⟩

theorem doStop_stops {l : LaneId} {s : State}
    (h : (s.lane l).state = .playing ∨ (s.lane l).state = .held ∨ (s.lane l).state = .seeking) :
    doStop l s = (stopLane l .operator s, okAnswer) := by
  unfold doStop
  rcases h with h | h | h
  all_goals rw [h]

/-- Settles O37. -/
theorem stopFadesTheLane : Obligations.StopFadesTheLane := by
  unfold Obligations.StopFadesTheLane
  intro l rq s hr hst
  have hc : (13, Instr.stop l rq) ∈ laneRequests l rq := by simp [laneRequests]
  obtain ⟨t, n, ht, hlane, hlic, _, _, hserved⟩ := serveLane_to hc hr (fun _ => rfl)
    (doStop_stops (s := markTaken (.lane l) s) hst) (more := []) (doStop_work l _ _) (stopLane_bare l .operator _)
  rw [stopLane_licences, runEnd_licences] at hlic
  obtain ⟨hmat, hset, hmap, htally, hlink⟩ := stoppedLane_rest .operator (s.lane l)
  refine ⟨t, ht, ?_⟩
  rw [hlane]
  refine ⟨stoppedLane_stops .operator (s.lane l), hmat, hset, hmap, ?_, fun hp hm => ⟨?_, ?_⟩, fun hp hm => ⟨?_, ?_⟩,
    hserved⟩
  · show (stoppedLane .operator (s.lane l)).link.state = _
    rw [hlink, runEndLane_link]
  · show (stoppedLane .operator (s.lane l)).tally = _
    rw [htally, runEndLane_marked hp hm]
    rfl
  · rw [hlic]
    exact if_neg fun h => absurd (hm.symm.trans h.2) (by decide)
  · show (stoppedLane .operator (s.lane l)).tally.phase = _
    rw [htally, runEndLane_unmarked hp hm]
    rfl
  · rw [hlic]
    exact congrArg LicenceTable.records (if_pos ⟨hp, hm⟩)

end Sys2Proof.Machine
end

section
/-! The requests that empty a lane, prepare its show again or move it to a reel (R7 to R9, R21, R22, R103, R104). -/

namespace Sys2Proof.Machine

/-! ## Closing at once (R103, R104) -/

/-- A lane whose tally, where it is open, is closed at once. -/
def closedAtOnce (x : Lane) : Lane := if tallyOpen x.tally = true then closedLane x else x

theorem tallyOpen_iff (t : Tally) : tallyOpen t = true ↔ t.phase = .running ∨ t.phase = .closing := by
  simp [tallyOpen]

theorem closeAtOnce_lane (l : LaneId) (w : WayClosed) (s : State) :
    (closeAtOnce l w s).lane l = closedAtOnce (s.lane l) := by
  unfold closeAtOnce closedAtOnce
  by_cases h : (s.lane l).tally.phase = .running ∨ (s.lane l).tally.phase = .closing
  · rw [if_pos h, if_pos ((tallyOpen_iff _).2 h), closeTally_lane]
  · rw [if_neg h, if_neg (fun hh => h ((tallyOpen_iff _).1 hh))]

theorem closeAtOnce_licences (l : LaneId) (w : WayClosed) (s : State) :
    (closeAtOnce l w s).licences = licencesReleased (s.lane l) s.licences := by
  unfold closeAtOnce licencesReleased
  by_cases h : (s.lane l).tally.phase = .running ∨ (s.lane l).tally.phase = .closing
  · rw [if_pos h, if_pos ((tallyOpen_iff _).2 h), closeTally_licences]
    rfl
  · rw [if_neg h, if_neg (fun hh => h ((tallyOpen_iff _).1 hh))]

/-- An entry as a tally that is built holds it. -/
def pendingEntry (e : TallyEntry) : TallyEntry := { e with status := .pending, confirmed := 0 }

theorem pendingEntry_releaseEntry (e : TallyEntry) : pendingEntry (releaseEntry e) = pendingEntry e := by
  unfold releaseEntry
  split
  · rfl
  · rfl

theorem map_pendingEntry_closedTally (t : Tally) :
    (closedTally t).entries.map pendingEntry = t.entries.map pendingEntry := by
  rw [closedTally, List.map_map]
  exact List.map_congr_left fun e _ => pendingEntry_releaseEntry e

theorem closedAtOnce_eq (x : Lane) :
    ∃ t k i, closedAtOnce x = { x with tally := t, link := k, indicators := i } ∧
      k = { x.link with awaiting := k.awaiting, unseen := k.unseen } ∧ k.state = x.link.state ∧
      (tallyOpen x.tally = false → k = x.link ∧ i = x.indicators) ∧
      t.entries.map pendingEntry = x.tally.entries.map pendingEntry := by
  unfold closedAtOnce
  split
  · next h =>
    obtain ⟨k, i, hx⟩ := closedLane_eq x
    have hk := closedLane_link x
    have hst : (closedLane x).link.state = x.link.state := (congrArg Link.state hk :)
    rw [hx] at hk hst ⊢
    exact ⟨_, k, i, rfl, hk, hst, fun hn => absurd (h.symm.trans hn) (by decide), map_pendingEntry_closedTally _⟩
  · exact ⟨_, _, _, rfl, rfl, rfl, fun _ => ⟨rfl, rfl⟩, rfl⟩

/-! ## The stores of a reel that is asked for (R133) -/

/-- The overlay with its stores asked for from a reel on. -/
def reelAsked (loaded : Option Show) (reel : Nat) (o : Overlay) : Overlay :=
  { o with
    current1 := askedStore loaded reel .one
    current2 := askedStore loaded reel .two
    next1 := askedStore loaded (reel + 1) .one
    next2 := askedStore loaded (reel + 1) .two }

theorem askStore_shape (reel : Nat) (x : Lane) (pl : Place) :
    ∃ i, askStore reel x pl =
      { x with overlay := setStore x.overlay pl (askedStore x.loaded reel (placeTrack pl)), indicators := i } := by
  obtain ⟨i, h⟩ := setIndicatorIf_eq (decide ((askedStore x.loaded reel (placeTrack pl)).state = .lost))
    .subtitleLost (putStore pl (askedStore x.loaded reel (placeTrack pl)) x)
  exact ⟨i, by rw [askStore_eq, h]; rfl⟩

theorem askReel_shape (reel : Nat) (x : Lane) :
    ∃ i, askReel reel x = { x with overlay := reelAsked x.loaded reel x.overlay, indicators := i } := by
  unfold askReel
  simp only [List.foldl_cons, List.foldl_nil]
  obtain ⟨i₁, h₁⟩ := askStore_shape reel x .current1
  rw [h₁]
  obtain ⟨i₂, h₂⟩ := askStore_shape reel
    { x with overlay := setStore x.overlay .current1 (askedStore x.loaded reel .one), indicators := i₁ } .current2
  rw [show placeTrack Place.current1 = .one from rfl, h₂]
  obtain ⟨i₃, h₃⟩ := askStore_shape (reel + 1)
    { x with
      overlay := setStore (setStore x.overlay .current1 (askedStore x.loaded reel .one)) .current2
        (askedStore x.loaded reel .two)
      indicators := i₂ } .next1
  rw [show placeTrack Place.current2 = .two from rfl, h₃]
  obtain ⟨i₄, h₄⟩ := askStore_shape (reel + 1)
    { x with
      overlay := setStore (setStore (setStore x.overlay .current1 (askedStore x.loaded reel .one)) .current2
        (askedStore x.loaded reel .two)) .next1 (askedStore x.loaded (reel + 1) .one)
      indicators := i₃ } .next2
  exact ⟨i₄, by rw [show placeTrack Place.next1 = .one from rfl, h₄]; rfl⟩

theorem storesAsked_reelAsked (sh : Show) (reel : Nat) (o : Overlay) :
    storesAsked sh reel (reelAsked (some sh) reel o) := ⟨rfl, rfl, rfl, rfl⟩

theorem flushTo_loaded_eq {reel : Nat} {x : Lane} {sh : Show} (h : x.loaded = some sh) :
    flushTo reel x =
      { x with
        tracks := flushedTracks sh reel
        subWanted := ⟨none, none⟩
        lastReal := none
        generation := x.generation + 1 } := by
  unfold flushTo
  rw [h]
  rfl

/-! ## Unload and Lane Reset (R7, R9, R103) -/

theorem doUnload_empties {l : LaneId} {s : State} (h : (s.lane l).state ≠ .empty) :
    doUnload l s = (changeState l .empty .unload unloadLane (closeAtOnce l .unload s), okAnswer) := if_neg h

theorem unload_lane_bare (l : LaneId) (s : State) :
    bare ((changeState l .empty .unload unloadLane (closeAtOnce l .unload s)).lane l) =
      bare (unloadLane (settleLane .empty .unload (closedAtOnce (s.lane l)))) := by
  rw [changeState_bare, closeAtOnce_lane]

theorem reset_lane_bare (l : LaneId) (s : State) :
    bare ((changeState l .empty .laneReset resetLane (closeAtOnce l .laneReset s)).lane l) =
      bare (resetLane (settleLane .empty .laneReset (closedAtOnce (s.lane l)))) := by
  rw [changeState_bare, closeAtOnce_lane]

/-- Settles O28. -/
theorem unloadAndLaneResetEmptyTheLane : Obligations.UnloadAndLaneResetEmptyTheLane := by
  unfold Obligations.UnloadAndLaneResetEmptyTheLane
  refine ⟨fun l rq s hr hst => ?_, fun l rq s hr => ?_⟩
  · have hc : (2, Instr.unload l rq) ∈ laneRequests l rq := by simp [laneRequests]
    obtain ⟨t, n, ht, hlane, hlic, _, _, hserved⟩ := serveLane_to hc hr (fun _ => rfl)
      (doUnload_empties (s := markTaken (.lane l) s) hst) (more := []) (doUnload_work l _ _) (unload_lane_bare l _)
    rw [changeState_licences, closeAtOnce_licences] at hlic
    obtain ⟨ta, k, i, hx, hk, _, hopen, _⟩ := closedAtOnce_eq (s.lane l)
    refine ⟨t, ht, ?_⟩
    rw [hlane, show closedAtOnce ((markTaken (.lane l) s).lane l) = _ from hx]
    exact ⟨rfl, rfl, rfl, ⟨rfl, rfl, rfl, rfl⟩, rfl, rfl, rfl, rfl, rfl, rfl, rfl, rfl, rfl, rfl, rfl, rfl, rfl, rfl,
      ⟨rfl, rfl, rfl, rfl⟩, rfl, ⟨rfl, rfl, rfl, rfl, rfl, rfl⟩,
      ⟨rfl, rfl, fun line slot j => lineSlot_silenced rfl line slot j⟩, hk, hopen, hlic, hserved⟩
  · have hc : (4, Instr.laneReset l rq) ∈ laneRequests l rq := by simp [laneRequests]
    obtain ⟨t, n, ht, hlane, hlic, _, _, hserved⟩ := serveLane_to hc hr (fun _ => rfl)
      (d := doLaneReset l (markTaken (.lane l) s)) rfl (more := []) (doLaneReset_work l _ _) (reset_lane_bare l _)
    rw [changeState_licences, closeAtOnce_licences] at hlic
    obtain ⟨ta, k, i, hx, hk, _, _, _⟩ := closedAtOnce_eq (s.lane l)
    refine ⟨t, ht, ?_⟩
    rw [hlane, show closedAtOnce ((markTaken (.lane l) s).lane l) = _ from hx]
    refine ⟨rfl, rfl, rfl, ⟨rfl, rfl, rfl, rfl⟩, rfl, rfl, rfl, rfl, rfl, rfl, rfl, rfl, rfl, rfl, rfl, rfl, rfl, rfl,
      rfl, rfl, ⟨rfl, rfl, rfl, rfl, rfl, rfl, rfl, rfl, rfl⟩,
      ⟨rfl, rfl, fun line slot j => lineSlot_silenced rfl line slot j⟩, ?_, hlic, hserved⟩
    show resetLink k = _
    rw [hk]
    rfl

/-! ## Rewind (R8, R104) -/

theorem doRewind_prepares {l : LaneId} {s : State} (hst : (s.lane l).state = .ended)
    (hk : (s.lane l).link.state ≠ .testing) :
    doRewind l s = (changeState l .loading .request rewindLane (closeAtOnce l .rewind s), okAnswer) :=
  if_neg fun h => h.elim (fun h => h hst) hk

theorem rewind_lane_bare (l : LaneId) (s : State) :
    bare ((changeState l .loading .request rewindLane (closeAtOnce l .rewind s)).lane l) =
      bare (rewindLane (settleLane .loading .request (closedAtOnce (s.lane l)))) := by
  rw [changeState_bare, closeAtOnce_lane]

theorem rewindLane_eq {x : Lane} {sh : Show} (h : x.loaded = some sh) :
    ∃ i, rewindLane x =
      { x with
        tracks := flushedTracks sh 1
        subWanted := ⟨none, none⟩
        lastReal := none
        generation := x.generation + 1
        p := 0
        tally := rebuiltTally x.tally
        scanner := clearScanner
        overlay := reelAsked (some sh) 1 (freeStores x).overlay
        indicators := i } := by
  unfold rewindLane
  rw [flushTo_loaded_eq h]
  obtain ⟨i, hi⟩ := askReel_shape 1
    (freeStores
      { x with
        tracks := flushedTracks sh 1
        subWanted := ⟨none, none⟩
        lastReal := none
        generation := x.generation + 1
        p := 0
        tally := rebuiltTally x.tally
        scanner := clearScanner })
  refine ⟨i, hi.trans ?_⟩
  dsimp only [freeStores]
  rw [h]

/-- Settles O29. -/
theorem rewindPreparesTheShowAgain : Obligations.RewindPreparesTheShowAgain := by
  unfold Obligations.RewindPreparesTheShowAgain
  intro l rq s sh hr hst hk hsh
  have hc : (3, Instr.rewind l rq) ∈ laneRequests l rq := by simp [laneRequests]
  obtain ⟨ta, k, i, hx, _, hkst, _, hent⟩ := closedAtOnce_eq (s.lane l)
  have hbare := rewind_lane_bare l (markTaken (.lane l) s)
  rw [show closedAtOnce ((markTaken (.lane l) s).lane l) = _ from hx] at hbare
  obtain ⟨j, hj⟩ := rewindLane_eq
    (x := settleLane .loading .request { s.lane l with tally := ta, link := k, indicators := i }) hsh
  rw [show rewindLane _ = _ from hj] at hbare
  obtain ⟨t, n, ht, hlane, hlic, _, _, hserved⟩ := serveLane_to hc hr (fun _ => rfl)
    (doRewind_prepares (s := markTaken (.lane l) s) hst hk) (more := []) (doRewind_work l _ _) hbare
  rw [changeState_licences, closeAtOnce_licences] at hlic
  refine ⟨t, ht, ?_⟩
  rw [hlane]
  exact ⟨rfl, hsh, rfl, ⟨rfl, rfl, rfl, rfl⟩, rfl, rfl, hent, rfl, rfl, rfl, rfl, storesAsked_reelAsked _ _ _, rfl,
    ⟨rfl, rfl, rfl, rfl⟩, ⟨rfl, rfl, rfl, rfl, rfl, rfl⟩, hkst, hlic, hserved⟩

/-! ## Resume and Seek (R21, R22) -/

theorem doResume_plays {l : LaneId} {s : State} (hst : (s.lane l).state = .held)
    (he : emergencyBlocks s l = false) :
    doResume l s = (changeState l .playing .request resumeLane s, okAnswer) := by
  unfold doResume
  rw [if_neg (not_not.2 hst), he, if_neg Bool.false_ne_true]

theorem doResume_refuses {l : LaneId} {s : State} (hst : (s.lane l).state = .held)
    (he : emergencyBlocks s l = true) : doResume l s = (s, ⟨.inputActive, .none, 0, []⟩) := by
  unfold doResume
  rw [if_neg (not_not.2 hst), if_pos he]

theorem seekLane_eq {reel start : Nat} {x : Lane} {sh : Show} (h : x.loaded = some sh) :
    ∃ i, seekLane reel start x =
      { x with
        tracks := flushedTracks sh reel
        subWanted := ⟨none, none⟩
        lastReal := none
        generation := x.generation + 1
        p := start
        overlay := reelAsked (some sh) reel (freeStores x).overlay
        indicators := i } := by
  unfold seekLane
  rw [flushTo_loaded_eq h]
  obtain ⟨i, hi⟩ := askReel_shape reel
    (freeStores
      { x with
        tracks := flushedTracks sh reel
        subWanted := ⟨none, none⟩
        lastReal := none
        generation := x.generation + 1
        p := start })
  refine ⟨i, hi.trans ?_⟩
  dsimp only [freeStores]
  rw [h]

theorem doSeek_moves {l : LaneId} {rq : Req} {s : State} {sh : Show} {r : Reel} (hst : (s.lane l).state = .held)
    (hsh : (s.lane l).loaded = some sh) (hreel : nthReel sh rq.w0.toNat = some r) :
    doSeek l rq s =
      (changeState l .seeking .request (seekLane rq.w0.toNat r.start) (clearMarksFrom l r.start s), okAnswer) := by
  unfold doSeek
  rw [if_neg (not_not.2 hst), hsh, Option.bind_some, hreel]

theorem doSeek_refuses {l : LaneId} {rq : Req} {s : State} {sh : Show} (hst : (s.lane l).state = .held)
    (hsh : (s.lane l).loaded = some sh) (hreel : nthReel sh rq.w0.toNat = none) :
    doSeek l rq s = (s, paramAnswer .reelIndex) := by
  unfold doSeek
  rw [if_neg (not_not.2 hst), hsh, Option.bind_some, hreel]

/-! ## The part words of a mark set (R157, R161) -/

/-- Work that writes part words of a lane's cue table and notes the failed ones. -/
structure PartsWritten (l : LaneId) (s t : State) : Prop where
  lane : ∃ w, t.lane l = { s.lane l with scanner := { (s.lane l).scanner with writePending := w } }
  licences : t.licences = s.licences
  clockUnit : t.clockUnit = s.clockUnit
  inputs : t.inputs = s.inputs
  unreported : unreported s t

theorem PartsWritten.refl (l : LaneId) (s : State) : PartsWritten l s s := ⟨⟨_, rfl⟩, rfl, rfl, rfl, rfl, rfl⟩

theorem PartsWritten.trans {l : LaneId} {s t u : State} (h : PartsWritten l s t) (k : PartsWritten l t u) :
    PartsWritten l s u := by
  obtain ⟨w, hw⟩ := h.lane
  obtain ⟨v, hv⟩ := k.lane
  exact ⟨⟨v, by rw [hv, hw]⟩, k.licences.trans h.licences, k.clockUnit.trans h.clockUnit, k.inputs.trans h.inputs,
    k.unreported.1.trans h.unreported.1, k.unreported.2.trans h.unreported.2⟩

theorem setPending_written (l : LaneId) (i : Nat) (b : Bool) (h : HostSide) (s : State) :
    PartsWritten l s (modScanner l (setPending i b) { s with host := h }) :=
  ⟨⟨(s.lane l).scanner.writePending.set i b, by rw [modScanner, State.lane_modLane_self]; rfl⟩, rfl, rfl, rfl, rfl, rfl⟩

theorem writePart_written (l : LaneId) (s : State) (i : Nat) : PartsWritten l s (writePart l s i) := by
  unfold writePart
  split
  · exact .refl l s
  · split
    · exact setPending_written l i false _ s
    · exact setPending_written l i true s.host s

theorem writeParts_written (l : LaneId) (is : List Nat) (s : State) : PartsWritten l s (writeParts l is s) := by
  unfold writeParts
  induction is generalizing s with
  | nil => exact .refl l s
  | cons i is ih => exact (writePart_written l s i).trans (ih _)

/-- A lane whose marks are replaced and their part words written. -/
theorem marksReplaced (l : LaneId) (f : List Mark → List Mark) (is : List Nat) (s : State) :
    let t := writeParts l is (modScanner l (fun c => { c with marks := f c.marks }) s)
    (∃ w, t.lane l =
      { s.lane l with scanner := { (s.lane l).scanner with marks := f (s.lane l).scanner.marks, writePending := w } }) ∧
      t.licences = s.licences ∧ t.clockUnit = s.clockUnit ∧ t.inputs = s.inputs := by
  have h := writeParts_written l is (modScanner l (fun c => { c with marks := f c.marks }) s)
  obtain ⟨w, hw⟩ := h.lane
  refine ⟨⟨w, ?_⟩, h.licences, h.clockUnit, h.inputs⟩
  rw [hw, modScanner, State.lane_modLane_self]

/-- Settles O36. -/
theorem resumePlaysOnAndSeekMovesToTheReel : Obligations.ResumePlaysOnAndSeekMovesToTheReel := by
  unfold Obligations.ResumePlaysOnAndSeekMovesToTheReel
  refine ⟨fun l rq s hr hst => ⟨fun he => ?_, fun he => ?_⟩, fun l rq s sh hr hst hsh => ⟨fun r hreel => ?_, fun hreel => ?_⟩⟩
  · have hc : (12, Instr.resume l rq) ∈ laneRequests l rq := by simp [laneRequests]
    obtain ⟨t, n, ht, hlane, hlic, _, _, hserved⟩ := serveLane_to hc hr (fun _ => rfl)
      (doResume_plays (s := markTaken (.lane l) s) hst he) (more := []) (doResume_work l _ _)
      (changeState_bare l .playing .request resumeLane _)
    rw [changeState_licences] at hlic
    refine ⟨t, ht, ?_⟩
    rw [hlane]
    exact ⟨rfl, rfl, ⟨rfl, rfl, rfl, rfl⟩, rfl, rfl, rfl, rfl, rfl, rfl, rfl, rfl, rfl, rfl, rfl,
      ⟨rfl, rfl, rfl, rfl⟩, ⟨rfl, rfl, rfl, rfl, rfl, rfl⟩, hlic, hserved⟩
  · have hc : (12, Instr.resume l rq) ∈ laneRequests l rq := by simp [laneRequests]
    obtain ⟨t, ht, ⟨hlane, _, hserved⟩, _⟩ := serveLane_refuses hc hr (fun _ => rfl)
      (doResume_refuses (s := markTaken (.lane l) s) hst he)
    exact ⟨t, ht, hlane, hserved⟩
  · have hc : (14, Instr.seek l rq) ∈ laneRequests l rq := by simp [laneRequests]
    obtain ⟨⟨w, hmarks⟩, hmlic, _, _⟩ := marksReplaced l
      (fun ms => ms.map fun m => if markAtOrAfter r.start m then .clear else m)
      ((List.range 32).filter fun i =>
        markAtOrAfter r.start ((s.lane l).scanner.marks.getD i .clear) || (s.lane l).scanner.writePending.getD i false)
      (markTaken (.lane l) s)
    have hbare := changeState_bare l .seeking .request (seekLane rq.w0.toNat r.start)
      (clearMarksFrom l r.start (markTaken (.lane l) s))
    have hmarks' : (clearMarksFrom l r.start (markTaken (.lane l) s)).lane l = _ := hmarks
    obtain ⟨j, hj⟩ := seekLane_eq (reel := rq.w0.toNat) (start := r.start) (sh := sh)
      (x := settleLane .seeking .request ((clearMarksFrom l r.start (markTaken (.lane l) s)).lane l))
      (by rw [hmarks']; exact hsh)
    rw [hj, hmarks'] at hbare
    obtain ⟨t, n, ht, hlane, hlic, _, _, hserved⟩ := serveLane_to hc hr (fun _ => rfl)
      (doSeek_moves (s := markTaken (.lane l) s) hst hsh hreel) (more := partAreas (s.lane l))
      (doSeek_work rq (List.subset_cons_self _ _)) hbare
    rw [changeState_licences] at hlic
    refine ⟨t, ht, ?_⟩
    rw [hlane]
    have htimer (n : Nat) : (if LaneState.seeking = .held ∨ LaneState.seeking = .seeking then n else 0) = n := rfl
    exact ⟨rfl, rfl, hsh, rfl, rfl, rfl, rfl, storesAsked_reelAsked _ _ _, rfl, htimer _, htimer _, rfl, rfl, rfl, rfl,
      ⟨rfl, rfl, rfl, rfl⟩, ⟨rfl, rfl, rfl, rfl, rfl, rfl⟩, rfl, hlic.trans hmlic, hserved⟩
  · have hc : (14, Instr.seek l rq) ∈ laneRequests l rq := by simp [laneRequests]
    obtain ⟨t, ht, ⟨hlane, hlic, hserved⟩, _⟩ := serveLane_refuses hc hr (fun _ => rfl)
      (doSeek_refuses (s := markTaken (.lane l) s) hst hsh hreel)
    exact ⟨t, ht, hlane, hlic, hserved⟩

end Sys2Proof.Machine
end

section
/-! The start of a run (R10 to R12). -/

namespace Sys2Proof.Machine

/-! ## The showings that a run reserves (R85) -/

theorem showingLimit_eq (x : Licence) : showingLimit x = if x.allowance = 0 then 65535 else x.allowance := rfl

/-- Why a licence that does not grant a showing refuses it. -/
def refusalReason (l : LaneId) (head : Option Word64) (x : Licence) : Reason :=
  if x.state = .clockUnknown then .clock
  else if x.state = .waiting ∨ x.state = .closed then .notOpen
  else if admitsLane x l = false then .lane
  else if permitsHead x head = false then .headNotPermitted
  else .allowance

theorem reserveRefusal_of_grants {l : LaneId} {head : Option Word64} {x : Licence} (h : grants l head x) :
    reserveRefusal l head x = none := by
  obtain ⟨hu, hw, hc, hl, hh, ha⟩ := h
  unfold reserveRefusal
  rw [if_neg hu, if_neg (fun h => h.elim hw hc), hl, hh, if_neg (by decide), if_neg (by decide), if_neg (by
    rw [showingLimit_eq]; omega)]

theorem reserveRefusal_of_not_grants {l : LaneId} {head : Option Word64} {x : Licence} (h : ¬ grants l head x) :
    reserveRefusal l head x = some (refusalReason l head x) := by
  unfold reserveRefusal refusalReason
  by_cases hu : x.state = .clockUnknown
  · rw [if_pos hu, if_pos hu]
  by_cases hw : x.state = .waiting ∨ x.state = .closed
  · rw [if_neg hu, if_neg hu, if_pos hw, if_pos hw]
  rw [if_neg hu, if_neg hu, if_neg hw, if_neg hw]
  cases hl : admitsLane x l
  · rfl
  cases hh : permitsHead x head
  · rfl
  obtain ⟨hw, hc⟩ := not_or.1 hw
  have ha : showingLimit x ≤ x.counted + x.inFlight := not_lt.1 fun ha => h ⟨hu, hw, hc, hl, hh, ha⟩
  rw [if_neg (by decide), if_neg (by decide), if_pos ha, if_neg (by decide), if_neg (by decide)]

theorem firstRefusal_of_granted {records : List (Option Licence)} {l : LaneId} {head : Option Word64} {ids : List Nat}
    (h : ∀ id ∈ ids, ∀ x, findLicence records id = some x → grants l head x) :
    firstRefusal records l head ids = none := by
  induction ids with
  | nil => rfl
  | cons id ids ih =>
    have hnone : (findLicence records id).bind (reserveRefusal l head) = none := by
      cases hf : findLicence records id with
      | none => rfl
      | some x => exact reserveRefusal_of_grants (h id List.mem_cons_self x hf)
    rw [firstRefusal, hnone]
    exact ih fun id hid => h id (List.mem_cons_of_mem _ hid)

theorem firstRefusal_of_refused {records : List (Option Licence)} {l : LaneId} {head : Option Word64}
    {before after : List Nat} {id : Nat} {x : Licence} (hx : findLicence records id = some x)
    (hno : ¬ grants l head x) (h : ∀ id ∈ before, ∀ x, findLicence records id = some x → grants l head x) :
    firstRefusal records l head (before ++ id :: after) = some (id, refusalReason l head x) := by
  induction before with
  | nil =>
    rw [List.nil_append, firstRefusal, hx, Option.bind_some, reserveRefusal_of_not_grants hno]
  | cons b before ih =>
    have hnone : (findLicence records b).bind (reserveRefusal l head) = none := by
      cases hf : findLicence records b with
      | none => rfl
      | some y => exact reserveRefusal_of_grants (h b List.mem_cons_self y hf)
    rw [List.cons_append, firstRefusal, hnone]
    exact ih fun id hid => h id (List.mem_cons_of_mem _ hid)

/-! ## The preconditions of a start (R10) -/

theorem startRefusal_of_mayStart {l : LaneId} {s : State} (h : mayStart l s) : startRefusal l s = none := by
  obtain ⟨he, hm, hk, hh, hg⟩ := h
  unfold startRefusal
  dsimp only
  rw [he, if_neg Bool.false_ne_true, if_neg (not_not.2 hm), if_neg (not_not.2 hk), if_neg (not_not.2 hh),
    firstRefusal_of_granted]
  · rfl
  · intro id hid x hx
    obtain ⟨e, hent, rfl⟩ := List.mem_map.1 hid
    exact hg e hent x hx

theorem startRefusal_input {l : LaneId} {s : State} (h : emergencyBlocks s l = true) :
    startRefusal l s = some ⟨.inputActive, .none, 0, []⟩ := if_pos h

theorem startRefusal_map {l : LaneId} {s : State} (he : emergencyBlocks s l = false)
    (h : (s.lane l).sound.stage ≠ .complete) : startRefusal l s = some ⟨.soundMap, .none, 0, []⟩ := by
  unfold startRefusal
  dsimp only
  rw [he, if_neg Bool.false_ne_true, if_pos h]

theorem startRefusal_link {l : LaneId} {s : State} (he : emergencyBlocks s l = false)
    (hm : (s.lane l).sound.stage = .complete) (h : (s.lane l).link.state ≠ .locked) :
    startRefusal l s = some ⟨.link, .none, 0, []⟩ := by
  unfold startRefusal
  dsimp only
  rw [he, if_neg Bool.false_ne_true, if_neg (not_not.2 hm), if_pos h]

theorem startRefusal_head {l : LaneId} {s : State} (he : emergencyBlocks s l = false)
    (hm : (s.lane l).sound.stage = .complete) (hk : (s.lane l).link.state = .locked)
    (h : (s.lane l).link.headStatus ≠ .ready) : startRefusal l s = some ⟨.head, .none, 0, []⟩ := by
  unfold startRefusal
  dsimp only
  rw [he, if_neg Bool.false_ne_true, if_neg (not_not.2 hm), if_neg (not_not.2 hk), if_pos h]

theorem startRefusal_licence {l : LaneId} {s : State} (he : emergencyBlocks s l = false)
    (hm : (s.lane l).sound.stage = .complete) (hk : (s.lane l).link.state = .locked)
    (hh : (s.lane l).link.headStatus = .ready) {id : Nat} {why : Reason} (h : startRefusedFor l s id why) :
    startRefusal l s = some ⟨.licence, why, 0, [id]⟩ := by
  obtain ⟨before, e, after, x, hent, rfl, hx, ⟨hwhy, hno⟩, hbefore⟩ := h
  unfold startRefusal
  dsimp only
  rw [he, if_neg Bool.false_ne_true, if_neg (not_not.2 hm), if_neg (not_not.2 hk), if_neg (not_not.2 hh),
    tallyLicences, hent, List.map_append, List.map_cons, firstRefusal_of_refused hx hno]
  · rw [hwhy]
    rfl
  · intro id hid y hy
    obtain ⟨f, hf, rfl⟩ := List.mem_map.1 hid
    exact hbefore f hf y hy

/-! ## The run begun (R11) -/

theorem startRun_begins (l : LaneId) (c : Cause) (s : State) :
    (∃ y, bare ((startRun l c s).lane l) = bare y ∧ runBegun (s.lane l) y) ∧
      (startRun l c s).licences =
        { s.licences with records := recordsReserved (tallyLicences (s.lane l).tally) s.licences.records } := by
  obtain ⟨⟨w, hmarks⟩, hlic, _, _⟩ := marksReplaced l (fun _ => clearScanner.marks) (List.range 32)
    (reserveAll (tallyLicences (s.lane l).tally) s)
  rw [reserveAll_lane] at hmarks
  refine ⟨⟨_, changeState_bare l .playing c runLane _, ?_⟩, (changeState_licences l _ _ _ _).trans hlic⟩
  rw [show (clearMarks l (reserveAll (tallyLicences (s.lane l).tally) s)).lane l = _ from hmarks]
  exact ⟨rfl, ⟨rfl, rfl, rfl, rfl⟩, rfl, rfl, rfl, rfl, rfl, rfl, rfl, rfl, rfl, rfl, rfl, rfl, rfl, rfl, rfl,
    ⟨rfl, rfl, rfl, rfl, rfl, rfl⟩, ⟨rfl, rfl, rfl, rfl⟩⟩

theorem runBegun_statusCount {x y : Lane} (h : runBegun x y) (n : Nat) : runBegun x { y with statusCount := n } := h

theorem attemptStart_of_mayStart {l : LaneId} {s : State} (h : mayStart l s) :
    attemptStart l s = (startRun l .request s, okAnswer) := by
  unfold attemptStart
  rw [startRefusal_of_mayStart h]

theorem attemptStart_of_refusal {l : LaneId} {s : State} {a : Answer} (h : startRefusal l s = some a) :
    attemptStart l s = (s, a) := by
  unfold attemptStart
  rw [h]

theorem doStart_ready {l : LaneId} {s : State} (h : (s.lane l).state = .ready) :
    doStart l s = attemptStart l s := if_neg (not_not.2 h)

theorem doStartAt_due {l : LaneId} {rq : Req} {s : State} (h : (s.lane l).state = .ready)
    (hin : wide rq.w0 rq.w1 ≤ 2 ^ 40 - 1) (hv : s.licences.clockValid = true)
    (hdue : wide rq.w0 rq.w1 ≤ s.licences.clock) : doStartAt l rq s = attemptStart l s := by
  unfold doStartAt
  rw [if_neg (show ¬ Config.clockMax < wide rq.w0 rq.w1 from not_lt.2 hin), if_neg (not_not.2 h), hv,
    if_neg (by decide), if_pos hdue]

theorem doStartAt_noClock {l : LaneId} {rq : Req} {s : State} (h : (s.lane l).state = .ready)
    (hin : wide rq.w0 rq.w1 ≤ 2 ^ 40 - 1) (hv : s.licences.clockValid = false) :
    doStartAt l rq s = (s, ⟨.clock, .none, 0, []⟩) := by
  unfold doStartAt
  rw [if_neg (show ¬ Config.clockMax < wide rq.w0 rq.w1 from not_lt.2 hin), if_neg (not_not.2 h), hv,
    if_pos (by decide)]

/-- A request of a READY lane that attempts the start at once. -/
structure Starts (l : LaneId) (kind : Nat) (rq : Req) (c : Instr) (s : State) : Prop where
  listed : (kind, c) ∈ laneRequests l rq
  attempts : ∀ b, laneRequest l kind rq b (markTaken (.lane l) s) = some (attemptStart l (markTaken (.lane l) s))

theorem starts_start {l : LaneId} {rq : Req} {s : State} (h : (s.lane l).state = .ready) :
    Starts l 7 rq (.start l rq) s :=
  ⟨by simp [laneRequests], fun _ => congrArg some (doStart_ready (s := markTaken (.lane l) s) h)⟩

theorem starts_startAt {l : LaneId} {rq : Req} {s : State} (h : (s.lane l).state = .ready)
    (hin : wide rq.w0 rq.w1 ≤ 2 ^ 40 - 1) (hv : s.licences.clockValid = true)
    (hdue : wide rq.w0 rq.w1 ≤ s.licences.clock) : Starts l 8 rq (.startAt l rq) s :=
  ⟨by simp [laneRequests], fun _ => congrArg some (doStartAt_due (s := markTaken (.lane l) s) h hin hv hdue)⟩

theorem Starts.begins {l : LaneId} {kind : Nat} {rq : Req} {c : Instr} {s : State} (h : Starts l kind rq c s)
    (hr : reaches (.lane l) rq s) (hm : mayStart l s) :
    ∃ t, exec c s = .next t ∧ runBegun (s.lane l) (t.lane l) ∧
      t.licences =
        { s.licences with records := recordsReserved (tallyLicences (s.lane l).tally) s.licences.records } ∧
      laneServed l kind rq ⟨.ok, .none, 0, []⟩ (partAreas (s.lane l)) s t := by
  obtain ⟨⟨y, hy, hrun⟩, hlic⟩ := startRun_begins l .request (markTaken (.lane l) s)
  obtain ⟨t, n, ht, hlane, hlict, _, _, hserved⟩ := serveLane_to h.listed hr h.attempts
    (attemptStart_of_mayStart (s := markTaken (.lane l) s) hm) (more := partAreas (s.lane l))
    (attemptStart_work (List.subset_cons_self _ _)) hy
  refine ⟨t, ht, ?_⟩
  rw [hlane]
  exact ⟨runBegun_statusCount hrun n, hlict.trans hlic, hserved⟩

theorem Starts.answers {l : LaneId} {kind : Nat} {rq : Req} {c : Instr} {s : State} (h : Starts l kind rq c s)
    (hr : reaches (.lane l) rq s) :
    ∃ t, exec c s = .next t ∧ ∀ a, startRefusal l s = some a → laneRefused l kind rq a s t ∧ unreported s t := by
  cases hs : startRefusal l s with
  | some a =>
    obtain ⟨t, ht, href, _, hun⟩ := serveLane_refuses h.listed hr h.attempts
      (attemptStart_of_refusal (s := markTaken (.lane l) s) hs)
    exact ⟨t, ht, fun b hb => by cases hb; exact ⟨href, hun⟩⟩
  | none =>
    obtain ⟨t, ht, _⟩ := everyCommandKeepsTheQueue c s
    exact ⟨t, ht, fun b hb => nomatch hb⟩

/-- Settles O33. -/
theorem startBeginsTheRun : Obligations.StartBeginsTheRun := by
  unfold Obligations.StartBeginsTheRun
  refine ⟨fun l rq s hr hst hm => ⟨?_, fun hin hv hdue => ?_⟩, fun l rq s kind c hr hst hk => ?_,
    fun l rq s hr hst hv hin => ?_⟩
  · exact (starts_start hst).begins hr hm
  · exact (starts_startAt hst hin hv hdue).begins hr hm
  · have hstarts : Starts l kind rq c s := by
      rcases hk with ⟨rfl, rfl⟩ | ⟨rfl, rfl, hv, hdue, hin⟩
      · exact starts_start hst
      · exact starts_startAt hst hin hv hdue
    obtain ⟨t, ht, href⟩ := hstarts.answers hr
    exact ⟨t, ht, fun he => href _ (startRefusal_input he), fun he =>
      ⟨fun hm => href _ (startRefusal_map he hm), fun hm =>
        ⟨fun hk => href _ (startRefusal_link he hm hk), fun hk =>
          ⟨fun hh => href _ (startRefusal_head he hm hk hh), fun hh id why hno =>
            href _ (startRefusal_licence he hm hk hh hno)⟩⟩⟩⟩
  · have hc : (8, Instr.startAt l rq) ∈ laneRequests l rq := by simp [laneRequests]
    obtain ⟨t, ht, href, _⟩ := serveLane_refuses hc hr (fun _ => rfl)
      (doStartAt_noClock (s := markTaken (.lane l) s) hst hin hv)
    exact ⟨t, ht, href⟩

end Sys2Proof.Machine
end

section
/-! Load Show (R4, R5). -/

namespace Sys2Proof.Machine

/-! ## The first failing member of a list -/

theorem firstFailing_of_firstBad {ok : RawReel → Bool} {rs : List RawReel} {i : Nat} (h : firstBad ok rs i) (n : Nat) :
    firstFailing ok n rs = some (i + n) := by
  obtain ⟨hi, hbad, hbefore⟩ := h
  induction rs generalizing i n with
  | nil => exact absurd hi (Nat.not_lt_zero i)
  | cons r rs ih =>
    cases i with
    | zero => rw [firstFailing, hbad r rfl, if_neg Bool.false_ne_true, Nat.zero_add]
    | succ i =>
      rw [firstFailing, hbefore 0 (Nat.succ_pos i) r rfl, if_pos rfl,
        ih (n + 1) (Nat.lt_of_succ_lt_succ hi) (fun x hx => hbad x hx)
          (fun j hj x hx => hbefore (j + 1) (Nat.succ_lt_succ hj) x hx)]
      exact congrArg some (by omega)

theorem firstFailing_of_all {ok : RawReel → Bool} {rs : List RawReel} (h : ∀ r ∈ rs, ok r = true) (n : Nat) :
    firstFailing ok n rs = none := by
  induction rs generalizing n with
  | nil => rfl
  | cons r rs ih =>
    rw [firstFailing, h r List.mem_cons_self, if_pos rfl, ih fun r hr => h r (List.mem_cons_of_mem _ hr)]

theorem findSome?_of_getElem? {α β : Type} {f : α → Option β} {xs : List α} {k : Nat} {x : α} {b : β}
    (hx : xs[k]? = some x) (hbefore : ∀ q ∈ xs.take k, f q = none) (hf : f x = some b) :
    xs.findSome? f = some b := by
  obtain ⟨hk, hxk⟩ := List.getElem?_eq_some_iff.1 hx
  refine List.findSome?_eq_some_iff.2 ⟨xs.take k, x, xs.drop (k + 1), ?_, hf, hbefore⟩
  rw [← hxk, List.cons_getElem_drop_succ, List.take_append_drop]

theorem find?_not_of_firstBad {α : Type} {ok : α → Bool} {xs : List α} {i : Nat} {x : α} (h : firstBad ok xs i)
    (hx : xs[i]? = some x) : xs.find? (fun x => !ok x) = some x := by
  obtain ⟨hi, hbad, hbefore⟩ := h
  refine List.find?_eq_some_iff_getElem.2 ⟨by rw [hbad x hx]; rfl, i, hi, ?_, fun j hj => ?_⟩
  · exact (List.getElem?_eq_some_iff.1 hx).2
  · rw [hbefore j hj xs[j] (List.getElem?_eq_getElem _)]
    rfl

/-! ## The load checks (R4) -/

/-- The answer of a reel check that some reel fails. -/
def reelRefusal (raw : RawShow) (q : (RawReel → Bool) × Reason) : Option Answer :=
  (firstFailing q.1 1 raw.reels).map fun i => paramAt q.2 i

theorem formRefusal_eq {raw : RawShow} (h : raw.rate ∈ [24, 25, 30, 48, 50, 60]) :
    formRefusal raw =
      ((reelChecks raw).findSome? (reelRefusal raw)).or
        (if Config.showMax < (raw.reels.map RawReel.duration).sum then some (paramAnswer .length) else none) := by
  have hrate : editRates.contains raw.rate = true := List.contains_iff_mem.2 h
  have hlist : formRefusal raw =
      ((reelChecks raw).map (reelRefusal raw) ++
        [if Config.showMax < (raw.reels.map RawReel.duration).sum then some (paramAnswer .length)
          else none]).findSome? id := by
    unfold formRefusal
    rw [hrate]
    rfl
  rw [hlist, List.findSome?_append, List.findSome?_map, Function.id_comp, List.findSome?_singleton]
  rfl

theorem formRefusal_rate {raw : RawShow} (h : raw.rate ∉ [24, 25, 30, 48, 50, 60]) :
    formRefusal raw = some ⟨.param, .editRate, 0, []⟩ := by
  have hrate : editRates.contains raw.rate = false := by
    rw [← Bool.not_eq_true, List.contains_iff_mem]
    exact h
  unfold formRefusal
  rw [hrate]
  rfl

theorem reelRefusal_of_all {raw : RawShow} {q : (RawReel → Bool) × Reason} (h : ∀ r ∈ raw.reels, q.1 r = true) :
    reelRefusal raw q = none := by
  rw [reelRefusal, firstFailing_of_all h]
  rfl

theorem formRefusal_reel {raw : RawShow} (hrate : raw.rate ∈ [24, 25, 30, 48, 50, 60]) {k : Nat}
    {ok : RawReel → Bool} {why : Reason} {i : Nat} (hk : (reelChecks raw)[k]? = some (ok, why))
    (hbefore : ∀ q ∈ (reelChecks raw).take k, ∀ r ∈ raw.reels, q.1 r = true) (hbad : firstBad ok raw.reels i) :
    formRefusal raw = some ⟨.param, why, i + 1, []⟩ := by
  have hthis : reelRefusal raw (ok, why) = some ⟨.param, why, i + 1, []⟩ := by
    rw [reelRefusal, firstFailing_of_firstBad hbad]
    rfl
  rw [formRefusal_eq hrate, findSome?_of_getElem? hk (fun q hq => reelRefusal_of_all (hbefore q hq)) hthis]
  rfl

theorem formRefusal_reelsPass {raw : RawShow} (hrate : raw.rate ∈ [24, 25, 30, 48, 50, 60])
    (hall : ∀ q ∈ reelChecks raw, ∀ r ∈ raw.reels, q.1 r = true) :
    formRefusal raw =
      if Config.showMax < (raw.reels.map RawReel.duration).sum then some (paramAnswer .length) else none := by
  rw [formRefusal_eq hrate, List.findSome?_eq_none_iff.2 fun q hq => reelRefusal_of_all (hall q hq), Option.none_or]

theorem licenceRefusal_key {t : LicenceTable} {l : LaneId} {raw : RawShow} {sh : Show} {i : Nat}
    (h : firstBad (keysKnown t.keys) raw.reels i) :
    licenceRefusal t l raw sh = some ⟨.licence, .keyUnknown, i + 1, []⟩ := by
  unfold licenceRefusal
  rw [firstFailing_of_firstBad h]

theorem licenceRefusal_keysKnown {t : LicenceTable} {l : LaneId} {raw : RawShow} {sh : Show}
    (h : ∀ r ∈ raw.reels, keysKnown t.keys r = true) :
    licenceRefusal t l raw sh =
      if 8 < (showLicences sh.reels).length then some (paramAnswer .licenceCount)
      else
        ((showLicences sh.reels).find? fun id => !(findLicence t.records id).any fun x => admitsLane x l).map
          fun id => ⟨.licence, .lane, 0, [id]⟩ := by
  have hany (id : Nat) : ((findLicence t.records id).map fun x => admitsLane x l).getD false =
      (findLicence t.records id).any fun x => admitsLane x l := by
    cases findLicence t.records id <;> rfl
  unfold licenceRefusal
  rw [firstFailing_of_all h]
  simp only [hany]

/-! ## The show list that is loaded, or the first check that it fails -/

theorem loadableShow_read {s : State} {l : LaneId} {a : Nat} {e : Answer} (h : readShow s.host a = .error e) :
    loadableShow s l a = .error e := by
  unfold loadableShow
  rw [h]

theorem loadableShow_form {s : State} {l : LaneId} {a : Nat} {raw : RawShow} {e : Answer}
    (h : readShow s.host a = .ok raw) (hf : formRefusal raw = some e) : loadableShow s l a = .error e := by
  unfold loadableShow
  rw [h]
  dsimp only
  rw [hf]

theorem loadableShow_licence {s : State} {l : LaneId} {a : Nat} {raw : RawShow} {e : Answer}
    (h : readShow s.host a = .ok raw) (hf : formRefusal raw = none)
    (hl : licenceRefusal s.licences l raw (showOfRaw s.licences.keys raw) = some e) :
    loadableShow s l a = .error e := by
  unfold loadableShow
  rw [h]
  dsimp only
  rw [hf]
  dsimp only
  rw [hl]

theorem readShow_unread {h : HostSide} {a : Nat} (hn : hostRead h a 32 = none) :
    readShow h a = .error ⟨.param, .readError, 0, []⟩ := by
  unfold readShow
  rw [hn]
  rfl

theorem readShow_reelCount {h : HostSide} {a : Nat} {bs : List Byte} (hb : hostRead h a 32 = some bs)
    (hc : field bs 1 1 = 0 ∨ 64 < field bs 1 1) : readShow h a = .error ⟨.param, .reelCount, 0, []⟩ := by
  unfold readShow
  rw [hb]
  exact if_pos hc

theorem readShow_reel {h : HostSide} {a : Nat} {bs : List Byte} {i : Nat} (hb : hostRead h a 32 = some bs)
    (h1 : 1 ≤ field bs 1 1) (h64 : field bs 1 1 ≤ 64) (hr : readReels h a (field bs 1 1) 1 = .error i) :
    readShow h a = .error ⟨.param, .readError, i, []⟩ := by
  unfold readShow
  rw [hb]
  dsimp only
  rw [if_neg (by omega), hr]
  rfl

/-! ## The lane loaded (R5) -/

theorem doLoadShow_loads {l : LaneId} {rq : Req} {s : State} {sh : Show} (hst : (s.lane l).state = .empty)
    (hk : (s.lane l).link.state ≠ .testing) (hsh : loadableShow s l (wide rq.w0 rq.w1) = .ok sh) :
    doLoadShow l rq s =
      (changeState l .loading .request (loadLane s.licences.records sh) s,
        okWords [sh.total, sh.reels.length, (showLicences sh.reels).length]) := by
  unfold doLoadShow
  rw [if_neg (fun h => h.elim (fun h => h hst) hk), hsh]

theorem doLoadShow_refuses {l : LaneId} {rq : Req} {s : State} {a : Answer} (hst : (s.lane l).state = .empty)
    (hk : (s.lane l).link.state ≠ .testing) (hsh : loadableShow s l (wide rq.w0 rq.w1) = .error a) :
    doLoadShow l rq s = (s, a) := by
  unfold doLoadShow
  rw [if_neg (fun h => h.elim (fun h => h hst) hk), hsh]

theorem loadLane_eq (records : List (Option Licence)) (sh : Show) (x : Lane) :
    ∃ i, loadLane records sh x =
      { x with
        loaded := some sh
        p := 0
        tally := builtTally records sh
        tracks := flushedTracks sh 1
        subWanted := ⟨none, none⟩
        lastReal := none
        scanner := clearScanner
        overlay := reelAsked (some sh) 1 x.overlay
        indicators := i } :=
  askReel_shape 1
    { x with
      loaded := some sh
      p := 0
      tally := builtTally records sh
      tracks := flushedTracks sh 1
      subWanted := ⟨none, none⟩
      lastReal := none
      scanner := clearScanner }

theorem loadShow_answers {l : LaneId} {rq : Req} {s : State} (hr : reaches (.lane l) rq s)
    (hst : (s.lane l).state = .empty) (hk : (s.lane l).link.state ≠ .testing) :
    ∃ t, exec (.loadShow l rq) s = .next t ∧
      ∀ a, loadableShow (markTaken (.lane l) s) l (wide rq.w0 rq.w1) = .error a → laneRefused l 1 rq a s t := by
  have hc : (1, Instr.loadShow l rq) ∈ laneRequests l rq := by simp [laneRequests]
  cases hs : loadableShow (markTaken (.lane l) s) l (wide rq.w0 rq.w1) with
  | error a =>
    obtain ⟨t, ht, href, _⟩ := serveLane_refuses hc hr (fun _ => rfl)
      (doLoadShow_refuses (s := markTaken (.lane l) s) hst hk hs)
    exact ⟨t, ht, fun b hb => by cases hb; exact href⟩
  | ok sh =>
    obtain ⟨t, ht, _⟩ := everyCommandKeepsTheQueue (.loadShow l rq) s
    exact ⟨t, ht, fun b hb => nomatch hb⟩

theorem loadShow_loads {l : LaneId} {rq : Req} {s : State} {sh : Show} (hr : reaches (.lane l) rq s)
    (hst : (s.lane l).state = .empty) (hk : (s.lane l).link.state ≠ .testing)
    (hsh : loadableShow (markTaken (.lane l) s) l (wide rq.w0 rq.w1) = .ok sh) :
    ∃ t i n, exec (.loadShow l rq) s = .next t ∧
      t.lane l =
        { settleLane .loading .request (s.lane l) with
          loaded := some sh
          p := 0
          tally := builtTally s.licences.records sh
          tracks := flushedTracks sh 1
          subWanted := ⟨none, none⟩
          lastReal := none
          scanner := clearScanner
          overlay := reelAsked (some sh) 1 (s.lane l).overlay
          indicators := i
          statusCount := n } ∧
      t.licences = s.licences ∧
      laneServed l 1 rq ⟨.ok, .none, 0, [sh.total, sh.reels.length, (showLicences sh.reels).length]⟩ [] s t := by
  have hc : (1, Instr.loadShow l rq) ∈ laneRequests l rq := by simp [laneRequests]
  obtain ⟨i, hi⟩ := loadLane_eq s.licences.records sh (settleLane .loading .request (s.lane l))
  have hbare := changeState_bare l .loading .request (loadLane s.licences.records sh) (markTaken (.lane l) s)
  rw [show loadLane s.licences.records sh (settleLane .loading .request ((markTaken (.lane l) s).lane l)) = _ from hi]
    at hbare
  obtain ⟨t, n, ht, hlane, hlic, _, _, hserved⟩ := serveLane_to hc hr (fun _ => rfl)
    (doLoadShow_loads (s := markTaken (.lane l) s) hst hk hsh) (more := []) (doLoadShow_work l _ rq _) hbare
  exact ⟨t, i, n, ht, hlane, hlic.trans (changeState_licences l _ _ _ _), hserved⟩

/-- Settles O27. -/
theorem loadShowEntersLoading : Obligations.LoadShowEntersLoading := by
  unfold Obligations.LoadShowEntersLoading
  refine ⟨fun l rq s sh hr hst hk hsh => ?_, fun l rq s hr hst hk => ?_⟩
  · obtain ⟨t, i, n, ht, hlane, hlic, hserved⟩ := loadShow_loads hr hst hk hsh
    refine ⟨t, ht, ?_⟩
    rw [hlane]
    exact ⟨rfl, rfl, rfl, ⟨rfl, rfl, rfl, rfl⟩, rfl, rfl, rfl, rfl, rfl, rfl, storesAsked_reelAsked _ _ _, rfl, rfl, rfl,
      ⟨rfl, rfl, rfl, rfl⟩, ⟨rfl, rfl, rfl, rfl, rfl, rfl⟩, rfl, hlic, hserved⟩
  · obtain ⟨t, ht, href⟩ := loadShow_answers hr hst hk
    refine ⟨t, ht, fun hn => href _ (loadableShow_read (readShow_unread hn)), fun bs hb =>
      ⟨fun hcount => href _ (loadableShow_read (readShow_reelCount hb hcount)), fun i h1 h64 hreels =>
        href _ (loadableShow_read (readShow_reel hb h1 h64 hreels))⟩, fun raw hraw => ?_⟩
    refine ⟨fun hrate => href _ (loadableShow_form hraw (formRefusal_rate hrate)), fun hrate =>
      ⟨fun k ok why i hk hbefore hbad => href _ (loadableShow_form hraw (formRefusal_reel hrate hk hbefore hbad)),
        fun hall => ?_⟩⟩
    have hform := formRefusal_reelsPass hrate hall
    refine ⟨fun hlong => href _ (loadableShow_form hraw (hform.trans (if_pos hlong))), fun hshort => ?_⟩
    have hpass := hform.trans (if_neg (not_lt.2 hshort))
    refine ⟨fun i hbad => href _ (loadableShow_licence hraw hpass (licenceRefusal_key hbad)), fun hknown => ?_⟩
    have hlics := licenceRefusal_keysKnown (l := l) (sh := showOfRaw s.licences.keys raw) hknown
    refine ⟨fun hmany => href _ (loadableShow_licence hraw hpass (hlics.trans (if_pos hmany))),
      fun i id hfew hbad hid => href _ (loadableShow_licence hraw hpass (hlics.trans ?_))⟩
    rw [if_neg (not_lt.2 hfew), find?_not_of_firstBad hbad hid]
    rfl

end Sys2Proof.Machine
end

section
/-! What an entry offered to the journal does: it is written, withheld or dropped, and a GAP entry reports what
was withheld (R177, R178). -/

namespace Sys2Proof.Machine

/-! ## The writes of the journal -/

theorem writeDeviceStatus_journal (s : State) : (writeDeviceStatus s).journal = s.journal := by
  obtain ⟨m, n, h⟩ := writeDeviceStatus_eq s
  rw [h]

theorem writeDeviceStatus_attention (s : State) : (writeDeviceStatus s).attention = s.attention := by
  obtain ⟨m, n, h⟩ := writeDeviceStatus_eq s
  rw [h]

/-- The journal past an entry. -/
def entryPassed (j : Journal) : Journal :=
  { j with seq := (j.seq + 1) % 2 ^ 32, writeIndex := (j.writeIndex + 1) % 256 }

theorem putEntry_journal (e : JournalEntry) (s : State) : (putEntry e s).journal = entryPassed s.journal :=
  writeDeviceStatus_journal _

theorem putEntry_attention (e : JournalEntry) (s : State) :
    (putEntry e s).attention = s.attention ||| attentionBit 5 := writeDeviceStatus_attention _

/-- What a write of an entry writes. -/
def entryAreas (s : State) : List (Nat × Nat) :=
  [(journalAddr s s.journal.writeIndex, 32), (tableAddr s + 4, 2), (deviceStatusAddr s, deviceStatusSize)]

/-- The state after an entry and the header's write index, before the Device Status Record. -/
def entryPut (e : JournalEntry) (s : State) : State :=
  putBytes (tableAddr s + 4) (le 2 ((s.journal.writeIndex + 1) % 256))
    { putBytes (journalAddr s s.journal.writeIndex) (entryBytes s e) s with journal := entryPassed s.journal }

theorem putEntry_afterPut (e : JournalEntry) {s : State} (h : s.inputs.length = 8) :
    memKept [(deviceStatusAddr s, deviceStatusSize)] (entryPut e s) (putEntry e s) :=
  writeDeviceStatus_memKept (s := setAttention 5 (entryPut e s)) h

theorem putEntry_memKept (e : JournalEntry) {s : State} (h : s.inputs.length = 8) :
    memKept (entryAreas s) s (putEntry e s) := by
  have hentry : memKept (entryAreas s) s
      { putBytes (journalAddr s s.journal.writeIndex) (entryBytes s e) s with journal := entryPassed s.journal } :=
    ((putBytes_memKept _ _ s).trans (memKept_of_host rfl)).mono fun r hr => by
      rw [List.mem_singleton.1 hr, entryBytes_length]
      exact List.mem_cons_self
  have hheader : memKept (entryAreas s)
      { putBytes (journalAddr s s.journal.writeIndex) (entryBytes s e) s with journal := entryPassed s.journal }
      (entryPut e s) :=
    (putBytes_memKept _ _ _).mono fun r hr => by
      rw [List.mem_singleton.1 hr, le_length]
      exact List.mem_cons_of_mem _ List.mem_cons_self
  exact (hentry.trans hheader).trans ((putEntry_afterPut e h).mono fun r hr => by
    rw [List.mem_singleton.1 hr]
    exact List.mem_cons_of_mem _ (List.mem_cons_of_mem _ List.mem_cons_self))

theorem putEntry_bytes (e : JournalEntry) {s : State} (h : s.inputs.length = 8) :
    memReadBytes (putEntry e s).host.mem (journalAddr s s.journal.writeIndex) 32 = entryBytes s e := by
  rw [memReadBytes_of_kept (putEntry_afterPut e h) fun r hr => .inr (by
    rw [List.mem_singleton.1 hr]
    simp only [journalAddr, deviceStatusAddr, deviceStatusSize]
    omega)]
  have hout : memReadBytes (entryPut e s).host.mem (journalAddr s s.journal.writeIndex) 32 =
      memReadBytes (memWrite s.host.mem (journalAddr s s.journal.writeIndex) (entryBytes s e))
        (journalAddr s s.journal.writeIndex) 32 := by
    refine memReadBytes_memWrite_outside (.inr ?_)
    rw [le_length, journalAddr]
    omega
  rw [hout]
  have := memReadBytes_memWrite_self s.host.mem (journalAddr s s.journal.writeIndex) (entryBytes s e)
  rwa [entryBytes_length] at this

theorem putEntry_header (e : JournalEntry) {s : State} (h : s.inputs.length = 8) :
    memReadBytes (putEntry e s).host.mem (tableAddr s + 4) 2 = le 2 ((s.journal.writeIndex + 1) % 256) := by
  rw [memReadBytes_of_kept (putEntry_afterPut e h) fun r hr => .inl (by
    rw [List.mem_singleton.1 hr]
    simp only [deviceStatusAddr]
    omega)]
  have := memReadBytes_memWrite_self
    (memWrite s.host.mem (journalAddr s s.journal.writeIndex) (entryBytes s e)) (tableAddr s + 4)
    (le 2 ((s.journal.writeIndex + 1) % 256))
  rwa [le_length] at this

theorem setWithheld_memKept (n : Nat) (s : State) : memKept [(tableAddr s + 6, 2)] s (setWithheld n s) :=
  ((memKept_of_host rfl).trans (putBytes_memKept (tableAddr s + 6) (le 2 n) _)).mono fun r hr => by
    rw [List.mem_singleton.1 hr, le_length]
    exact List.mem_cons_self

theorem setWithheld_header (n : Nat) (s : State) :
    memReadBytes (setWithheld n s).host.mem (tableAddr s + 6) 2 = le 2 n := by
  have := memReadBytes_memWrite_self s.host.mem (tableAddr s + 6) (le 2 n)
  rwa [le_length] at this

theorem withhold_journal (s : State) :
    (withhold s).journal = { s.journal with withheld := min 65535 (s.journal.withheld + 1) } :=
  writeDeviceStatus_journal _

theorem withhold_attention (s : State) : (withhold s).attention = s.attention := writeDeviceStatus_attention _

theorem putGap_journal (s : State) : (putGap s).journal = entryPassed { s.journal with withheld := 0 } :=
  putEntry_journal _ _

theorem putGap_bytes {s : State} (h : s.inputs.length = 8) :
    memReadBytes (putGap s).host.mem (journalAddr s s.journal.writeIndex) 32 =
      entryBytes s ⟨.gap, none, 0, [s.journal.withheld]⟩ :=
  putEntry_bytes ⟨.gap, none, 0, [s.journal.withheld]⟩ (s := setWithheld 0 s) h

theorem putGap_header {s : State} (h : s.inputs.length = 8) :
    memReadBytes (putGap s).host.mem (tableAddr s + 6) 2 = le 2 0 := by
  rw [putGap, memReadBytes_of_kept (putEntry_memKept ⟨.gap, none, 0, [s.journal.withheld]⟩ (s := setWithheld 0 s) h)]
  · exact setWithheld_header 0 s
  · intro r hr
    simp only [entryAreas, List.mem_cons, List.not_mem_nil, or_false] at hr
    rcases hr with rfl | rfl | rfl
    · exact .inl (by simp only [journalAddr, setWithheld, putBytes, tableAddr]; omega)
    · exact .inr (by simp only [setWithheld, putBytes, tableAddr]; omega)
    · exact .inl (by simp only [deviceStatusAddr, setWithheld, putBytes, tableAddr]; omega)

/-! ## What becomes of an offer (R177, R178) -/

/-- The journal's read index as host memory holds it. -/
def readIndexNow (s : State) : Nat := fromLe (memReadBytes s.host.mem (tableAddr s + 8) 2) % 256

/-- Whether an offer reads the read index again. -/
abbrev rereads (s : State) : Prop :=
  s.journal.withheld ≠ 0 ∨ (s.journal.writeIndex + 1) % 256 = s.journal.readIndex

theorem ringFull_iff (s : State) : ringFull s = true ↔ (s.journal.writeIndex + 1) % 256 = s.journal.readIndex :=
  decide_eq_true_iff

theorem ringFull_eq_false {s : State} (h : (s.journal.writeIndex + 1) % 256 ≠ s.journal.readIndex) :
    ringFull s = false := decide_eq_false h

theorem refreshForOffer_rereads {s : State} (h : rereads s) : refreshForOffer s = rereadIndex s := by
  refine if_neg fun ⟨hw, hf⟩ => ?_
  rcases h with h | h
  · exact h hw
  · rw [(ringFull_iff s).2 h] at hf
    cases hf

theorem offer_room (e : JournalEntry) {s : State} (hd : s.device = .running) (hw : s.journal.withheld = 0)
    (hr : (s.journal.writeIndex + 1) % 256 ≠ s.journal.readIndex) : offer e s = putEntry e s := by
  have hrefresh : refreshForOffer s = s := if_pos ⟨hw, ringFull_eq_false hr⟩
  unfold offer offerNoted
  rw [if_neg (not_not.2 hd), hrefresh]
  dsimp only
  rw [if_neg (by rw [ringFull_eq_false hr]; decide), if_pos hw, if_neg (by rw [ringFull_eq_false hr]; decide)]

theorem offer_full (e : JournalEntry) {s : State} (hd : s.device = .running) (h : rereads s)
    (hr : (s.journal.writeIndex + 1) % 256 = readIndexNow s) : offer e s = withhold (rereadIndex s) := by
  unfold offer offerNoted
  rw [if_neg (not_not.2 hd), refreshForOffer_rereads h]
  dsimp only
  rw [if_pos ((ringFull_iff _).2 hr)]

theorem offer_reread (e : JournalEntry) {s : State} (hd : s.device = .running) (h : rereads s)
    (hw : s.journal.withheld = 0) (hr : (s.journal.writeIndex + 1) % 256 ≠ readIndexNow s) :
    offer e s = putEntry e (rereadIndex s) := by
  have hfull : ringFull (rereadIndex s) = false := ringFull_eq_false hr
  unfold offer offerNoted
  rw [if_neg (not_not.2 hd), refreshForOffer_rereads h]
  dsimp only
  rw [if_neg (by rw [hfull]; decide), if_pos (show (rereadIndex s).journal.withheld = 0 from hw),
    if_neg (by rw [hfull]; decide)]

theorem putGap_full_iff (s : State) :
    ringFull (putGap (rereadIndex s)) = true ↔ (s.journal.writeIndex + 2) % 256 = readIndexNow s := by
  rw [ringFull_iff, putGap_journal]
  show ((s.journal.writeIndex + 1) % 256 + 1) % 256 = readIndexNow s ↔ _
  omega

theorem offer_gap (e : JournalEntry) {s : State} (hd : s.device = .running) (hw : s.journal.withheld ≠ 0)
    (hr : (s.journal.writeIndex + 1) % 256 ≠ readIndexNow s) :
    offer e s =
      if (s.journal.writeIndex + 2) % 256 = readIndexNow s then withhold (putGap (rereadIndex s))
      else putEntry e (putGap (rereadIndex s)) := by
  have hfull : ringFull (rereadIndex s) = false := ringFull_eq_false hr
  unfold offer offerNoted
  rw [if_neg (not_not.2 hd), refreshForOffer_rereads (.inl hw)]
  dsimp only
  rw [if_neg (by rw [hfull]; decide), if_neg (show (rereadIndex s).journal.withheld ≠ 0 from hw)]
  by_cases h2 : (s.journal.writeIndex + 2) % 256 = readIndexNow s
  · rw [if_pos ((putGap_full_iff s).2 h2), if_pos h2]
  · rw [if_neg (fun h => h2 ((putGap_full_iff s).1 h)), if_neg h2]

theorem gapCheck_full {s : State} (hd : s.device = .running) (hw : s.journal.withheld ≠ 0)
    (hr : (s.journal.writeIndex + 1) % 256 = readIndexNow s) : gapCheck s = rereadIndex s := by
  unfold gapCheck
  rw [if_pos ⟨hd, hw⟩]
  exact if_pos ((ringFull_iff _).2 hr)

theorem gapCheck_room {s : State} (hd : s.device = .running) (hw : s.journal.withheld ≠ 0)
    (hr : (s.journal.writeIndex + 1) % 256 ≠ readIndexNow s) : gapCheck s = putGap (rereadIndex s) := by
  have hfull : ringFull (rereadIndex s) = false := ringFull_eq_false hr
  unfold gapCheck
  rw [if_pos ⟨hd, hw⟩]
  dsimp only
  rw [if_neg (by rw [hfull]; decide)]

theorem attention_journal (w : BitVec 7) : (w ||| attentionBit 5) &&& attentionBit 5 ≠ 0 := by
  revert w
  decide

/-- The bytes of an entry change with the sequence number alone among the journal's fields. -/
theorem entryBytes_congr {s t : State} (e : JournalEntry) (hseq : t.journal.seq = s.journal.seq)
    (hlic : t.licences = s.licences) : entryBytes t e = entryBytes s e := by
  unfold entryBytes
  rw [hseq, hlic]

theorem le_mod (n v : Nat) : le n (v % 256 ^ n) = le n v := by
  induction n generalizing v with
  | zero => rfl
  | succ n ih =>
    rw [le_succ, le_succ, pow_succ', Nat.mod_mul_right_div_self, ih]
    refine congrArg (· :: _) (BitVec.eq_of_toNat_eq ?_)
    rw [BitVec.toNat_ofNat, BitVec.toNat_ofNat]
    exact Nat.mod_mul_right_mod v 256 (256 ^ n)

/-- The bytes of the first entry carry the journal's sequence number. -/
theorem entryBytes_entriesOn_zero (s : State) (e : JournalEntry) : entryBytes (entriesOn 0 s) e = entryBytes s e := by
  unfold entryBytes
  rw [show (entriesOn 0 s).journal.seq = s.journal.seq % 256 ^ 4 from rfl, le_mod]
  rfl

theorem journaled_zero_iff {e : JournalEntry} {s t : State} (h : s.journal.writeIndex < 256) :
    journaled 0 e s t ↔ memReadBytes t.host.mem (journalAddr s s.journal.writeIndex) 32 = entryBytes s e := by
  unfold journaled
  rw [entryBytes_entriesOn_zero, Nat.add_zero, Nat.mod_eq_of_lt h]

theorem entryPassed_twice (j : Journal) :
    entryPassed (entryPassed j) =
      { j with seq := (j.seq + 2) % 2 ^ 32, writeIndex := (j.writeIndex + 2) % 256 } := by
  simp only [entryPassed, Nat.mod_add_mod]

/-- An entry leaves the bytes of another slot of the ring alone. -/
theorem putEntry_otherSlot (e : JournalEntry) {s : State} (h : s.inputs.length = 8) {i : Nat}
    (hi : i ≠ s.journal.writeIndex) :
    memReadBytes (putEntry e s).host.mem (journalAddr s i) 32 = memReadBytes s.host.mem (journalAddr s i) 32 := by
  refine memReadBytes_of_kept (putEntry_memKept e h) fun r hr => ?_
  simp only [entryAreas, List.mem_cons, List.not_mem_nil, or_false] at hr
  rcases hr with rfl | rfl | rfl
  · simp only [journalAddr]
    omega
  · exact .inr (by simp only [journalAddr]; omega)
  · exact .inr (by simp only [journalAddr, deviceStatusAddr, deviceStatusSize]; omega)

theorem withhold_slot {s : State} (h : s.inputs.length = 8) (i : Nat) :
    memReadBytes (withhold s).host.mem (journalAddr s i) 32 = memReadBytes s.host.mem (journalAddr s i) 32 := by
  have hset := setWithheld_memKept (min 65535 (s.journal.withheld + 1)) s
  have hdev := writeDeviceStatus_memKept (s := setWithheld (min 65535 (s.journal.withheld + 1)) s) h
  rw [withhold, memReadBytes_of_kept hdev, memReadBytes_of_kept hset]
  · intro r hr
    rw [List.mem_singleton.1 hr]
    exact .inr (by simp only [journalAddr]; omega)
  · intro r hr
    rw [List.mem_singleton.1 hr]
    exact .inr (by simp only [journalAddr, deviceStatusAddr, deviceStatusSize, setWithheld, putBytes, tableAddr]; omega)

/-! ## The offer, case by case -/

theorem offer_writes {e : JournalEntry} {s : State} (hs : shapeOk s) (hd : s.device = .running)
    (hw : s.journal.withheld = 0) (hr : (s.journal.writeIndex + 1) % 256 ≠ s.journal.readIndex) :
    (offer e s).journal.writeIndex = (s.journal.writeIndex + 1) % 256 ∧
      (offer e s).journal.seq = (s.journal.seq + 1) % 2 ^ 32 ∧ (offer e s).journal.withheld = 0 ∧
      (offer e s).attention &&& attentionBit 5 ≠ 0 ∧
      memReadBytes (offer e s).host.mem (journalAddr s s.journal.writeIndex) 32 = entryBytes s e ∧
      memReadBytes (offer e s).host.mem (tableAddr s + 4) 2 = le 2 ((s.journal.writeIndex + 1) % 256) := by
  rw [offer_room e hd hw hr, putEntry_journal, putEntry_attention]
  exact ⟨rfl, rfl, hw, attention_journal _, putEntry_bytes e hs.1, putEntry_header e hs.1⟩

theorem offer_withholds {e : JournalEntry} {s : State} (hd : s.device = .running) (h : rereads s)
    (hr : (s.journal.writeIndex + 1) % 256 = readIndexNow s) :
    (offer e s).journal.writeIndex = s.journal.writeIndex ∧ (offer e s).journal.seq = s.journal.seq ∧
      (offer e s).journal.withheld = min 65535 (s.journal.withheld + 1) ∧
      (offer e s).attention = s.attention := by
  rw [offer_full e hd h hr, withhold_journal, withhold_attention]
  exact ⟨rfl, rfl, rfl, rfl⟩

theorem offer_finds_room {e : JournalEntry} {s : State} (hs : shapeOk s) (hd : s.device = .running)
    (h : rereads s) (hw : s.journal.withheld = 0) (hr : (s.journal.writeIndex + 1) % 256 ≠ readIndexNow s) :
    (offer e s).journal.readIndex = readIndexNow s ∧
      (offer e s).journal.writeIndex = (s.journal.writeIndex + 1) % 256 ∧
      (offer e s).journal.seq = (s.journal.seq + 1) % 2 ^ 32 ∧
      (offer e s).journal.withheld = 0 ∧ journaled 0 e s (offer e s) := by
  rw [journaled_zero_iff hs.2.1, offer_reread e hd h hw hr, putEntry_journal]
  refine ⟨rfl, rfl, rfl, hw, ?_⟩
  exact putEntry_bytes e (s := rereadIndex s) hs.1

theorem offer_reports_gap {e : JournalEntry} {s : State} (hs : shapeOk s) (hd : s.device = .running)
    (hw : s.journal.withheld ≠ 0) (hr : (s.journal.writeIndex + 1) % 256 ≠ readIndexNow s) :
    (offer e s).journal.readIndex = readIndexNow s ∧
      journaled 0 ⟨.gap, none, 0, [s.journal.withheld]⟩ s (offer e s) ∧
      ((s.journal.writeIndex + 2) % 256 ≠ readIndexNow s →
        (offer e s).journal.writeIndex = (s.journal.writeIndex + 2) % 256 ∧
          (offer e s).journal.seq = (s.journal.seq + 2) % 2 ^ 32 ∧
          (offer e s).journal.withheld = 0 ∧ journaled 1 e s (offer e s)) ∧
      ((s.journal.writeIndex + 2) % 256 = readIndexNow s →
        (offer e s).journal.writeIndex = (s.journal.writeIndex + 1) % 256 ∧
          (offer e s).journal.seq = (s.journal.seq + 1) % 2 ^ 32 ∧ (offer e s).journal.withheld = 1) := by
  have hgap : memReadBytes (putGap (rereadIndex s)).host.mem (journalAddr s s.journal.writeIndex) 32 =
      entryBytes s ⟨.gap, none, 0, [s.journal.withheld]⟩ := putGap_bytes (s := rereadIndex s) hs.1
  have hjournal := putGap_journal (rereadIndex s)
  have hin : (putGap (rereadIndex s)).inputs.length = 8 := by
    rw [(putGap_reported (rereadIndex s)).inputs]
    exact hs.1
  have haddr (i : Nat) : journalAddr (putGap (rereadIndex s)) i = journalAddr s i := by
    unfold journalAddr
    rw [(putGap_reported (rereadIndex s)).tableAddr]
    rfl
  have hlic : (putGap (rereadIndex s)).licences = s.licences := (putGap_reported (rereadIndex s)).licences
  rw [journaled_zero_iff hs.2.1, offer_gap e hd hw hr]
  by_cases h2 : (s.journal.writeIndex + 2) % 256 = readIndexNow s
  · rw [if_pos h2, withhold_journal, hjournal]
    refine ⟨rfl, ?_, fun h => absurd h2 h, fun _ => ⟨rfl, rfl, rfl⟩⟩
    rw [← haddr, withhold_slot hin, haddr, hgap]
  · have hnext : (s.journal.writeIndex + 1) % 256 = (putGap (rereadIndex s)).journal.writeIndex := by
      rw [hjournal]
      rfl
    rw [if_neg h2, putEntry_journal, hjournal, entryPassed_twice]
    refine ⟨rfl, ?_, fun _ => ⟨rfl, rfl, rfl, ?_⟩, fun h => absurd h h2⟩
    · rw [← haddr, putEntry_otherSlot e hin (by rw [← hnext]; omega), haddr, hgap]
    · unfold journaled
      rw [hnext, ← haddr, putEntry_bytes e hin]
      refine entryBytes_congr e ?_ hlic
      rw [hjournal]
      rfl

/-! ## The re-read while entries are withheld -/

theorem gapCheck_notes (s : State) : noteChanges s (gapCheck s) = gapCheck s := by
  obtain ⟨m, j, n, a, h⟩ := gapCheck_reported s
  rw [h]
  exact noteChanges_eq_self rfl rfl rfl rfl

/-- Settles O25. -/
theorem journalWritesWithholdsAndReportsGaps : Obligations.JournalWritesWithholdsAndReportsGaps := by
  unfold Obligations.JournalWritesWithholdsAndReportsGaps
  refine ⟨fun e s hs => ⟨fun hd hw hr => offer_writes hs hd hw hr, fun hd h hr => offer_withholds hd h hr,
    fun hd h => ?_, fun hd => offer_idle hd e⟩, fun s hs hd hw => ?_⟩
  · intro read hr
    by_cases hw : s.journal.withheld = 0
    · obtain ⟨hri, hrest⟩ := offer_finds_room (e := e) hs hd h hw hr
      exact ⟨hri, fun _ => hrest, fun hn => absurd hw hn⟩
    · obtain ⟨hri, hrest⟩ := offer_reports_gap (e := e) hs hd hw hr
      exact ⟨hri, fun hz => absurd hz hw, fun _ => hrest⟩
  · have htold := gapCheck_told s
    have hrep := htold.reported
    refine ⟨gapCheck s, congrArg Host.Outcome.next (gapCheck_notes s), ?_⟩
    have hkept : (gapCheck s).lanes = s.lanes ∧ (gapCheck s).licences = s.licences ∧ registersKept s (gapCheck s) ∧
        unitsKept s (gapCheck s) ∧ (gapCheck s).clockUnit = s.clockUnit ∧ memKept (reportAreas s) s (gapCheck s) :=
      ⟨hrep.lanes, hrep.licences, hrep.registersKept, by obtain ⟨m, j, n, a, h⟩ := hrep; rw [h]; exact ⟨rfl, rfl, rfl, rfl⟩,
        hrep.clockUnit, htold.memKept hs⟩
    by_cases hr : (s.journal.writeIndex + 1) % 256 = readIndexNow s
    · rw [gapCheck_full hd hw hr] at hkept ⊢
      exact ⟨rfl, fun _ => rfl, fun h => absurd hr h, hkept⟩
    · rw [gapCheck_room hd hw hr] at hkept ⊢
      have hjournal := putGap_journal (rereadIndex s)
      refine ⟨by rw [hjournal]; rfl, fun h => absurd ?_ hr, fun _ => ⟨by rw [hjournal]; rfl, by rw [hjournal]; rfl,
        by rw [hjournal]; rfl, ?_, putGap_bytes (s := rereadIndex s) hs.1, putGap_header (s := rereadIndex s) hs.1⟩, hkept⟩
      · rw [hjournal] at h
        exact h
      · rw [putGap, putEntry_attention]
        exact attention_journal _

end Sys2Proof.Machine
end

section
/-! How many entries of the journal's ring a piece of work can write, and which bytes of the ring it leaves
alone (R177): an entry stands until the ring has come round to it again. -/

namespace Sys2Proof.Machine

/-- The bytes of the ring `i` places after the write index. -/
def ringBytes (s t : State) (i : Nat) : List Byte :=
  memReadBytes t.host.mem (journalAddr s ((s.journal.writeIndex + i) % 256)) 32

/-- `t` is `s` after at most `k` entries of the ring are written. -/
structure RingWork (k : Nat) (s t : State) : Prop where
  table : tableAddr t = tableAddr s
  shape : shapeOk s → shapeOk t
  ring : shapeOk s → ∃ m ≤ k, t.journal.writeIndex = (s.journal.writeIndex + m) % 256 ∧
    ∀ i, m ≤ i → i < 256 → ringBytes s t i = ringBytes s s i

theorem RingWork.refl (s : State) : RingWork 0 s s :=
  ⟨rfl, id, fun hs => ⟨0, le_refl 0, (Nat.mod_eq_of_lt hs.2.1).symm, fun _ _ _ => rfl⟩⟩

theorem RingWork.mono {k n : Nat} {s t : State} (h : RingWork k s t) (hk : k ≤ n) : RingWork n s t :=
  ⟨h.table, h.shape, fun hs => by
    obtain ⟨m, hm, hrest⟩ := h.ring hs
    exact ⟨m, hm.trans hk, hrest⟩⟩

theorem RingWork.trans {k n : Nat} {s t u : State} (h : RingWork k s t) (h' : RingWork n t u) :
    RingWork (k + n) s u where
  table := h'.table.trans h.table
  shape := h'.shape ∘ h.shape
  ring hs := by
    obtain ⟨m, hm, hix, hbytes⟩ := h.ring hs
    obtain ⟨m', hm', hix', hbytes'⟩ := h'.ring (h.shape hs)
    refine ⟨m + m', Nat.add_le_add hm hm', by rw [hix', hix]; omega, fun i hi hlt => ?_⟩
    have hslot : journalAddr t ((t.journal.writeIndex + (i - m)) % 256) =
        journalAddr s ((s.journal.writeIndex + i) % 256) := by
      rw [journalAddr, journalAddr, h.table, hix]
      congr 2
      omega
    have hlater := hbytes' (i - m) (by omega) (by omega)
    unfold ringBytes at hlater
    rw [hslot] at hlater
    exact hlater.trans (hbytes i (by omega) hlt)

/-- The areas that do not meet the ring. -/
def besideRing (s : State) (areas : List (Nat × Nat)) : Prop :=
  ∀ r ∈ areas, journalAddr s 256 ≤ r.1 ∨ r.1 + r.2 ≤ journalAddr s 0

/-- Work that writes nothing in the ring. -/
theorem RingWork.quiet {s t : State} {areas : List (Nat × Nat)} (ht : tableAddr t = tableAddr s)
    (hs : shapeOk s → shapeOk t) (hj : t.journal.writeIndex = s.journal.writeIndex)
    (hmem : shapeOk s → memKept areas s t) (ho : besideRing s areas) : RingWork 0 s t :=
  ⟨ht, hs, fun h => ⟨0, le_refl 0, by rw [hj]; exact (Nat.mod_eq_of_lt h.2.1).symm, fun i _ _ =>
    memReadBytes_of_kept (hmem h) fun r hr => by
      have hlt : (s.journal.writeIndex + i) % 256 < 256 := Nat.mod_lt _ (by decide)
      have := ho r hr
      simp only [journalAddr] at this ⊢
      omega⟩⟩

theorem RingWork.of_eq {k : Nat} {s t u : State} (h : RingWork k s t) (he : u = t) : RingWork k s u := he ▸ h

theorem Told.shapeOk {s t : State} (h : Told s t) : shapeOk s → shapeOk t := h.keeps.shapeOk

theorem writeDeviceStatus_ring (s : State) : RingWork 0 s (writeDeviceStatus s) := by
  refine .quiet (writeDeviceStatus_reported s).tableAddr (writeDeviceStatus_told s).shapeOk
    (by rw [writeDeviceStatus_journal]) (fun hs => writeDeviceStatus_memKept hs.1) fun r hr => .inr ?_
  rw [List.mem_singleton.1 hr]
  simp only [journalAddr, deviceStatusAddr, deviceStatusSize]
  omega

theorem setWithheld_ring (n : Nat) (s : State) : RingWork 0 s (setWithheld n s) :=
  .quiet rfl (setWithheld_told n s).shapeOk rfl (fun _ => setWithheld_memKept n s) fun r hr => .inr (by
    rw [List.mem_singleton.1 hr]
    simp only [journalAddr]
    omega)

theorem withhold_ring (s : State) : RingWork 0 s (withhold s) :=
  (setWithheld_ring _ s).trans (writeDeviceStatus_ring _)

theorem putEntry_ring (e : JournalEntry) (s : State) : RingWork 1 s (putEntry e s) where
  table := (putEntry_reported e s).tableAddr
  shape := (putEntry_told e s).shapeOk
  ring hs := by
    refine ⟨1, le_refl 1, by rw [putEntry_journal]; rfl, fun i hi hlt => ?_⟩
    have hw := hs.2.1
    exact putEntry_otherSlot e hs.1 (by omega)

theorem putGap_ring (s : State) : RingWork 1 s (putGap s) := (setWithheld_ring 0 s).trans (putEntry_ring _ _)

theorem rereadIndex_ring (s : State) : RingWork 0 s (rereadIndex s) :=
  .quiet (areas := []) rfl id rfl (fun _ => memKept_of_host rfl) fun _ hr => nomatch hr

theorem refreshForOffer_ring (s : State) : RingWork 0 s (refreshForOffer s) := by
  unfold refreshForOffer
  split
  · exact .refl s
  · exact rereadIndex_ring s

theorem offerNoted_ring (e : JournalEntry) (s : State) : RingWork 2 s (offerNoted e s).1 := by
  have hrefresh := refreshForOffer_ring s
  unfold offerNoted
  split
  · exact (RingWork.refl s).mono (Nat.zero_le 2)
  · generalize refreshForOffer s = r at hrefresh ⊢
    dsimp only
    split
    · exact (hrefresh.trans (withhold_ring r)).mono (Nat.zero_le 2)
    · split
      · exact (hrefresh.trans (putEntry_ring e r)).mono (Nat.le_succ 1)
      · have hgap := hrefresh.trans (putGap_ring r)
        generalize putGap r = g at hgap ⊢
        split
        · exact (hgap.trans (withhold_ring g)).mono (Nat.le_succ 1)
        · exact hgap.trans (putEntry_ring e g)

theorem offer_ring (e : JournalEntry) (s : State) : RingWork 2 s (offer e s) := offerNoted_ring e s

theorem modLane_ring {l : LaneId} {f : Lane → Lane} {s : State} (h : LaneKeeps (s.lane l) (f (s.lane l))) :
    RingWork 0 s (s.modLane l f) :=
  .quiet (areas := []) rfl (Keeps.modLane h).shapeOk rfl (fun _ => memKept_of_host rfl) fun _ hr => nomatch hr

theorem laneStatusNow_memKept {l : LaneId} {s : State} (hs : laneShapeOk (s.lane l)) :
    memKept [statusArea s l] s (laneStatusNow l s) :=
  ((putBytes_memKept (laneStatusAddr s l) (le 4 (nextCount (s.lane l).statusCount) ++ laneStatusBody s l) s).trans
    (memKept_of_host rfl)).mono fun r hr => by
      rw [List.mem_singleton.1 hr, List.length_append, le_length, laneStatusBody_length hs]
      exact List.mem_cons_self

theorem statusArea_besideRing (s : State) (l : LaneId) : besideRing s [statusArea s l] := by
  intro r hr
  have hl : laneIndex l ≤ 3 := by cases l <;> decide
  rw [List.mem_singleton.1 hr]
  refine .inr ?_
  simp only [statusArea, laneStatusAddr, laneStatusSize, journalAddr]
  omega

theorem writeLaneStatus_ring (l : LaneId) (s : State) : RingWork 0 s (writeLaneStatus l s) := by
  have hshape := (writeLaneStatus_work l [] s).keeps.shapeOk
  unfold writeLaneStatus at hshape ⊢
  split at hshape
  · next h =>
    rw [if_pos h]
    exact .quiet rfl hshape rfl (fun hs => laneStatusNow_memKept (hs.lane l)) (statusArea_besideRing s l)
  · next h =>
    rw [if_neg h]
    exact .refl s

theorem switchBack_ring (s : State) : RingWork 2 s (switchBack s) := by
  unfold switchBack
  split
  · have hset : RingWork 0 s { s with clockUnit := { s.clockUnit with source := .external } } :=
      .quiet (areas := []) rfl id rfl (fun _ => memKept_of_host rfl) fun _ hr => nomatch hr
    exact (hset.trans (writeDeviceStatus_ring _)).trans (offer_ring _ _)
  · exact (RingWork.refl s).mono (by decide)

theorem changeState_ring {l : LaneId} {st : LaneState} {c : Cause} {f : Lane → Lane} {s : State}
    (h : LaneKeeps (settleLane st c (s.lane l)) (f (settleLane st c (s.lane l)))) :
    RingWork 4 s (changeState l st c f s) := by
  have hlane : RingWork 0 (offer (laneStateEntry l (s.lane l) st c) s)
      ((offer (laneStateEntry l (s.lane l) st c) s).modLane l fun x => f (settleLane st c x)) :=
    modLane_ring (by rw [offer_lane]; exact (settleLane_keeps st c _).trans h)
  exact (((offer_ring _ s).trans hlane).trans (writeLaneStatus_ring l _)).trans (switchBack_ring _)

theorem enterState_ring (l : LaneId) (st : LaneState) (c : Cause) (s : State) :
    RingWork 4 s (enterState l st c s) := changeState_ring (.refl _)

/-! ## An entry that stands -/

/-- The journal and what an entry tells beside its words are as they were. -/
structure AsOffered (s w : State) : Prop where
  device : w.device = s.device
  table : tableAddr w = tableAddr s
  journal : w.journal = s.journal
  licences : w.licences = s.licences
  shape : shapeOk s → shapeOk w

/-- The first entry of a piece of work stands at the work's end. -/
theorem journaled_of_offer {e : JournalEntry} {k : Nat} {s w t : State} (hw : AsOffered s w)
    (hk : RingWork k (offer e w) t) (hle : k ≤ 255) (hs : shapeOk s) (hr : ringRoom 1 s) : journaled 0 e s t := by
  obtain ⟨hd, hz, hroom⟩ := hr
  have hroom' : (w.journal.writeIndex + 1) % 256 ≠ w.journal.readIndex := by
    rw [hw.journal]
    exact hroom 0 (by decide)
  have hoffer := offer_room e (hw.device.trans hd) (by rw [hw.journal]; exact hz) hroom'
  rw [hoffer] at hk
  have hsw := hw.shape hs
  obtain ⟨m, hm, -, hbytes⟩ := hk.ring ((putEntry_told e w).shapeOk hsw)
  have hstand := hbytes 255 (hm.trans hle) (by decide)
  have hslot : journalAddr (putEntry e w) (((putEntry e w).journal.writeIndex + 255) % 256) =
      journalAddr w w.journal.writeIndex := by
    rw [journalAddr, (putEntry_reported e w).tableAddr, putEntry_journal, journalAddr]
    have hlt := hsw.2.1
    simp only [entryPassed]
    congr 2
    omega
  unfold ringBytes at hstand
  rw [hslot, putEntry_bytes e hsw.1] at hstand
  have haddr : journalAddr w w.journal.writeIndex = journalAddr s s.journal.writeIndex := by
    rw [journalAddr, hw.table, hw.journal, journalAddr]
  rw [journaled_zero_iff hs.2.1, ← haddr, hstand]
  exact entryBytes_congr e (by rw [hw.journal]) hw.licences

end Sys2Proof.Machine
end

section
/-! The start of a link test (R114, R122). -/

namespace Sys2Proof.Machine

/-! ## Leaving LOCKED (R114) -/

theorem departLane_eq (x : Lane) :
    ∃ i, departLane x =
      { x with
        link :=
          { x.link with
            awaiting := []
            unseen := saturate16 (x.link.unseen + x.link.awaiting.length)
            headStatus := .unknown }
        overlay := { x.overlay with tileMap := [] }
        indicators := i } := by
  obtain ⟨i, h⟩ := setIndicatorIf_eq (decide (x.link.awaiting.length ≠ 0)) .unseen
    { x with
      link := { x.link with awaiting := [], unseen := saturate16 (x.link.unseen + x.link.awaiting.length) } }
  exact ⟨i, by rw [departLane, dropAll, dropUnseen, h]⟩

theorem drainedLane_link_eq (x : Lane) :
    (drainedLane x).link =
      { x.link with awaiting := (drainedLane x).link.awaiting, unseen := (drainedLane x).link.unseen } := by
  unfold drainedLane
  split
  · exact closedLane_link x
  · rfl

theorem departLocked_link (l : LaneId) (s : State) :
    ((departLocked l s).lane l).link =
      { (s.lane l).link with
        awaiting := []
        unseen := ((departLocked l s).lane l).link.unseen
        headStatus := .unknown } := by
  have hempty := departLocked_awaiting l s
  have hdrained := drainedLane_link_eq (departLane (s.lane l))
  obtain ⟨i, hi⟩ := departLane_eq (s.lane l)
  rw [← departLocked_lane_self, hempty] at hdrained
  rw [hdrained, hi]

/-- What leaving LOCKED leaves of a lane: its link, its tally, its indicators and its tile map may have changed. -/
theorem departLocked_lane_eq (l : LaneId) (s : State) :
    ∃ t k i, (departLocked l s).lane l =
      { s.lane l with tally := t, link := k, indicators := i, overlay := { (s.lane l).overlay with tileMap := [] } } := by
  obtain ⟨t, k, i, h⟩ := drainedLane_eq (departLane (s.lane l))
  obtain ⟨j, hj⟩ := departLane_eq (s.lane l)
  refine ⟨t, k, i, ?_⟩
  rw [departLocked_lane_self, h, hj]

theorem checkDrained_open {l : LaneId} {s : State} (h : (s.lane l).tally.phase ≠ .closing) : checkDrained l s = s :=
  if_neg fun hh => h hh.1

theorem departLocked_open {l : LaneId} {s : State} (h : (s.lane l).tally.phase ≠ .closing) :
    departLocked l s = s.modLane l departLane := by
  refine checkDrained_open ?_
  obtain ⟨i, hi⟩ := departLane_eq (s.lane l)
  rw [State.lane_modLane_self, hi]
  exact h

/-! ## An entry that stands at the end of a lane's work -/

theorem AsOffered.refl (s : State) : AsOffered s s := ⟨rfl, rfl, rfl, rfl, id⟩

theorem AsOffered.trans {s w u : State} (h : AsOffered s w) (k : AsOffered w u) : AsOffered s u :=
  ⟨k.device.trans h.device, k.table.trans h.table, k.journal.trans h.journal, k.licences.trans h.licences,
    k.shape ∘ h.shape⟩

theorem shapeOk_modLane {l : LaneId} {f : Lane → Lane} {s : State}
    (h : laneShapeOk (s.lane l) → laneShapeOk (f (s.lane l))) (hs : shapeOk s) : shapeOk (s.modLane l f) := by
  obtain ⟨hin, hix, hlanes⟩ := hs
  have heach : ∀ m, laneShapeOk (s.lane m) → laneShapeOk ((s.modLane l f).lane m) :=
    forall_lane_of_self (P := fun x y => laneShapeOk x → laneShapeOk y) (fun _ => id)
      (by rw [State.lane_modLane_self]; exact h) fun _ hm => State.lane_modLane_ne _ _ hm
  exact ⟨hin, hix, everyLane_mono heach hlanes⟩

theorem modLane_asOffered {l : LaneId} {f : Lane → Lane} {s : State}
    (h : laneShapeOk (s.lane l) → laneShapeOk (f (s.lane l))) : AsOffered s (s.modLane l f) :=
  ⟨rfl, rfl, rfl, rfl, shapeOk_modLane h⟩

theorem markTaken_asOffered (n : SlotId) (s : State) : AsOffered s (markTaken n s) := ⟨rfl, rfl, rfl, rfl, id⟩

theorem noteChanges_ring (s t : State) : RingWork 0 t (noteChanges s t) :=
  .quiet (areas := []) rfl (noteChanges_work .a [] s t).keeps.shapeOk rfl (fun _ => memKept_of_host rfl)
    fun _ hr => nomatch hr

theorem slotArea_besideRing (s : State) (n : SlotId) : besideRing s [slotArea s n] := by
  intro r hr
  have hn : slotIndex n ≤ 4 := by
    cases n with
    | lane m => cases m <;> decide
    | device => decide
  rw [List.mem_singleton.1 hr]
  refine .inr ?_
  simp only [slotArea, slotAddr, journalAddr]
  omega

theorem putAnswer_ring (n : SlotId) (kind : Nat) (rq : Req) (a : Answer) (s : State) :
    RingWork 0 s (setAttention (slotIndex n) (putBytes (slotAddr s n) (answerBytes kind rq a) s)) :=
  .quiet (areas := [slotArea s n]) rfl id rfl
    (fun _ => ((putBytes_memKept _ _ s).trans (memKept_of_host rfl)).mono fun r hr => by
      rw [List.mem_singleton.1 hr, answerBytes_length]
      exact List.mem_cons_self)
    (slotArea_besideRing s n)

theorem writeAnswer_ring (l : LaneId) (kind : Nat) (rq : Req) (w : State) (a : Answer) :
    RingWork 0 w (writeAnswer (.lane l) kind rq (w, a)) :=
  (putAnswer_ring (.lane l) kind rq a w).trans (writeLaneStatus_ring l _)

/-- The ring stands from the end of a request's own work on. -/
theorem serveLane_ring {l : LaneId} {kind : Nat} {rq : Req} {c : Instr} (hc : (kind, c) ∈ laneRequests l rq) {s t : State}
    (hr : reaches (.lane l) rq s) {w : State} {a : Answer}
    (hw : ∀ b, laneRequest l kind rq b (markTaken (.lane l) s) = some (w, a)) (ht : exec c s = .next t) :
    RingWork 0 w t := by
  obtain ⟨hd, b, hb⟩ := hr
  obtain ⟨hk, hexec⟩ := exec_laneRequest hc s
  have hjudge : judgeRequest (.lane l) kind rq false (markTaken (.lane l) s) = (w, a) := by
    unfold judgeRequest
    rw [hk, show readBlock (markTaken (.lane l) s).host rq = .ok b from hb]
    exact congrArg (Option.getD · _) (hw b)
  rw [serve_running hd, hjudge] at hexec
  obtain rfl := Host.Outcome.next.inj (hexec.symm.trans ht)
  exact (writeAnswer_ring l kind rq w a).trans (noteChanges_ring s _)

/-! ## The start of a test (R122) -/

/-- The link as a test begins. -/
def testingLink (count : Nat) (k : Link) : Link :=
  idleLink { k with state := .testing, test := ⟨count, 8, 0, []⟩, heldTest := noHeldTest }

theorem startTest_lane (l : LaneId) (count : Nat) (s : State) :
    (startTest l count s).lane l =
      { (departLocked l s).lane l with link := testingLink count ((departLocked l s).lane l).link } := by
  unfold startTest offerLink
  rw [offer_lane, modLink, State.lane_modLane_self]
  rfl

/-- The state in which the LINK_STATE entry of a test is offered. -/
theorem startTest_offers {l : LaneId} {count : Nat} {s : State} (hp : (s.lane l).tally.phase ≠ .closing) :
    ∃ w, startTest l count s = offer ⟨.linkState, some l, (s.lane l).p, [2, 3]⟩ w ∧ AsOffered s w := by
  have hdepart : AsOffered s (s.modLane l departLane) := modLane_asOffered (departLane_apart _).shape
  have hlink : AsOffered (s.modLane l departLane) (modLink l (testingLink count) (s.modLane l departLane)) :=
    modLane_asOffered id
  refine ⟨_, ?_, hdepart.trans hlink⟩
  obtain ⟨i, hi⟩ := departLane_eq (s.lane l)
  have hlane : (modLink l (testingLink count) (s.modLane l departLane)).lane l =
      { departLane (s.lane l) with link := testingLink count (departLane (s.lane l)).link } := by
    rw [modLink, State.lane_modLane_self, State.lane_modLane_self]
  have hp' : ((modLink l (testingLink count) (s.modLane l departLane)).lane l).p = (s.lane l).p := by
    rw [hlane, hi]
  rw [← hp', startTest, departLocked_open hp]
  rfl

theorem doLinkTest_starts {l : LaneId} {rq : Req} {s : State} (hok : acceptedIn 17 (s.lane l) = true)
    (h1 : 1 ≤ rq.w0.toNat) (hmax : rq.w0.toNat ≤ 65535) (hk : (s.lane l).link.state = .locked) :
    doLinkTest l rq s = (startTest l rq.w0.toNat s, okAnswer) := by
  simp only [acceptedIn, Bool.and_eq_true, Bool.or_eq_true, decide_eq_true_iff, Bool.not_eq_true',
    decide_eq_false_iff_not] at hok
  unfold doLinkTest
  dsimp only
  rw [if_neg (fun h => hok.1.elim h.1 h.2), if_neg hok.2, if_neg (by omega), if_neg (not_not.2 hk)]

theorem doLinkTest_count {l : LaneId} {rq : Req} {s : State} (hok : acceptedIn 17 (s.lane l) = true)
    (h : rq.w0.toNat = 0 ∨ 65535 < rq.w0.toNat) : doLinkTest l rq s = (s, paramAnswer .none) := by
  simp only [acceptedIn, Bool.and_eq_true, Bool.or_eq_true, decide_eq_true_iff, Bool.not_eq_true',
    decide_eq_false_iff_not] at hok
  unfold doLinkTest
  dsimp only
  rw [if_neg (fun h => hok.1.elim h.1 h.2), if_neg hok.2, if_pos h]

theorem doLinkTest_unlocked {l : LaneId} {rq : Req} {s : State} (hok : acceptedIn 17 (s.lane l) = true)
    (h1 : 1 ≤ rq.w0.toNat) (hmax : rq.w0.toNat ≤ 65535) (hk : (s.lane l).link.state ≠ .locked) :
    doLinkTest l rq s = (s, ⟨.link, .none, 0, []⟩) := by
  simp only [acceptedIn, Bool.and_eq_true, Bool.or_eq_true, decide_eq_true_iff, Bool.not_eq_true',
    decide_eq_false_iff_not] at hok
  unfold doLinkTest
  dsimp only
  rw [if_neg (fun h => hok.1.elim h.1 h.2), if_neg hok.2, if_neg (by omega), if_pos hk]

/-- Settles O38. -/
theorem linkTestStartsOnALockedLink : Obligations.LinkTestStartsOnALockedLink := by
  unfold Obligations.LinkTestStartsOnALockedLink
  intro l rq s hr hok
  have hc : (17, Instr.linkTest l rq) ∈ laneRequests l rq := by simp [laneRequests]
  refine ⟨fun h1 hmax hk => ?_, fun h => ?_, fun h1 hmax hk => ?_⟩
  · have hdo : doLinkTest l rq (markTaken (.lane l) s) = (startTest l rq.w0.toNat (markTaken (.lane l) s), okAnswer) :=
      doLinkTest_starts (s := markTaken (.lane l) s) hok h1 hmax hk
    obtain ⟨ta, k, i, hdep⟩ := departLocked_lane_eq l (markTaken (.lane l) s)
    have hlink := departLocked_link l (markTaken (.lane l) s)
    have hlane' := startTest_lane l rq.w0.toNat (markTaken (.lane l) s)
    obtain ⟨t, n, ht, hlane, _, _, _, hserved⟩ := serveLane_to hc hr (fun _ => rfl) hdo (more := [])
      (doLinkTest_work l _ rq _) (congrArg bare hlane')
    have hring := serveLane_ring hc hr (fun _ => congrArg some hdo) ht
    rw [hlink, hdep] at hlane
    refine ⟨t, ht, ?_⟩
    rw [hlane]
    refine ⟨rfl, rfl, rfl, rfl, rfl, rfl, rfl, rfl, rfl, rfl, rfl, rfl, ⟨rfl, rfl, rfl, rfl⟩, fun hs hroom hp => ?_, hserved⟩
    obtain ⟨w, hw, hoff⟩ := startTest_offers (count := rq.w0.toNat) (s := markTaken (.lane l) s) hp
    rw [hw] at hring
    exact journaled_of_offer ((markTaken_asOffered (.lane l) s).trans hoff) hring (by decide) hs hroom
  · obtain ⟨t, ht, ⟨hlane, _, hserved⟩, _⟩ := serveLane_refuses hc hr (fun _ => rfl)
      (doLinkTest_count (s := markTaken (.lane l) s) hok h)
    exact ⟨t, ht, hlane, hserved⟩
  · obtain ⟨t, ht, ⟨hlane, _, hserved⟩, _⟩ := serveLane_refuses hc hr (fun _ => rfl)
      (doLinkTest_unlocked (s := markTaken (.lane l) s) hok h1 hmax hk)
    exact ⟨t, ht, hlane, hserved⟩

end Sys2Proof.Machine
end

section
/-! The Licence Table as lists of records and key slots, and the requests that free records or read them
(R74, R75, R81 to R83, R91 to R93). -/

namespace Sys2Proof.Machine

/-! ## Records by their id (R74) -/

theorem findLicence_cons (r : Option Licence) (rs : List (Option Licence)) (id : Nat) :
    findLicence (r :: rs) id = ((r.filter fun x => decide (x.id = id)).or (findLicence rs id)) := by
  rw [findLicence, List.findSome?_cons]
  cases r.filter fun x => decide (x.id = id) <;> rfl

theorem findLicence_some {rs : List (Option Licence)} {id : Nat} {x : Licence} (h : findLicence rs id = some x) :
    some x ∈ rs ∧ x.id = id := by
  obtain ⟨r, hr, hx⟩ := List.exists_of_findSome?_eq_some h
  obtain ⟨rfl, hid⟩ := Option.filter_eq_some_iff.1 hx
  exact ⟨hr, of_decide_eq_true hid⟩

theorem findLicence_eq_none_iff {rs : List (Option Licence)} {id : Nat} :
    findLicence rs id = none ↔ ∀ x, some x ∈ rs → x.id ≠ id := by
  rw [findLicence, List.findSome?_eq_none_iff]
  refine ⟨fun h x hx => ?_, fun h r hr => ?_⟩
  · simpa using h (some x) hx
  · cases r with
    | none => rfl
    | some x => simpa using h x hr

/-- A change of the records that leaves the licence with an id where it was. -/
theorem findLicence_map {f : Option Licence → Option Licence} {id : Nat}
    (h : ∀ r : Option Licence, (f r).filter (fun x => decide (x.id = id)) = r.filter fun x => decide (x.id = id))
    (rs : List (Option Licence)) : findLicence (rs.map f) id = findLicence rs id := by
  induction rs with
  | nil => rfl
  | cons r rs ih => rw [List.map_cons, findLicence_cons, findLicence_cons, h, ih]

/-! ## Freeing a licence (R81) -/

theorem findLicence_removeFrom_self (id : Nat) (t : LicenceTable) :
    findLicence (removeFrom id t).records id = none := by
  refine findLicence_eq_none_iff.2 fun x hx => ?_
  obtain ⟨r, _, hr⟩ := List.mem_map.1 hx
  have := (Option.filter_eq_some_iff.1 hr).2
  simpa using this

theorem findLicence_removeFrom_ne {id other : Nat} (h : other ≠ id) (t : LicenceTable) :
    findLicence (removeFrom id t).records other = findLicence t.records other := by
  refine findLicence_map (fun r => ?_) t.records
  cases r with
  | none => rfl
  | some x =>
    by_cases hx : x.id = other
    · simp [Option.filter, hx, h]
    · by_cases hid : x.id = id
      · simp [Option.filter, hid, Ne.symm h]
      · simp [Option.filter, hx, hid]

theorem mem_freeSlots {id : Nat} {keys : List (Option KeySlot)} {slot : KeySlot} (h : some slot ∈ freeSlots id keys) :
    slot.licence ≠ id := by
  obtain ⟨k, _, hk⟩ := List.mem_map.1 h
  have := (Option.filter_eq_some_iff.1 hk).2
  simpa using this

theorem getElem?_freeSlots {id i : Nat} {keys : List (Option KeySlot)} {slot : KeySlot}
    (h : keys[i]? = some (some slot)) (hs : slot.licence ≠ id) : (freeSlots id keys)[i]? = some (some slot) := by
  rw [freeSlots, List.getElem?_map, h]
  simp [Option.filter, hs]

theorem removeLicence_reported (s : State) (x : Licence) :
    Reported (modLicences (removeFrom x.id) s) (removeLicence s x) := offer_reported _ _

/-! ## The lowest lane with a property -/

theorem find?_allLanes {p : LaneId → Bool} {l : LaneId} (hl : p l = true)
    (h : ∀ m, laneIndex m < laneIndex l → p m = false) : allLanes.find? p = some l := by
  cases l
  · simp [allLanes, hl]
  · simp [allLanes, hl, h .a (by decide)]
  · simp [allLanes, hl, h .a (by decide), h .b (by decide)]
  · simp [allLanes, hl, h .a (by decide), h .b (by decide), h .c (by decide)]

theorem find?_allLanes_none {p : LaneId → Bool} (h : ∀ l, p l = false) : allLanes.find? p = none :=
  List.find?_eq_none.2 fun l _ => by rw [h l]; exact Bool.false_ne_true

/-! ## A request of the device's slot, and what its answer writes -/

theorem exec_device {kind : Nat} {rq : Req} {agrees : Bool} {c : Instr} (hc : (kind, c) ∈ deviceRequests rq agrees)
    {s : State} (hd : s.device = .running) {b : List Byte} (hb : blockCopy .device rq s = .ok b) {w : State} {a : Answer}
    (hw : deviceRequest kind rq b agrees (markTaken .device s) = some (w, a)) :
    exec c s = .next (noteChanges s (writeAnswer .device kind rq (w, a))) := by
  obtain ⟨hk, b', hexec, hsame⟩ := exec_deviceRequest hc s
  rw [← hsame s] at hexec
  have hjudge : judgeRequest .device kind rq agrees (markTaken .device s) = (w, a) := by
    unfold judgeRequest
    rw [hk, show readBlock (markTaken .device s).host rq = .ok b from hb]
    exact congrArg (Option.getD · _) hw
  rw [hexec, serve_running hd, hjudge]

/-! ## Remove Licence (R81) -/

theorem doRemove_frees {rq : Req} {s : State} {x : Licence}
    (hx : findLicence s.licences.records rq.w0.toNat = some x) (hr : referencedBy s rq.w0.toNat = none) :
    doRemove rq s = (writeDeviceStatus (removeLicence s x), okAnswer) := by
  unfold doRemove
  rw [hx]
  dsimp only
  rw [hr]

theorem doRemove_unknown {rq : Req} {s : State} (hx : findLicence s.licences.records rq.w0.toNat = none) :
    doRemove rq s = (s, paramAnswer .unknownLicence) := by
  unfold doRemove
  rw [hx]

theorem doRemove_inUse {rq : Req} {s : State} {x : Licence} {l : LaneId}
    (hx : findLicence s.licences.records rq.w0.toNat = some x) (hr : referencedBy s rq.w0.toNat = some l) :
    doRemove rq s = (s, ⟨.inUse, .none, laneIndex l, []⟩) := by
  unfold doRemove
  rw [hx]
  dsimp only
  rw [hr]

/-- Settles O40. -/
theorem removeFreesTheLicence : Obligations.RemoveFreesTheLicence := by
  unfold Obligations.RemoveFreesTheLicence
  intro rq s hreach
  have hc : (19, Instr.removeLicence rq) ∈ deviceRequests rq false := by simp [deviceRequests]
  refine ⟨fun x hx hr => ?_, fun hx => ?_, fun x l hx hl hlow => ?_⟩
  · obtain ⟨hd, b, hb⟩ := hreach
    have hdo := doRemove_frees (s := markTaken .device s) hx hr
    have hdev := doRemove_device [] rq (markTaken .device s)
    rw [hdo] at hdev
    obtain ⟨t, ht, h⟩ := serveDevice hc hd hb (congrArg some hdo) (more := []) hdev
    have hrep := (removeLicence_reported (markTaken .device s) x).trans (writeDeviceStatus_reported _)
    have hid : x.id = rq.w0.toNat := (findLicence_some hx).2
    have hlic : t.licences = removeFrom rq.w0.toNat s.licences := by
      rw [h.licences, hrep.licences, hid]
      rfl
    refine ⟨t, ht, ?_⟩
    rw [hlic]
    exact ⟨findLicence_removeFrom_self _ _, fun slot hs => mem_freeSlots hs,
      fun id hne => findLicence_removeFrom_ne hne _, fun i slot hk hs => getElem?_freeSlots hk hs, rfl, rfl,
      h.lanes.trans hrep.lanes, h.inputs.trans hrep.inputs, h.clockUnit.trans hrep.clockUnit, h.served⟩
  · obtain ⟨t, ht, ⟨hlic, hlanes, _, _, hserved⟩, _⟩ := serveDevice_refused hc hreach
      (a := paramAnswer .unknownLicence) fun _ _ => congrArg some (doRemove_unknown (s := markTaken .device s) hx)
    exact ⟨t, ht, hlic, hlanes, hserved⟩
  · have href : referencedBy s rq.w0.toNat = some l := find?_allLanes hl hlow
    obtain ⟨t, ht, ⟨hlic, hlanes, _, _, hserved⟩, _⟩ := serveDevice_refused hc hreach
      (a := ⟨.inUse, .none, laneIndex l, []⟩) fun _ _ => congrArg some
        (doRemove_inUse (s := markTaken .device s) hx href)
    exact ⟨t, ht, hlic, hlanes, hserved⟩

/-! ## The records by increasing id (R83) -/

theorem mem_insertLicence {x y : Licence} {ys : List Licence} : y ∈ insertLicence x ys ↔ y = x ∨ y ∈ ys := by
  induction ys with
  | nil => exact List.mem_cons
  | cons z zs ih =>
    rw [insertLicence]
    split
    · exact List.mem_cons
    · rw [List.mem_cons, ih, List.mem_cons]
      tauto

theorem insertLicence_sorted {x : Licence} {ys : List Licence} (h : ys.Pairwise fun a b => a.id ≤ b.id) :
    (insertLicence x ys).Pairwise fun a b => a.id ≤ b.id := by
  induction ys with
  | nil => exact List.pairwise_singleton _ _
  | cons y ys ih =>
    obtain ⟨hy, hys⟩ := List.pairwise_cons.1 h
    rw [insertLicence]
    split
    · next hle =>
      refine List.pairwise_cons.2 ⟨fun z hz => ?_, h⟩
      rcases List.mem_cons.1 hz with rfl | hz
      · exact hle
      · exact hle.trans (hy z hz)
    · next hgt =>
      refine List.pairwise_cons.2 ⟨fun z hz => ?_, ih hys⟩
      rcases mem_insertLicence.1 hz with rfl | hz
      · omega
      · exact hy z hz

theorem insertLicence_perm (x : Licence) (ys : List Licence) : (insertLicence x ys).Perm (x :: ys) := by
  induction ys with
  | nil => exact .refl _
  | cons y ys ih =>
    rw [insertLicence]
    split
    · exact .refl _
    · exact (List.Perm.cons y ih).trans (List.Perm.swap x y ys)

theorem licencesById_perm (rs : List (Option Licence)) : (licencesById rs).Perm (rs.filterMap id) := by
  have hfold (xs : List Licence) : (xs.foldr insertLicence []).Perm xs := by
    induction xs with
    | nil => exact .refl _
    | cons x xs ih => exact (insertLicence_perm x _).trans (List.Perm.cons x ih)
  exact hfold _

theorem licencesById_sorted (rs : List (Option Licence)) :
    (licencesById rs).Pairwise fun a b => a.id ≤ b.id := by
  have hfold (xs : List Licence) : (xs.foldr insertLicence []).Pairwise fun a b => a.id ≤ b.id := by
    induction xs with
    | nil => exact List.Pairwise.nil
    | cons x xs ih => exact insertLicence_sorted ih
  exact hfold _

theorem mem_licencesById {rs : List (Option Licence)} {x : Licence} : x ∈ licencesById rs ↔ some x ∈ rs := by
  rw [(licencesById_perm rs).mem_iff, List.mem_filterMap]
  exact ⟨fun ⟨r, hr, hx⟩ => hx ▸ hr, fun h => ⟨_, h, rfl⟩⟩

theorem length_filterMap_id (rs : List (Option Licence)) :
    (rs.filterMap id).length = (rs.filter Option.isSome).length := by
  induction rs with
  | nil => rfl
  | cons r rs ih =>
    cases r with
    | none => simpa using ih
    | some x => simpa using ih

theorem length_licencesById (t : LicenceTable) : (licencesById t.records).length = recordsInUse t :=
  (licencesById_perm t.records).length_eq.trans (length_filterMap_id t.records)

theorem licencesById_ids_nodup {rs : List (Option Licence)} (h : recordsDistinct rs) :
    ((licencesById rs).map Licence.id).Nodup := by
  refine (((licencesById_perm rs).map Licence.id).nodup_iff).2 ?_
  have hsame : (rs.filterMap id).map Licence.id = rs.filterMap fun r => r.map Licence.id := by
    rw [List.map_filterMap]
    rfl
  rw [hsame]
  exact h

theorem licencesById_strict {rs : List (Option Licence)} (h : recordsDistinct rs) :
    (licencesById rs).Pairwise fun a b => a.id < b.id := by
  have hne := List.pairwise_map.1 (licencesById_ids_nodup h)
  exact ((licencesById_sorted rs).and hne).imp fun ⟨hle, hne⟩ => lt_of_le_of_ne hle hne

/-! ## Factory Clear (R91, R93) -/

/-- The table once licences have been removed: its lists keep their lengths, its clock and its keys stand. -/
structure TableShaped (t u : LicenceTable) : Prop where
  records : u.records.length = t.records.length
  keys : u.keys.length = t.keys.length
  clock : u.clock = t.clock
  deviceKeyId : u.deviceKeyId = t.deviceKeyId

theorem TableShaped.refl (t : LicenceTable) : TableShaped t t := ⟨rfl, rfl, rfl, rfl⟩

theorem TableShaped.trans {t u v : LicenceTable} (h : TableShaped t u) (k : TableShaped u v) : TableShaped t v :=
  ⟨k.records.trans h.records, k.keys.trans h.keys, k.clock.trans h.clock, k.deviceKeyId.trans h.deviceKeyId⟩

theorem removeFrom_shaped (id : Nat) (t : LicenceTable) : TableShaped t (removeFrom id t) :=
  ⟨List.length_map _, List.length_map _, rfl, rfl⟩

/-- Work on the Licence Table that touches nothing else but what reports touch. -/
structure TableWork (s t : State) : Prop where
  lanes : t.lanes = s.lanes
  inputs : t.inputs = s.inputs
  clockUnit : t.clockUnit = s.clockUnit

theorem TableWork.refl (s : State) : TableWork s s := ⟨rfl, rfl, rfl⟩

theorem TableWork.trans {s t u : State} (h : TableWork s t) (k : TableWork t u) : TableWork s u :=
  ⟨k.lanes.trans h.lanes, k.inputs.trans h.inputs, k.clockUnit.trans h.clockUnit⟩

theorem Reported.tableWork {s t : State} (h : Reported s t) : TableWork s t := ⟨h.lanes, h.inputs, h.clockUnit⟩

theorem modLicences_tableWork (f : LicenceTable → LicenceTable) (s : State) : TableWork s (modLicences f s) :=
  ⟨rfl, rfl, rfl⟩

theorem removeLicence_tableWork (s : State) (x : Licence) :
    TableWork s (removeLicence s x) ∧ TableShaped s.licences (removeLicence s x).licences := by
  have hrep := removeLicence_reported s x
  refine ⟨(modLicences_tableWork _ s).trans hrep.tableWork, ?_⟩
  rw [hrep.licences]
  exact removeFrom_shaped x.id s.licences

theorem removeAll_tableWork (xs : List Licence) (s : State) :
    TableWork s (xs.foldl removeLicence s) ∧ TableShaped s.licences (xs.foldl removeLicence s).licences := by
  induction xs generalizing s with
  | nil => exact ⟨.refl s, .refl _⟩
  | cons x xs ih =>
    obtain ⟨hw, ht⟩ := removeLicence_tableWork s x
    obtain ⟨hw', ht'⟩ := ih (removeLicence s x)
    exact ⟨hw.trans hw', ht.trans ht'⟩

theorem filter_isSome_map_none {α : Type} (xs : List (Option α)) :
    ((xs.map fun _ => (none : Option α)).filter Option.isSome).length = 0 := by
  induction xs with
  | nil => rfl
  | cons x xs ih => exact ih

theorem doFactoryClear_clears {s : State} (hm : s.maintenance = true) (hl : ∀ l, (s.lane l).state = .empty) :
    doFactoryClear s =
      (writeDeviceStatus
          (clockEntry .cleared
            (modLicences clearTable ((licencesById s.licences.records).foldl removeLicence s))),
        okWords [recordsInUse s.licences]) := by
  have hnone : lowestLoaded s = none := find?_allLanes_none fun l => by rw [hl l]; decide
  unfold doFactoryClear
  rw [hm, if_neg (by decide), hnone, ← length_licencesById]

theorem doFactoryClear_maintenance {s : State} (hm : s.maintenance = false) :
    doFactoryClear s = (s, codeAnswer .notPermitted) := by
  unfold doFactoryClear
  rw [hm, if_pos (by decide)]

theorem doFactoryClear_state {s : State} {l : LaneId} (hm : s.maintenance = true) (hl : (s.lane l).state ≠ .empty)
    (h : ∀ m, laneIndex m < laneIndex l → (s.lane m).state = .empty) :
    doFactoryClear s = (s, ⟨.state, .none, laneIndex l, []⟩) := by
  have hsome : lowestLoaded s = some l :=
    find?_allLanes (decide_eq_true hl) fun m hlt => by rw [h m hlt]; decide
  unfold doFactoryClear
  rw [hm, if_neg (by decide), hsome]

theorem clockEntryWritten_reported (k : ClockEntry) (s : State) :
    Reported s (writeDeviceStatus (clockEntry k s)) :=
  (offer_reported _ s).trans (writeDeviceStatus_reported _)

/-- Settles O43. -/
theorem factoryClearEmptiesTheTable : Obligations.FactoryClearEmptiesTheTable := by
  unfold Obligations.FactoryClearEmptiesTheTable
  intro rq s hreach
  have hc : (25, Instr.factoryClear rq) ∈ deviceRequests rq false := by simp [deviceRequests]
  refine ⟨fun hm hl => ?_, fun hm => ?_, fun l hm hl hlow => ?_⟩
  · obtain ⟨hd, b, hb⟩ := hreach
    have hdo := doFactoryClear_clears (s := markTaken .device s) hm hl
    have hdev := doFactoryClear_device [] (markTaken .device s)
    rw [hdo] at hdev
    obtain ⟨t, ht, h⟩ := serveDevice hc hd hb (congrArg some hdo) (more := []) hdev
    obtain ⟨hwork, hshape⟩ := removeAll_tableWork (licencesById s.licences.records) (markTaken .device s)
    have hrep := clockEntryWritten_reported .cleared
      (modLicences clearTable ((licencesById s.licences.records).foldl removeLicence (markTaken .device s)))
    have hall := (hwork.trans (modLicences_tableWork clearTable _)).trans hrep.tableWork
    have hlic : t.licences =
        clearTable ((licencesById s.licences.records).foldl removeLicence (markTaken .device s)).licences :=
      h.licences.trans hrep.licences
    refine ⟨t, ht, ?_⟩
    rw [hlic]
    exact ⟨filter_isSome_map_none _, filter_isSome_map_none _, (List.length_map _).trans hshape.records,
      (List.length_map _).trans hshape.keys, rfl, hshape.clock, rfl, rfl, hshape.deviceKeyId,
      h.lanes.trans hall.lanes, h.inputs.trans hall.inputs, h.clockUnit.trans hall.clockUnit, h.served⟩
  · obtain ⟨t, ht, ⟨hlic, hlanes, _, _, hserved⟩, _⟩ := serveDevice_refused hc hreach
      (a := codeAnswer .notPermitted) fun _ _ => congrArg some
        (doFactoryClear_maintenance (s := markTaken .device s) hm)
    exact ⟨t, ht, hlic, hlanes, hserved⟩
  · obtain ⟨t, ht, ⟨hlic, hlanes, _, _, hserved⟩, _⟩ := serveDevice_refused hc hreach
      (a := ⟨.state, .none, laneIndex l, []⟩) fun _ _ => congrArg some
        (doFactoryClear_state (s := markTaken .device s) hm hl hlow)
    exact ⟨t, ht, hlic, hlanes, hserved⟩

end Sys2Proof.Machine
end

section
/-! The reads of the Licence Table into the host's buffer (R82, R83, R92). -/

namespace Sys2Proof.Machine

theorem writeAnswer_device_mem (kind : Nat) (rq : Req) (w : State) (a : Answer) (s : State) :
    (noteChanges s (writeAnswer .device kind rq (w, a))).host.mem =
      memWrite w.host.mem (slotAddr w .device) (answerBytes kind rq a) := rfl

theorem writeAnswer_device_attention (kind : Nat) (rq : Req) (w : State) (a : Answer) (s : State) :
    (noteChanges s (writeAnswer .device kind rq (w, a))).attention =
      w.attention ||| attentionBit (slotIndex .device) := rfl

theorem writeBuffer_ok {a : Nat} {bs : List Byte} {answer : Answer} {s : State}
    (h : accessFails s.host.writeFails a bs.length = false) :
    writeBuffer a bs answer s = ({ s with host := { s.host with mem := memWrite s.host.mem a bs } }, answer) := by
  unfold writeBuffer hostWrite
  rw [h]
  rfl

theorem writeBuffer_fails {a : Nat} {bs : List Byte} {answer : Answer} {s : State}
    (h : accessFails s.host.writeFails a bs.length = true) :
    writeBuffer a bs answer s = (s, paramAnswer .writeError) := by
  unfold writeBuffer hostWrite
  rw [h]
  rfl

/-- A request of the device's slot that writes the host's buffer. -/
theorem serveBuffer {kind : Nat} {rq : Req} {c : Instr} (hc : (kind, c) ∈ deviceRequests rq false) {s : State}
    (hr : reaches .device rq s) {bs : List Byte} {a : Answer}
    (hf : accessFails s.host.writeFails (bufferAddr rq) bs.length = false)
    (hout : bufferAddr rq + bs.length ≤ slotAddr s .device ∨ slotAddr s .device + 64 ≤ bufferAddr rq)
    (hw : ∀ b, deviceRequest kind rq b false (markTaken .device s) =
      some (writeBuffer (bufferAddr rq) bs a (markTaken .device s))) :
    ∃ t, exec c s = .next t ∧ memReadBytes t.host.mem (bufferAddr rq) bs.length = bs ∧
      t.licences = s.licences ∧ t.lanes = s.lanes ∧ t.inputs = s.inputs ∧ unreported s t ∧
      deviceServed kind rq a [(bufferAddr rq, bs.length)] s t := by
  obtain ⟨hd, b, hb⟩ := hr
  have hok : writeBuffer (bufferAddr rq) bs a (markTaken .device s) = _ :=
    writeBuffer_ok (s := markTaken .device s) hf
  have hdev := writeBuffer_device (more := [(bufferAddr rq, bs.length)]) a (markTaken .device s)
    fun (_ : accessFails (markTaken .device s).host.writeFails (bufferAddr rq) bs.length = false) => List.mem_cons_self
  rw [hok] at hdev
  have hjudge := (hw b).trans (congrArg some hok)
  obtain ⟨t, ht, h⟩ := serveDevice hc hd hb hjudge hdev
  have heq := Host.Outcome.next.inj (ht.symm.trans (exec_device hc hd hb hjudge))
  refine ⟨t, ht, ?_, h.licences, h.lanes, h.inputs, h.unreported, h.served⟩
  rw [heq, writeAnswer_device_mem, memReadBytes_memWrite_outside]
  · exact memReadBytes_memWrite_self _ _ _
  · rw [answerBytes_length]
    exact hout

/-! ## Read Licence and Read Identity (R82, R92) -/

theorem doRead_writes {rq : Req} {s : State} {x : Licence} (hx : findLicence s.licences.records rq.w0.toNat = some x)
    (hl : (licenceImage x).length ≤ rq.w4.toNat) :
    doRead rq s = writeBuffer (bufferAddr rq) (licenceImage x) okAnswer s := by
  unfold doRead
  rw [hx]
  exact if_neg (not_lt.2 hl)

theorem doRead_short {rq : Req} {s : State} {x : Licence} (hx : findLicence s.licences.records rq.w0.toNat = some x)
    (hl : rq.w4.toNat < (licenceImage x).length) : doRead rq s = (s, paramAnswer .buffer) := by
  unfold doRead
  rw [hx]
  exact if_pos hl

theorem doRead_unknown {rq : Req} {s : State} (hx : findLicence s.licences.records rq.w0.toNat = none) :
    doRead rq s = (s, paramAnswer .unknownLicence) := by
  unfold doRead
  rw [hx]

theorem identityWords_eq {s : State} (h : s.licences.deviceKeyId.toNat / 2 ^ 32 < 2 ^ 32) :
    doReadIdentity s =
      (s, ⟨.ok, .none, 0,
        [s.licences.deviceKeyId.toNat % 2 ^ 32, s.licences.deviceKeyId.toNat / 2 ^ 32, 1]⟩) := by
  unfold doReadIdentity wideWords
  rw [Nat.mod_eq_of_lt h]
  rfl

theorem readLicence_reads {rq : Req} {s : State} (hreach : reaches .device rq s) :
    (∀ x, findLicence s.licences.records rq.w0.toNat = some x →
      (licenceImage x).length ≤ rq.w4.toNat →
      (accessFails s.host.writeFails (bufferAddr rq) (licenceImage x).length = false →
        bufferAddr rq + (licenceImage x).length ≤ slotAddr s .device ∨
          slotAddr s .device + 64 ≤ bufferAddr rq →
        ∃ t, exec (.readLicence rq) s = .next t ∧
          memReadBytes t.host.mem (bufferAddr rq) (licenceImage x).length = licenceImage x ∧
          t.licences = s.licences ∧ t.lanes = s.lanes ∧ unreported s t ∧
          deviceServed 20 rq ⟨.ok, .none, 0, []⟩ [(bufferAddr rq, (licenceImage x).length)] s t) ∧
      (accessFails s.host.writeFails (bufferAddr rq) (licenceImage x).length = true →
        ∃ t, exec (.readLicence rq) s = .next t ∧ t.licences = s.licences ∧ t.lanes = s.lanes ∧
          deviceServed 20 rq ⟨.param, .writeError, 0, []⟩ [] s t)) := by
  have hc : (20, Instr.readLicence rq) ∈ deviceRequests rq false := by simp [deviceRequests]
  intro x hx hl
  have hdo : doRead rq (markTaken .device s) = _ := doRead_writes (s := markTaken .device s) hx hl
  refine ⟨fun hf hout => ?_, fun hf => ?_⟩
  · obtain ⟨t, ht, hmem, hlic, hlanes, _, hun, hserved⟩ := serveBuffer hc hreach hf hout
      (a := okAnswer) fun _ => congrArg some hdo
    exact ⟨t, ht, hmem, hlic, hlanes, hun, hserved⟩
  · obtain ⟨t, ht, ⟨hlic, hlanes, _, _, hserved⟩, _⟩ := serveDevice_refused hc hreach
      (a := paramAnswer .writeError) fun _ _ =>
        congrArg some (hdo.trans (writeBuffer_fails (s := markTaken .device s) hf))
    exact ⟨t, ht, hlic, hlanes, hserved⟩

theorem readLicence_refuses {rq : Req} {s : State} (hreach : reaches .device rq s) {r : Reason}
    (hdo : doRead rq (markTaken .device s) = (markTaken .device s, paramAnswer r)) :
    ∃ t, exec (.readLicence rq) s = .next t ∧ unreported s t ∧ deviceRefused 20 rq ⟨.param, r, 0, []⟩ s t := by
  have hc : (20, Instr.readLicence rq) ∈ deviceRequests rq false := by simp [deviceRequests]
  obtain ⟨t, ht, href, hun⟩ := serveDevice_refused hc hreach (a := paramAnswer r) fun _ _ => congrArg some hdo
  exact ⟨t, ht, hun, href⟩

theorem readIdentity_answers {rq : Req} {s : State} (hreach : reaches .device rq s) :
    ∃ t, exec (.readIdentity rq) s = .next t ∧ t.licences = s.licences ∧ t.lanes = s.lanes ∧
      t.inputs = s.inputs ∧ t.clockUnit = s.clockUnit ∧ unreported s t ∧
      deviceServed 24 rq
        ⟨.ok, .none, 0,
          [s.licences.deviceKeyId.toNat % 2 ^ 32, s.licences.deviceKeyId.toNat / 2 ^ 32, 1]⟩ [] s t := by
  have hc : (24, Instr.readIdentity rq) ∈ deviceRequests rq false := by simp [deviceRequests]
  have hlt : s.licences.deviceKeyId.toNat / 2 ^ 32 < 2 ^ 32 := by
    have := s.licences.deviceKeyId.isLt
    omega
  obtain ⟨t, ht, ⟨hlic, hlanes, hin, hclock, hserved⟩, hun⟩ := serveDevice_refused hc hreach fun _ _ =>
    congrArg some (identityWords_eq (s := markTaken .device s) hlt)
  exact ⟨t, ht, hlic, hlanes, hin, hclock, hun, hserved⟩

/-! ## List Licences (R83) -/

theorem listEntry_length (x : Licence) : (listEntry x).length = 12 :=
  layFrom_length (by simp [fieldsFit, le_length])

/-- The licences that a List Licences sends. -/
def listed (rq : Req) (s : State) : List Licence := (licencesById s.licences.records).take (rq.w4.toNat / 12)

theorem listed_length (rq : Req) (s : State) :
    (listed rq s).length = min (recordsInUse s.licences) (rq.w4.toNat / 12) := by
  rw [listed, List.length_take, length_licencesById, min_comm]

theorem listed_bytes_length (rq : Req) (s : State) :
    ((listed rq s).flatMap listEntry).length = 12 * (listed rq s).length :=
  flatMap_length_of_each _ _ 12 listEntry_length

theorem doList_writes {rq : Req} {s : State} (h : (listed rq s).isEmpty = false) :
    doList rq s =
      writeBuffer (bufferAddr rq) ((listed rq s).flatMap listEntry)
        ⟨.ok, .none, 0, [recordsInUse s.licences, (listed rq s).length]⟩ s := by
  unfold doList
  dsimp only
  rw [length_licencesById, show (licencesById s.licences.records).take (rq.w4.toNat / listEntrySize) = listed rq s from rfl,
    h]
  rfl

theorem doList_empty {rq : Req} {s : State} (h : (listed rq s).isEmpty = true) :
    doList rq s = (s, ⟨.ok, .none, 0, [recordsInUse s.licences, (listed rq s).length]⟩) := by
  unfold doList
  dsimp only
  rw [length_licencesById, show (licencesById s.licences.records).take (rq.w4.toNat / listEntrySize) = listed rq s from rfl,
    h]
  rfl

theorem listed_before_rest {rq : Req} {s : State} {x y : Licence} (hx : x ∈ listed rq s)
    (hy : some y ∈ s.licences.records) (hn : y ∉ listed rq s) : x.id ≤ y.id := by
  have hsorted := licencesById_sorted s.licences.records
  rw [← List.take_append_drop (rq.w4.toNat / 12) (licencesById s.licences.records)] at hsorted
  refine (List.pairwise_append.1 hsorted).2.2 x hx y ?_
  have hall := mem_licencesById.2 hy
  rw [← List.take_append_drop (rq.w4.toNat / 12) (licencesById s.licences.records)] at hall
  exact (List.mem_append.1 hall).resolve_left hn

theorem listLicences_lists {rq : Req} {s : State} (hreach : reaches .device rq s)
    (hf : accessFails s.host.writeFails (bufferAddr rq) (12 * (listed rq s).length) = false)
    (hout : bufferAddr rq + rq.w4.toNat ≤ slotAddr s .device ∨ slotAddr s .device + 64 ≤ bufferAddr rq) :
    ∃ t, exec (.listLicences rq) s = .next t ∧
      memReadBytes t.host.mem (bufferAddr rq) (12 * (listed rq s).length) = (listed rq s).flatMap listEntry ∧
      t.licences = s.licences ∧ t.lanes = s.lanes ∧ t.inputs = s.inputs ∧ unreported s t ∧
      deviceServed 21 rq ⟨.ok, .none, 0, [recordsInUse s.licences, (listed rq s).length]⟩
        [(bufferAddr rq, 12 * (listed rq s).length)] s t := by
  have hc : (21, Instr.listLicences rq) ∈ deviceRequests rq false := by simp [deviceRequests]
  have hfit : 12 * (listed rq s).length ≤ rq.w4.toNat := by
    rw [listed_length]
    omega
  rw [← listed_bytes_length] at hf hfit ⊢
  cases hempty : (listed rq s).isEmpty with
  | false =>
    have hdo : doList rq (markTaken .device s) = _ := doList_writes (s := markTaken .device s) hempty
    exact serveBuffer hc hreach hf (hout.imp_left fun h => by omega) fun _ => congrArg some hdo
  | true =>
    have hdo : doList rq (markTaken .device s) = _ := doList_empty (s := markTaken .device s) hempty
    obtain ⟨t, ht, ⟨hlic, hlanes, hin, _, hserved⟩, hun⟩ := serveDevice_refused hc hreach fun _ _ => congrArg some hdo
    obtain ⟨hans, hreg, heng, hpend, hmem⟩ := hserved
    refine ⟨t, ht, ?_, hlic, hlanes, hin, hun, hans, hreg, heng, hpend, fun hs => (hmem hs).mono ?_⟩
    · rw [List.isEmpty_iff.1 hempty]
      rfl
    · rw [List.append_nil]
      exact List.subset_append_left _ _

/-- Settles O41. -/
theorem licenceAndIdentityReads : Obligations.LicenceAndIdentityReads := by
  unfold Obligations.LicenceAndIdentityReads
  refine ⟨fun rq s hreach => ⟨readLicence_reads hreach, fun hx => ?_, fun x hx hl => ?_,
    readIdentity_answers hreach⟩, fun rq s hreach hf hout => ?_, fun rq s hreach h1 h12 hf => ?_⟩
  · exact readLicence_refuses hreach (doRead_unknown (s := markTaken .device s) hx)
  · exact readLicence_refuses hreach (doRead_short (s := markTaken .device s) hx hl)
  · rw [← listed_length] at hf
    obtain ⟨t, ht, hmem, hlic, hlanes, hin, hun, hserved⟩ := listLicences_lists hreach hf hout
    refine ⟨t, listed rq s, ht, listed_length rq s, fun x hx => ?_, ?_, fun hd => ?_, fun x y hx hy hn => ?_, hmem, hlic,
      hlanes, hin, hun, hserved⟩
    · exact mem_licencesById.1 (List.mem_of_mem_take hx)
    · exact (licencesById_sorted _).sublist (List.take_sublist _ _)
    · exact (licencesById_strict hd).sublist (List.take_sublist _ _)
    · exact listed_before_rest hx hy hn
  · have hc : (21, Instr.listLicences rq) ∈ deviceRequests rq false := by simp [deviceRequests]
    rw [← listed_length, ← listed_bytes_length] at hf
    have hlen := listed_length rq s
    have hne : (listed rq s).isEmpty = false := by
      rw [← Bool.not_eq_true, List.isEmpty_iff_length_eq_zero, hlen]
      omega
    obtain ⟨t, ht, href, hun⟩ := serveDevice_refused hc hreach (a := paramAnswer .writeError) fun _ _ =>
      congrArg some ((doList_writes (s := markTaken .device s) hne).trans
        (writeBuffer_fails (s := markTaken .device s) hf))
    exact ⟨t, ht, hun, href⟩

end Sys2Proof.Machine
end

section
/-! Set Inputs (R168). -/

namespace Sys2Proof.Machine

theorem flagBits_eq_bits (bs : List Bool) :
    flagBits bs = ((List.range bs.length).map fun i => if bs.getD i false then 2 ^ i else 0).sum := by
  induction bs with
  | nil => rfl
  | cons b bs ih =>
    have hdouble (n : Nat) : 2 * ((List.range n).map fun i => if bs.getD i false then 2 ^ i else 0).sum =
        ((List.range n).map fun i => if bs.getD i false then 2 ^ (i + 1) else 0).sum := by
      rw [← List.sum_map_mul_left]
      refine congrArg List.sum (List.map_congr_left fun i _ => ?_)
      split
      · rw [pow_succ']
      · rfl
    rw [flagBits, ih, hdouble, List.length_cons, List.range_succ_eq_map, List.map_cons, List.sum_cons, List.map_map]
    rfl

theorem badInput_none {α : Type} {read : Nat → Option α} {off : Nat} {bs : List Byte}
    (h : ∀ i < 8, (read (field bs (8 * i + off) 1)).isSome = true) : badInput read off bs = none :=
  List.find?_eq_none.2 fun i hi => by
    rw [Option.isNone_eq_false_iff.2 (h i (List.mem_range.1 hi))]
    exact Bool.false_ne_true

theorem badInput_some {α : Type} {read : Nat → Option α} {off : Nat} {bs : List Byte} {i : Nat} (hi : i < 8)
    (hn : read (field bs (8 * i + off) 1) = none)
    (h : ∀ j < i, (read (field bs (8 * j + off) 1)).isSome = true) : badInput read off bs = some i :=
  List.find?_range_eq_some.2 ⟨by rw [hn]; rfl, List.mem_range.2 hi, fun j hj => by
    rw [Option.isNone_eq_false_iff.2 (h j hj)]; rfl⟩

/-- The settings that a block of the request gives. -/
def blockSettings (b : List Byte) : List InputSettings := (List.range 8).map (settingsOf b)

/-- The inputs with the settings of the block. -/
def renewed (b : List Byte) (s : State) : State :=
  { s with inputs := List.zipWith renewInput s.inputs (blockSettings b) }

theorem doSetInputs_takes {b : List Byte} {s : State} (hb : b.length = 64)
    (h : ∀ i < 8, (functionOf (field b (8 * i) 1)).isSome = true ∧ (polarityOf (field b (8 * i + 2) 1)).isSome = true) :
    doSetInputs b s =
      (if (renewed b s).inputs = s.inputs then renewed b s else writeDeviceStatus (renewed b s),
        okWords (inputWords (s.inputs.map Input.settings) (blockSettings b))) := by
  unfold doSetInputs
  rw [if_neg (not_not.2 (by exact hb)), badInput_none (read := functionOf) (off := 0) fun i hi => (h i hi).1,
    badInput_none (read := polarityOf) fun i hi => (h i hi).2]
  rfl

theorem doSetInputs_length {b : List Byte} {s : State} (hb : b.length ≠ 64) :
    doSetInputs b s = (s, paramAnswer .length) := if_pos hb

theorem doSetInputs_function {b : List Byte} {s : State} {i : Nat} (hb : b.length = 64) (hi : i < 8)
    (hn : functionOf (field b (8 * i) 1) = none) (h : ∀ j < i, (functionOf (field b (8 * j) 1)).isSome = true) :
    doSetInputs b s = (s, paramAt .function i) := by
  unfold doSetInputs
  rw [if_neg (not_not.2 (by exact hb)), badInput_some (read := functionOf) (off := 0) hi hn h]

theorem doSetInputs_polarity {b : List Byte} {s : State} {i : Nat} (hb : b.length = 64) (hi : i < 8)
    (hf : ∀ j < 8, (functionOf (field b (8 * j) 1)).isSome = true)
    (hn : polarityOf (field b (8 * i + 2) 1) = none)
    (h : ∀ j < i, (polarityOf (field b (8 * j + 2) 1)).isSome = true) :
    doSetInputs b s = (s, paramAt .polarity i) := by
  unfold doSetInputs
  rw [if_neg (not_not.2 (by exact hb)), badInput_none (read := functionOf) (off := 0) hf,
    badInput_some (read := polarityOf) hi hn h]

theorem blockSettings_getElem? {i : Nat} (b : List Byte) (hi : i < 8) :
    (blockSettings b)[i]? = some (settingsOf b i) := by
  rw [blockSettings, List.getElem?_map, List.getElem?_range hi]
  rfl

theorem renewed_getElem? {b : List Byte} {s : State} {i : Nat} {x : Input} (hi : i < 8) (hx : s.inputs[i]? = some x) :
    (renewed b s).inputs[i]? = some (renewInput x (settingsOf b i)) := by
  rw [renewed, List.getElem?_zipWith, hx, blockSettings_getElem? b hi]

theorem renewInput_settings (x : Input) (set : InputSettings) : (renewInput x set).settings = set := by
  unfold renewInput
  split
  · next h => exact h
  · rfl

theorem renewInput_filter (x : Input) (set : InputSettings) :
    ((renewInput x set).settings = x.settings → (renewInput x set).filter = x.filter) ∧
      ((renewInput x set).settings ≠ x.settings → (renewInput x set).filter = restartFilter x.filter) := by
  rw [renewInput_settings]
  unfold renewInput
  refine ⟨fun h => by rw [if_pos h.symm], fun h => by rw [if_neg (Ne.symm h)]⟩

/-- The restart bits of the answer, one for each input whose settings changed (R179). -/
theorem restartBits_eq {b : List Byte} {s : State} (hs : s.inputs.length = 8) :
    flagBits (List.zipWith (fun a c => decide (a ≠ c)) (s.inputs.map Input.settings) (blockSettings b)) =
      ((List.range 8).map fun i =>
        if decide (((renewed b s).inputs[i]?).map Input.settings ≠ (s.inputs[i]?).map Input.settings) then 2 ^ i
        else 0).sum := by
  have hlen : (List.zipWith (fun a c => decide (a ≠ c)) (s.inputs.map Input.settings) (blockSettings b)).length = 8 := by
    simp [blockSettings, hs]
  rw [flagBits_eq_bits, hlen]
  refine congrArg List.sum (List.map_congr_left fun i hi => ?_)
  have hi8 := List.mem_range.1 hi
  obtain ⟨x, hx⟩ : ∃ x, s.inputs[i]? = some x := ⟨_, List.getElem?_eq_getElem (by omega)⟩
  have hbit : (List.zipWith (fun a c => decide (a ≠ c)) (s.inputs.map Input.settings) (blockSettings b)).getD i false =
      decide (x.settings ≠ settingsOf b i) := by
    rw [List.getD_eq_getElem?_getD, List.getElem?_zipWith, List.getElem?_map, hx, blockSettings_getElem? b hi8]
    rfl
  rw [hbit, renewed_getElem? hi8 hx, hx, Option.map_some, Option.map_some, renewInput_settings]
  simp only [ne_eq, Option.some.injEq, eq_comm]

theorem inputWords_eq {b : List Byte} {s : State} (hs : s.inputs.length = 8) :
    inputWords (s.inputs.map Input.settings) (blockSettings b) =
      let d := fun i => max 1 (min 255 (field b (8 * i + 4) 2))
      [d 0 + 2 ^ 8 * d 1 + 2 ^ 16 * d 2 + 2 ^ 24 * d 3,
        d 4 + 2 ^ 8 * d 5 + 2 ^ 16 * d 6 + 2 ^ 24 * d 7,
        ((List.range 8).map fun i =>
          if decide (((renewed b s).inputs[i]?).map Input.settings ≠ (s.inputs[i]?).map Input.settings) then 2 ^ i
          else 0).sum] := by
  unfold inputWords
  rw [restartBits_eq hs]
  rfl

/-- The state that a taken Set Inputs leaves: the inputs, and what a record of the device's status touches. -/
theorem renewed_written (b : List Byte) (s : State) :
    Reported (renewed b s) (if (renewed b s).inputs = s.inputs then renewed b s else writeDeviceStatus (renewed b s)) ∧
      (if (renewed b s).inputs = s.inputs then renewed b s else writeDeviceStatus (renewed b s)).journal = s.journal := by
  split
  · exact ⟨.refl _, rfl⟩
  · exact ⟨writeDeviceStatus_reported _, writeDeviceStatus_journal _⟩

/-- Settles O44. -/
theorem setInputsRestartsChangedInputs : Obligations.SetInputsRestartsChangedInputs := by
  unfold Obligations.SetInputsRestartsChangedInputs
  intro rq s b hd hs hb
  have hc : (26, Instr.setInputs rq) ∈ deviceRequests rq false := by simp [deviceRequests]
  have hrefused {a : Answer} (hdo : doSetInputs b (markTaken .device s) = (markTaken .device s, a)) :
      ∃ t, exec (.setInputs rq) s = .next t ∧ deviceRefused 26 rq a s t ∧ unreported s t :=
    serveDevice_refused hc ⟨hd, b, hb⟩ fun b' hb' => by
      obtain rfl := Except.ok.inj (hb.symm.trans hb')
      exact congrArg some hdo
  refine ⟨fun hl hok => ?_, fun hl => ?_, fun i hi hl hn hbefore => ?_, fun i hi hl hf hn hbefore => ?_⟩
  · have hdo := doSetInputs_takes (s := markTaken .device s) hl hok
    have hdev := doSetInputs_device [] b (markTaken .device s)
    rw [hdo] at hdev
    obtain ⟨t, ht, h⟩ := serveDevice hc hd hb (congrArg some hdo) (more := []) hdev
    obtain ⟨hrep, hjournal⟩ := renewed_written b (markTaken .device s)
    have hin : t.inputs = (renewed b s).inputs := h.inputs.trans hrep.inputs
    have hserved := h.served
    rw [show (markTaken .device s).inputs = s.inputs from rfl, inputWords_eq hs, ← hin] at hserved
    refine ⟨t, ht, ?_, fun i hi x hx => ⟨renewInput x (settingsOf b i), ?_, ?_⟩, h.lanes.trans hrep.lanes,
      h.licences.trans hrep.licences, h.clockUnit.trans hrep.clockUnit, h.unreported.1.trans hjournal, hserved⟩
    · rw [hin]
      simp [renewed, blockSettings, hs]
    · rw [hin]
      exact renewed_getElem? hi hx
    · obtain ⟨hfun, hpol⟩ := hok i hi
      obtain ⟨f, hf⟩ := Option.isSome_iff_exists.1 hfun
      obtain ⟨p, hp⟩ := Option.isSome_iff_exists.1 hpol
      obtain ⟨hsame, hchanged⟩ := renewInput_filter x (settingsOf b i)
      refine ⟨?_, ?_, ?_, ?_, hsame, fun hne => ?_⟩
      · rw [renewInput_settings, hf, settingsOf, hf]
        rfl
      · rw [renewInput_settings]
        rfl
      · rw [renewInput_settings, hp, settingsOf, hp]
        rfl
      · rw [renewInput_settings]
        rfl
      · rw [hchanged hne]
        exact ⟨rfl, rfl, rfl, rfl⟩
  · obtain ⟨t, ht, ⟨hlic, hlanes, hin, _, hserved⟩, _⟩ := hrefused (doSetInputs_length hl)
    exact ⟨t, ht, hin, hlanes, hlic, hserved⟩
  · obtain ⟨t, ht, href, hun⟩ := hrefused (doSetInputs_function hl hi hn hbefore)
    exact ⟨t, ht, hun, href⟩
  · obtain ⟨t, ht, href, hun⟩ := hrefused (doSetInputs_polarity hl hi hf hn hbefore)
    exact ⟨t, ht, hun, href⟩

end Sys2Proof.Machine
end

section
/-! Set Clock and Adjust Clock (R77, R89, R90). -/

namespace Sys2Proof.Machine

/-! ## ATTENTION only rises -/

/-- Bits are set in ATTENTION, and none is cleared. -/
def Rises (s t : State) : Prop := ∃ w, t.attention = s.attention ||| w

theorem Rises.of_eq {s t : State} (h : t.attention = s.attention) : Rises s t := ⟨0#7, by rw [h, BitVec.or_zero]⟩

theorem Rises.refl (s : State) : Rises s s := .of_eq rfl

theorem Rises.trans {s t u : State} (h : Rises s t) (k : Rises t u) : Rises s u := by
  obtain ⟨w, hw⟩ := h
  obtain ⟨v, hv⟩ := k
  exact ⟨w ||| v, by rw [hv, hw, BitVec.or_assoc]⟩

theorem Rises.foldl {α : Type} {f : State → α → State} (h : ∀ s a, Rises s (f s a)) (xs : List α) (s : State) :
    Rises s (xs.foldl f s) :=
  foldl_induction (R := Rises) .refl (fun _ _ _ => .trans) h xs s

theorem and_bit_of_rises {s t : State} (h : Rises s t) {b : BitVec 7} (hb : s.attention &&& b ≠ 0) :
    t.attention &&& b ≠ 0 := by
  obtain ⟨w, hw⟩ := h
  intro h0
  refine hb (BitVec.eq_of_getLsbD_eq fun i hi => ?_)
  have hbit := congrArg (BitVec.getLsbD · i) h0
  simp only [hw, BitVec.getLsbD_and, BitVec.getLsbD_or] at hbit ⊢
  revert hbit
  cases s.attention.getLsbD i <;> simp

theorem writeDeviceStatus_rises (s : State) : Rises s (writeDeviceStatus s) := .of_eq (writeDeviceStatus_attention s)

theorem writeLaneStatus_rises (l : LaneId) (s : State) : Rises s (writeLaneStatus l s) := by
  unfold writeLaneStatus
  split
  · exact .refl s
  · exact .refl s

theorem putEntry_rises (e : JournalEntry) (s : State) : Rises s (putEntry e s) := ⟨_, putEntry_attention e s⟩

theorem withhold_rises (s : State) : Rises s (withhold s) := .of_eq (withhold_attention s)

theorem putGap_rises (s : State) : Rises s (putGap s) := putEntry_rises _ (setWithheld 0 s)

theorem offer_rises (e : JournalEntry) (s : State) : Rises s (offer e s) := by
  have hrefresh : Rises s (refreshForOffer s) := by
    unfold refreshForOffer
    split
    · exact .refl s
    · exact .of_eq rfl
  unfold offer offerNoted
  split
  · exact .refl s
  · dsimp only
    have hgap : Rises s (if (refreshForOffer s).journal.withheld = 0 then refreshForOffer s
        else putGap (refreshForOffer s)) := by
      split
      · exact hrefresh
      · exact hrefresh.trans (putGap_rises _)
    split
    · exact hrefresh.trans (withhold_rises _)
    · generalize (if (refreshForOffer s).journal.withheld = 0 then refreshForOffer s
        else putGap (refreshForOffer s)) = u at hgap ⊢
      split
      · exact hgap.trans (withhold_rises u)
      · exact hgap.trans (putEntry_rises e u)

theorem switchBack_rises (s : State) : Rises s (switchBack s) := by
  unfold switchBack
  split
  · exact .trans (writeDeviceStatus_rises { s with clockUnit := { s.clockUnit with source := .external } })
      (offer_rises ⟨.clock, none, 0, [ClockEntry.switchedBack.ctorIdx]⟩ _)
  · exact .refl s

theorem modLane_rises (l : LaneId) (f : Lane → Lane) (s : State) : Rises s (s.modLane l f) := .of_eq rfl

theorem changeState_rises (l : LaneId) (st : LaneState) (c : Cause) (f : Lane → Lane) (s : State) :
    Rises s (changeState l st c f s) :=
  (((offer_rises _ s).trans (modLane_rises l _ _)).trans (writeLaneStatus_rises l _)).trans (switchBack_rises _)

theorem evaluateAt_rises (s : State) (i : Nat) : Rises s (evaluateAt i s) := by
  unfold evaluateAt
  split
  · exact .refl s
  · dsimp only
    split
    · exact .refl s
    · exact offer_rises _ (modLicences _ s)

theorem evaluateAll_rises (s : State) : Rises s (evaluateAll s) := .foldl evaluateAt_rises _ s

theorem writeParts_rises (l : LaneId) (is : List Nat) (s : State) : Rises s (writeParts l is s) := by
  refine .foldl (fun s i => ?_) is s
  unfold writePart
  split
  · exact .refl s
  · split
    · exact .refl s
    · exact .refl s

theorem startRun_rises (l : LaneId) (c : Cause) (s : State) : Rises s (startRun l c s) :=
  (writeParts_rises l (List.range 32) (modScanner l (fun c => { c with marks := clearScanner.marks })
    (reserveAll (tallyLicences (s.lane l).tally) s))).trans (changeState_rises l .playing c runLane _)

theorem compareArmed_rises (s : State) (l : LaneId) : Rises s (compareArmed s l) := by
  unfold compareArmed
  split
  · unfold fireStart
    split
    · exact startRun_rises l .clockStart s
    · exact (offer_rises _ s).trans (changeState_rises l .ready .clockStart id _)
  · exact .refl s

theorem compareAllArmed_rises (s : State) : Rises s (compareAllArmed s) := .foldl compareArmed_rises _ s

/-! ## The ARMED lanes at a change of the clock -/

/-- The records of the table change, and nothing else of it; the inputs stand. -/
def RecordsWork (s t : State) : Prop :=
  (∃ rs, t.licences = { s.licences with records := rs }) ∧ t.inputs = s.inputs

theorem RecordsWork.refl (s : State) : RecordsWork s s := ⟨⟨_, rfl⟩, rfl⟩

theorem RecordsWork.trans {s t u : State} (h : RecordsWork s t) (k : RecordsWork t u) : RecordsWork s u := by
  obtain ⟨⟨rs, hr⟩, hi⟩ := h
  obtain ⟨⟨rs', hr'⟩, hi'⟩ := k
  exact ⟨⟨rs', by rw [hr', hr]⟩, hi'.trans hi⟩

theorem Reported.recordsWork {s t : State} (h : Reported s t) : RecordsWork s t :=
  ⟨⟨s.licences.records, h.licences⟩, h.inputs⟩

theorem compareArmed_records (s : State) (l : LaneId) : RecordsWork s (compareArmed s l) := by
  obtain ⟨_, _, ⟨hin, _⟩, _⟩ := (compareArmed_work (l := l) (s := s) (List.Subset.refl _)).rest
  refine ⟨?_, hin⟩
  unfold compareArmed
  split
  · unfold fireStart
    split
    · exact ⟨_, (startRun_begins l .clockStart s).2⟩
    · exact ⟨_, (enterState_licences l .ready .clockStart _).trans (offer_licences _ s)⟩
  · exact ⟨_, rfl⟩

theorem compareAllArmed_records (s : State) : RecordsWork s (compareAllArmed s) :=
  foldl_induction (R := RecordsWork) .refl (fun _ _ _ => .trans) compareArmed_records allLanes s

theorem compareAllArmed_unarmed {s : State} (h : ∀ l, (s.lane l).state ≠ .armed) : compareAllArmed s = s := by
  have hlane (l : LaneId) : compareArmed s l = s := by
    unfold compareArmed startDue
    rw [decide_eq_false (h l), Bool.false_and, if_neg Bool.false_ne_true]
  have hfold (ls : List LaneId) : ls.foldl compareArmed s = s := by
    induction ls with
    | nil => rfl
    | cons l ls ih => rw [List.foldl_cons, hlane, ih]
  exact hfold allLanes

/-! ## The clock changed -/

theorem clockChanged_rises (ws : List Nat) (s : State) : Rises s (clockChanged ws s) :=
  (((evaluateAll_rises s).trans (compareAllArmed_rises _)).trans (offer_rises _ _)).trans (writeDeviceStatus_rises _)

theorem clockChanged_records (ws : List Nat) (s : State) : RecordsWork s (clockChanged ws s) := by
  have heval : RecordsWork s (evaluateAll s) :=
    ⟨⟨_, evaluateAll_licences s⟩, (evaluateAll_reported s).inputs⟩
  exact (heval.trans (compareAllArmed_records _)).trans
    ((offer_reported _ _).trans (writeDeviceStatus_reported _)).recordsWork

theorem clockChanged_unarmed {s : State} (ws : List Nat) (h : ∀ l, (s.lane l).state ≠ .armed) :
    (clockChanged ws s).lanes = s.lanes ∧
      (clockChanged ws s).licences.records =
        recordsEvaluated s.licences.clockValid s.licences.clock s.licences.records := by
  have heval := evaluateAll_reported s
  have hlane (l : LaneId) : (evaluateAll s).lane l = s.lane l := heval.lane l
  have hun : compareAllArmed (evaluateAll s) = evaluateAll s :=
    compareAllArmed_unarmed fun l => by rw [hlane]; exact h l
  have hrep : Reported (evaluateAll s) (clockChanged ws s) := by
    unfold clockChanged
    rw [hun]
    exact (offer_reported _ _).trans (writeDeviceStatus_reported _)
  exact ⟨hrep.lanes.trans heval.lanes, by rw [hrep.licences, evaluateAll_licences]; rfl⟩

theorem clearLost_licences (s : State) : (clearLost s).licences = { s.licences with retainedLost := false } := by
  unfold clearLost
  split
  · rfl
  · next h => rw [← Bool.eq_false_iff.2 h]

theorem clearLost_besides (s : State) : (clearLost s).lanes = s.lanes ∧ (clearLost s).inputs = s.inputs := by
  unfold clearLost
  split
  · exact ⟨rfl, rfl⟩
  · exact ⟨rfl, rfl⟩

theorem clearLost_attention {s : State} (h : s.licences.retainedLost = true) :
    (clearLost s).attention &&& attentionBit 6 ≠ 0 := by
  unfold clearLost
  rw [if_pos h]
  show (s.attention ||| attentionBit 6) &&& attentionBit 6 ≠ 0
  rw [show (s.attention ||| attentionBit 6) &&& attentionBit 6 = attentionBit 6 from by
    ext i; simp; tauto]
  decide

/-- The work of a request that has changed the clock and left the state `u` before its consequences. -/
structure ClockServed (kind : Nat) (rq : Req) (a : Answer) (s u t : State) : Prop where
  records : ∃ rs, t.licences = { u.licences with records := rs }
  inputs : t.inputs = u.inputs
  rises : Rises u t
  unarmed : (∀ l, (u.lane l).state ≠ .armed) → t.lanes = u.lanes ∧
    t.licences.records = recordsEvaluated u.licences.clockValid u.licences.clock u.licences.records
  served : deviceServed kind rq a [] s t

theorem serveClock {kind : Nat} {rq : Req} {c : Instr} (hc : (kind, c) ∈ deviceRequests rq false) {s : State}
    (hr : reaches .device rq s) {u : State} {ws : List Nat} {a : Answer}
    (hdo : ∀ b, deviceRequest kind rq b false (markTaken .device s) = some (clockChanged ws u, a))
    (hwork : DeviceWork [] (markTaken .device s) (clockChanged ws u)) :
    ∃ t, exec c s = .next t ∧ ClockServed kind rq a s u t := by
  obtain ⟨hd, b, hb⟩ := hr
  obtain ⟨t, ht, h⟩ := serveDevice hc hd hb (hdo b) hwork
  have heq := Host.Outcome.next.inj (ht.symm.trans (exec_device hc hd hb (hdo b)))
  obtain ⟨⟨rs, hrs⟩, hin⟩ := clockChanged_records ws u
  refine ⟨t, ht, ⟨rs, h.licences.trans hrs⟩, h.inputs.trans hin, ?_, fun hun => ?_, h.served⟩
  · refine (clockChanged_rises ws u).trans ⟨attentionBit (slotIndex .device), ?_⟩
    rw [heq, writeAnswer_device_attention]
  · obtain ⟨hlanes, hrec⟩ := clockChanged_unarmed ws hun
    exact ⟨h.lanes.trans hlanes, by rw [h.licences, hrec]⟩

/-! ## Set Clock (R89) -/

theorem wideWords_of_clock {v : Nat} (h : v ≤ 2 ^ 40 - 1) : wideWords v = [v % 2 ^ 32, v / 2 ^ 32] := by
  unfold wideWords
  rw [Nat.mod_eq_of_lt (show v / 2 ^ 32 < 2 ^ 32 by omega)]

theorem doSetClock_sets {rq : Req} {s : State} (hv : wide rq.w0 rq.w1 ≤ 2 ^ 40 - 1)
    (hm : s.licences.clockValid = false ∨ s.maintenance = true) :
    doSetClock rq s =
      (clockChanged
          ([ClockEntry.set.ctorIdx] ++ wideWords s.licences.clock ++ [flag s.licences.clockValid] ++
            wideWords (wide rq.w0 rq.w1))
          (clearLost (modLicences (fun t => { t with clock := wide rq.w0 rq.w1, clockValid := true }) s)),
        okWords [wide rq.w0 rq.w1 % 2 ^ 32, wide rq.w0 rq.w1 / 2 ^ 32]) := by
  have hmay : ¬ (s.licences.clockValid && !s.maintenance) = true := by
    rcases hm with h | h
    · rw [h, Bool.false_and]
      exact Bool.false_ne_true
    · rw [h, Bool.not_true, Bool.and_false]
      exact Bool.false_ne_true
  unfold doSetClock
  dsimp only
  rw [if_neg (show ¬ Config.clockMax < wide rq.w0 rq.w1 from not_lt.2 hv), if_neg hmay,
    ← wideWords_of_clock hv]

theorem doSetClock_refused {rq : Req} {s : State} (hv : wide rq.w0 rq.w1 ≤ 2 ^ 40 - 1)
    (hc : s.licences.clockValid = true) (hm : s.maintenance = false) :
    doSetClock rq s = (s, codeAnswer .notPermitted) := by
  unfold doSetClock
  dsimp only
  rw [if_neg (show ¬ Config.clockMax < wide rq.w0 rq.w1 from not_lt.2 hv), hc, hm, if_pos (by decide)]

theorem doSetClock_range {rq : Req} {s : State} (hv : 2 ^ 40 - 1 < wide rq.w0 rq.w1) :
    doSetClock rq s = (s, paramAnswer .none) := if_pos hv

/-! ## Adjust Clock (R90) -/

theorem findAllowance_available (t : LicenceTable) (d : Nat) :
    (t.adjustDay = none → (findAllowance t d).available = 600) ∧
      ∀ e, t.adjustDay = some e →
        (e < d → (findAllowance t d).available = 600) ∧
          (e = d → (findAllowance t d).available = t.adjustLeft) ∧
          (d < e → (findAllowance t d).available = 0) := by
  unfold findAllowance
  refine ⟨fun h => by rw [h]; rfl, fun e h => ?_⟩
  rw [h]
  dsimp only
  refine ⟨fun hlt => by rw [if_pos hlt]; rfl, fun heq => ?_, fun hgt => ?_⟩
  · rw [if_neg (by omega), if_pos heq]
  · rw [if_neg (by omega), if_neg (by omega)]

/-- The allowance counts for the clock's day where the last adjustment was not on a later one (R90). -/
theorem findAllowance_day {t : LicenceTable} {d : Nat} (h : ∀ e, t.adjustDay = some e → e ≤ d) :
    (findAllowance t d).day = some d ∧ (findAllowance t d).recorded = (findAllowance t d).available := by
  unfold findAllowance
  split
  · exact ⟨rfl, rfl⟩
  · next e he =>
    have := h e he
    split
    · exact ⟨rfl, rfl⟩
    · rw [if_pos (by omega)]
      exact ⟨congrArg some (by omega), rfl⟩

theorem appliedDelta_clock (clock available : Nat) (delta : Int) :
    ((((clock : Int) + appliedDelta clock available delta).toNat : Nat) : Int) =
      clock + appliedDelta clock available delta := by
  refine Int.toNat_of_nonneg ?_
  unfold appliedDelta clampInt
  dsimp only
  omega

theorem signedWord_eq (v : Int) : signedWord v = (BitVec.ofInt 32 v).toNat := (BitVec.toNat_ofInt v).symm

theorem doAdjustClock_moves {rq : Req} {s : State} (hlo : -3600 ≤ rq.w0.toInt) (hhi : rq.w0.toInt ≤ 3600)
    (hv : s.licences.clockValid = true) :
    let a := findAllowance s.licences (s.licences.clock / 86400)
    let applied := appliedDelta s.licences.clock a.available rq.w0.toInt
    let s1 := modLicences (adjustTable rq.w0.toInt) s
    doAdjustClock rq s =
      (clockChanged
          ([ClockEntry.adjusted.ctorIdx, signedWord rq.w0.toInt, signedWord applied] ++
            wideWords s1.licences.clock) s1,
        okWords [(BitVec.ofInt 32 applied).toNat, a.available - applied.natAbs]) := by
  dsimp only
  unfold doAdjustClock
  dsimp only
  rw [if_neg (by omega), hv, if_neg (by decide), ← signedWord_eq]
  rfl

theorem doAdjustClock_noClock {rq : Req} {s : State} (hlo : -3600 ≤ rq.w0.toInt) (hhi : rq.w0.toInt ≤ 3600)
    (hv : s.licences.clockValid = false) : doAdjustClock rq s = (s, codeAnswer .clock) := by
  unfold doAdjustClock
  dsimp only
  rw [if_neg (by omega), hv, if_pos (by decide)]

theorem doAdjustClock_range {rq : Req} {s : State} (h : rq.w0.toInt < -3600 ∨ 3600 < rq.w0.toInt) :
    doAdjustClock rq s = (s, paramAnswer .none) := if_pos h

theorem deviceRequest_setClock (rq : Req) (b : List Byte) (s : State) :
    deviceRequest 22 rq b false s = some (doSetClock rq s) := rfl

theorem deviceRequest_adjustClock (rq : Req) (b : List Byte) (s : State) :
    deviceRequest 23 rq b false s = some (doAdjustClock rq s) := rfl

/-- Settles O42. -/
theorem boothClockIsSetAndAdjusted : Obligations.BoothClockIsSetAndAdjusted := by
  unfold Obligations.BoothClockIsSetAndAdjusted
  refine ⟨fun rq s hr => ?_, fun rq s hr => ?_⟩
  · have hc : (22, Instr.setClock rq) ∈ deviceRequests rq false := by simp [deviceRequests]
    refine ⟨fun hv hm => ?_, fun hv hvalid hm => ?_, fun hv => ?_⟩
    · have hdo := doSetClock_sets (s := markTaken .device s) hv hm
      have hwork := doSetClock_device [] rq (markTaken .device s)
      have hdev (b : List Byte) := (deviceRequest_setClock rq b (markTaken .device s)).trans (congrArg some hdo)
      rw [hdo] at hwork
      dsimp only at hwork
      obtain ⟨t, ht, h⟩ := serveClock hc hr hdev hwork
      obtain ⟨rs, hrs⟩ := h.records
      rw [clearLost_licences] at hrs
      refine ⟨t, ht, ?_⟩
      have hlanes := (clearLost_besides (modLicences
        (fun t => { t with clock := wide rq.w0 rq.w1, clockValid := true }) (markTaken .device s))).1
      refine ⟨congrArg LicenceTable.clock hrs, congrArg LicenceTable.clockValid hrs,
        (congrArg LicenceTable.retainedLost hrs :), (congrArg LicenceTable.adjustDay hrs :),
        (congrArg LicenceTable.adjustLeft hrs :), (congrArg LicenceTable.keys hrs :),
        fun hlost => and_bit_of_rises h.rises (clearLost_attention hlost), fun hun => ?_,
        h.inputs.trans (clearLost_besides _).2, h.served⟩
      obtain ⟨hl, hrec⟩ := h.unarmed fun l => by
        rw [State.lane, hlanes]
        exact hun l
      rw [clearLost_licences] at hrec
      exact ⟨hl.trans hlanes, hrec⟩
    · obtain ⟨t, ht, ⟨hlic, hlanes, _, _, hserved⟩, _⟩ := serveDevice_refused hc hr
        (a := codeAnswer .notPermitted) fun _ _ => congrArg some
          (doSetClock_refused (s := markTaken .device s) hv hvalid hm)
      exact ⟨t, ht, hlic, hlanes, hserved⟩
    · obtain ⟨t, ht, ⟨hlic, hlanes, _, _, hserved⟩, _⟩ := serveDevice_refused hc hr
        (a := paramAnswer .none) fun _ _ => congrArg some (doSetClock_range (s := markTaken .device s) hv)
      exact ⟨t, ht, hlic, hlanes, hserved⟩
  · have hc : (23, Instr.adjustClock rq) ∈ deviceRequests rq false := by simp [deviceRequests]
    refine ⟨fun hlo hhi hvalid => ?_, fun hlo hhi hvalid => ?_, fun hout => ?_⟩
    · have hdo := doAdjustClock_moves (s := markTaken .device s) hlo hhi hvalid
      have hwork := doAdjustClock_device [] rq (markTaken .device s)
      have hdev (b : List Byte) := (deviceRequest_adjustClock rq b (markTaken .device s)).trans (congrArg some hdo)
      rw [hdo] at hwork
      dsimp only at hwork
      obtain ⟨t, ht, h⟩ := serveClock hc hr hdev hwork
      obtain ⟨rs, hrs⟩ := h.records
      have hclock : t.licences.clock = ((s.licences.clock : Int) + appliedDelta s.licences.clock
          (findAllowance s.licences (s.licences.clock / 86400)).available rq.w0.toInt).toNat :=
        congrArg LicenceTable.clock hrs
      obtain ⟨hnone, hsome⟩ := findAllowance_available s.licences (s.licences.clock / 86400)
      refine ⟨t, _, _, ht, hnone, hsome, rfl, ?_, ?_, fun hday => ?_, fun hun => ?_,
        (congrArg LicenceTable.keys hrs :), h.inputs, h.served⟩
      · rw [hclock]
        exact appliedDelta_clock _ _ _
      · exact (congrArg LicenceTable.clockValid hrs).trans hvalid
      · obtain ⟨hd, hrecd⟩ := findAllowance_day hday
        refine ⟨(congrArg LicenceTable.adjustDay hrs).trans hd, (congrArg LicenceTable.adjustLeft hrs).trans ?_⟩
        exact congrArg (· - _) hrecd
      · obtain ⟨hl, hrec⟩ := h.unarmed hun
        refine ⟨hl, hrec.trans ?_⟩
        rw [hclock]
        exact congrArg (recordsEvaluated · _ _) hvalid
    · obtain ⟨t, ht, ⟨hlic, hlanes, _, _, hserved⟩, _⟩ := serveDevice_refused hc hr
        (a := codeAnswer .clock) fun _ _ => congrArg some
          (doAdjustClock_noClock (s := markTaken .device s) hlo hhi hvalid)
      exact ⟨t, ht, hlic, hlanes, hserved⟩
    · obtain ⟨t, ht, ⟨hlic, hlanes, _, _, hserved⟩, _⟩ := serveDevice_refused hc hr
        (a := paramAnswer .none) fun _ _ => congrArg some (doAdjustClock_range (s := markTaken .device s) hout)
      exact ⟨t, ht, hlic, hlanes, hserved⟩

end Sys2Proof.Machine
end

section
/-! Install Licence (R75, R78 to R80). -/

namespace Sys2Proof.Machine

/-! ## Free places and places of ids -/

theorem freeIndex_eq {α : Type} (n : Nat) (xs : List (Option α)) :
    freeIndex n xs = (xs.findIdx? Option.isNone).map (n + ·) := by
  induction xs generalizing n with
  | nil => rfl
  | cons x xs ih =>
    cases x with
    | none => rfl
    | some v =>
      rw [freeIndex, ih, List.findIdx?_cons, Option.isNone_some, if_neg Bool.false_ne_true, Option.map_map]
      exact congrArg (Option.map · _) (funext fun i => by simp only [Function.comp]; omega)

theorem freeIndex_some {α : Type} {xs : List (Option α)} {i : Nat} (h : freeIndex 0 xs = some i) :
    xs[i]? = some none := by
  rw [freeIndex_eq, Option.map_eq_some_iff] at h
  obtain ⟨j, hj, rfl⟩ := h
  obtain ⟨hlt, hnone, _⟩ := List.findIdx?_eq_some_iff_getElem.1 hj
  rw [Nat.zero_add, List.getElem?_eq_getElem hlt, Option.isNone_iff_eq_none.1 hnone]

theorem freeIndex_isSome {α : Type} {xs : List (Option α)} : (freeIndex 0 xs).isSome = true ↔ none ∈ xs := by
  rw [freeIndex_eq, Option.isSome_map, List.findIdx?_isSome, List.any_eq_true]
  exact ⟨fun ⟨x, hx, hn⟩ => Option.isNone_iff_eq_none.1 hn ▸ hx, fun h => ⟨none, h, rfl⟩⟩

/-- A place of the record list that holds the licence with the id. -/
def holdsId (id : Nat) (r : Option Licence) : Bool := r.any fun x => decide (x.id = id)

theorem holdsId_some {id : Nat} {x : Licence} : holdsId id (some x) = true ↔ x.id = id := decide_eq_true_iff

theorem filter_of_not_holds {id : Nat} {r : Option Licence} (h : holdsId id r = false) :
    (r.filter fun x => decide (x.id = id)) = none := by
  cases r with
  | none => rfl
  | some x =>
    refine if_neg ?_
    rw [show (fun x : Licence => decide (x.id = id)) x = false from h]
    exact Bool.false_ne_true

theorem recordIndex_eq (n : Nat) (rs : List (Option Licence)) (id : Nat) :
    recordIndex n rs id = (rs.findIdx? (holdsId id)).map (n + ·) := by
  induction rs generalizing n with
  | nil => rfl
  | cons r rs ih =>
    have hstep : ((rs.findIdx? (holdsId id)).map (n + 1 + ·)) =
        ((rs.findIdx? (holdsId id)).map (· + 1)).map (n + ·) := by
      rw [Option.map_map]
      exact congrArg (Option.map · _) (funext fun i => by simp only [Function.comp]; omega)
    cases r with
    | none => rw [recordIndex, ih, List.findIdx?_cons, if_neg (by exact Bool.false_ne_true), hstep]
    | some x =>
      rw [recordIndex, List.findIdx?_cons]
      by_cases hx : x.id = id
      · rw [if_pos hx, if_pos (holdsId_some.2 hx)]
        rfl
      · rw [if_neg hx, if_neg (fun h => hx (holdsId_some.1 h)), ih, hstep]

theorem recordIndex_some_iff {rs : List (Option Licence)} {id i : Nat} :
    recordIndex 0 rs id = some i ↔
      ∃ h : i < rs.length, holdsId id rs[i] = true ∧ ∀ j (hj : j < i), holdsId id rs[j] = false := by
  have hzero : (rs.findIdx? (holdsId id)).map (0 + ·) = rs.findIdx? (holdsId id) := by
    rw [show (fun i : Nat => 0 + i) = (fun i => i) from funext Nat.zero_add, Option.map_id']
  rw [recordIndex_eq, hzero, List.findIdx?_eq_some_iff_getElem]
  simp only [Bool.not_eq_true]

theorem recordIndex_none_iff {rs : List (Option Licence)} {id : Nat} :
    recordIndex 0 rs id = none ↔ findLicence rs id = none := by
  rw [recordIndex_eq, Option.map_eq_none_iff, List.findIdx?_eq_none_iff, findLicence_eq_none_iff]
  refine ⟨fun h x hx hid => ?_, fun h r hr => ?_⟩
  · exact Bool.false_ne_true ((h _ hx).symm.trans (holdsId_some.2 hid))
  · cases r with
    | none => rfl
    | some x => exact decide_eq_false (h x hr)

/-- The licence put in the first place that holds its id. -/
theorem findLicence_set_self {rs : List (Option Licence)} {i : Nat} {x : Licence} (hi : i < rs.length)
    (h : ∀ j (hj : j < i), holdsId x.id rs[j] = false) : findLicence (rs.set i (some x)) x.id = some x := by
  induction rs generalizing i with
  | nil => exact absurd hi (Nat.not_lt_zero i)
  | cons r rs ih =>
    cases i with
    | zero =>
      rw [List.set_cons_zero, findLicence_cons, show (some x).filter (fun y => decide (y.id = x.id)) = some x from
        if_pos (decide_eq_true rfl), Option.some_or]
    | succ i =>
      rw [List.set_cons_succ, findLicence_cons, filter_of_not_holds (r := r) (h 0 (Nat.succ_pos i)), Option.none_or]
      exact ih (Nat.lt_of_succ_lt_succ hi) fun j hj => h (j + 1) (Nat.succ_lt_succ hj)

/-- A place that held no licence with another id, and holds none after. -/
theorem findLicence_set_other {rs : List (Option Licence)} {i id : Nat} {r : Option Licence}
    (hi : ∀ h : i < rs.length, holdsId id rs[i] = false) (hr : holdsId id r = false) :
    findLicence (rs.set i r) id = findLicence rs id := by
  induction rs generalizing i with
  | nil => rfl
  | cons r' rs ih =>
    cases i with
    | zero =>
      rw [List.set_cons_zero, findLicence_cons, findLicence_cons, filter_of_not_holds hr,
        filter_of_not_holds (r := r') (hi (Nat.succ_pos _))]
    | succ i =>
      rw [List.set_cons_succ, findLicence_cons, findLicence_cons, ih fun h => hi (Nat.succ_lt_succ h)]

/-! ## The keys placed (R80) -/

theorem filter_isNone_set {α : Type} {xs : List (Option α)} {i : Nat} {v : α} (h : xs[i]? = some none) :
    ((xs.set i (some v)).filter Option.isNone).length + 1 = (xs.filter Option.isNone).length := by
  induction xs generalizing i with
  | nil => cases h
  | cons x xs ih =>
    cases i with
    | zero =>
      obtain rfl : x = none := Option.some.inj h
      rfl
    | succ i =>
      rw [List.set_cons_succ, List.filter_cons, List.filter_cons]
      split
      · rw [List.length_cons, List.length_cons, ih h]
      · exact ih h

theorem exists_free {α : Type} {xs : List (Option α)} (h : 0 < (xs.filter Option.isNone).length) :
    ∃ i, freeIndex 0 xs = some i := by
  obtain ⟨x, hx⟩ := List.exists_mem_of_length_pos h
  obtain ⟨hmem, hnone⟩ := List.mem_filter.1 hx
  exact Option.isSome_iff_exists.1 (freeIndex_isSome.2 (Option.isNone_iff_eq_none.1 hnone ▸ hmem))

/-- Keys placed one after the other leave the slots in use alone. -/
theorem placeKeys_keeps {id i : Nat} {device : BitVec 128} {v : KeySlot} (ks : List (Nat × BitVec 128))
    {keys : List (Option KeySlot)} (h : keys[i]? = some (some v)) :
    (placeKeys id device ks keys).1[i]? = some (some v) := by
  induction ks generalizing keys with
  | nil => exact h
  | cons k ks ih =>
    unfold placeKeys
    split
    · exact h
    · next j hj =>
      refine ih ?_
      have hne : j ≠ i := fun he => by
        rw [← he, freeIndex_some hj] at h
        cases h
      rw [List.getElem?_set_ne hne, h]

theorem placeKeys_slots {id : Nat} {device : BitVec 128} (ks : List (Nat × BitVec 128))
    (keys : List (Option KeySlot)) : ∀ p ∈ (placeKeys id device ks keys).2,
      ∃ slot, (placeKeys id device ks keys).1[p.2]? = some (some slot) ∧ slot.keyId = p.1 ∧ slot.licence = id := by
  induction ks generalizing keys with
  | nil => exact fun p hp => absurd hp List.not_mem_nil
  | cons k ks ih =>
    unfold placeKeys
    split
    · exact fun p hp => absurd hp List.not_mem_nil
    · next j hj =>
      intro p hp
      rcases List.mem_cons.1 hp with rfl | hp
      · have hlt : j < keys.length := (List.getElem?_eq_some_iff.1 (freeIndex_some hj)).1
        exact ⟨_, placeKeys_keeps ks (List.getElem?_set_self hlt), rfl, rfl⟩
      · exact ih _ p hp

theorem placeKeys_ids {id : Nat} {device : BitVec 128} (ks : List (Nat × BitVec 128)) {keys : List (Option KeySlot)}
    (h : ks.length ≤ (keys.filter Option.isNone).length) :
    (placeKeys id device ks keys).2.map Prod.fst = ks.map Prod.fst := by
  induction ks generalizing keys with
  | nil => rfl
  | cons k ks ih =>
    obtain ⟨i, hi⟩ := exists_free (Nat.lt_of_lt_of_le (Nat.succ_pos ks.length) h)
    unfold placeKeys
    rw [hi]
    refine congrArg (k.1 :: ·) (ih ?_)
    have := filter_isNone_set (v := ⟨k.1, id, Config.unwrapKey device k.2⟩) (freeIndex_some hi)
    rw [List.length_cons] at h
    omega

/-! ## The checks of a package (R78) -/

theorem noRepeats_iff (xs : List Nat) : noRepeats xs = true ↔ xs.Nodup := by
  induction xs with
  | nil => exact ⟨fun _ => List.nodup_nil, fun _ => rfl⟩
  | cons x xs ih => simp [noRepeats, ih]

theorem termsOk_iff (k : Package) : termsOk k = true ↔ termsHold k := by
  simp only [termsOk, termsHold, Bool.and_eq_true, decide_eq_true_iff, List.all_eq_true, noRepeats_iff, and_assoc]

theorem findKey_isSome (n : Nat) (keys : List (Option KeySlot)) (i : Nat) :
    (findKey n keys i).isSome = keys.any fun k => k.any fun v => decide (v.keyId = i) := by
  induction keys generalizing n with
  | nil => rfl
  | cons k keys ih =>
    cases k with
    | none => exact ih (n + 1)
    | some v =>
      rw [findKey, List.any_cons]
      split
      · next h => rw [show (some v).any (fun v => decide (v.keyId = i)) = true from decide_eq_true h]; rfl
      · next h => rw [show (some v).any (fun v => decide (v.keyId = i)) = false from decide_eq_false h, ih]; rfl

theorem findKey_keysFor (t : LicenceTable) (k : Package) (i : Nat) :
    (findKey 0 (keysFor t k) i).isSome = heldElsewhere t.keys k.id i := by
  rw [findKey_isSome, keysFor, freeSlots, heldElsewhere, List.any_map]
  refine congrArg (t.keys.any ·) (funext fun r => ?_)
  cases r with
  | none => rfl
  | some v =>
    by_cases h : v.licence = k.id
    · simp [Option.filter, h]
    · simp [Option.filter, h]

theorem duplicateKey_none_iff {t : LicenceTable} {k : Package} :
    duplicateKey t k = none ↔ ∀ e ∈ k.keys, heldElsewhere t.keys k.id e.1 = false := by
  rw [duplicateKey, List.find?_eq_none]
  simp only [findKey_keysFor, List.mem_map, forall_exists_index, and_imp, forall_apply_eq_imp_iff₂, Bool.not_eq_true]

theorem duplicateKey_some {t : LicenceTable} {k : Package} {before after : List (Nat × BitVec 128)}
    {e : Nat × BitVec 128} (hk : k.keys = before ++ e :: after) (he : heldElsewhere t.keys k.id e.1 = true)
    (hb : ∀ f ∈ before, heldElsewhere t.keys k.id f.1 = false) : duplicateKey t k = some e.1 := by
  rw [duplicateKey, List.find?_eq_some_iff_append]
  refine ⟨by rw [findKey_keysFor]; exact he, before.map Prod.fst, after.map Prod.fst, ?_, fun i hi => ?_⟩
  · rw [hk, List.map_append, List.map_cons]
  · obtain ⟨f, hf, rfl⟩ := List.mem_map.1 hi
    rw [findKey_keysFor, hb f hf]
    rfl

theorem keysFor_free (t : LicenceTable) (k : Package) :
    ((keysFor t k).filter Option.isNone).length =
      (t.keys.filter fun y => (y.map fun v => decide (v.licence = k.id)).getD true).length := by
  rw [keysFor, freeSlots, List.filter_map, List.length_map]
  refine congrArg List.length (congrArg (t.keys.filter ·) (funext fun r => ?_))
  cases r with
  | none => rfl
  | some v =>
    by_cases h : v.licence = k.id
    · simp [Option.filter, h]
    · simp [Option.filter, h]

theorem roomFor_iff (t : LicenceTable) (k : Package) : roomFor t k = true ↔ hasRoom t k := by
  have hfree := keysFor_free t k
  rw [roomFor, Bool.and_eq_true, Bool.or_eq_true, freeIndex_isSome, decide_eq_true_iff]
  rw [show (fun x : Option KeySlot => x.isNone) = Option.isNone from rfl, hfree]

theorem replaceRefusal_issue {s : State} {k : Package} {x : Licence} (hx : findLicence s.licences.records k.id = some x)
    (h : k.issue ≤ x.issue) : replaceRefusal s k = some (paramAnswer .issue) := by
  unfold replaceRefusal
  rw [hx]
  exact if_pos h

theorem replaceRefusal_inUse {s : State} {k : Package} {x : Licence} (hx : findLicence s.licences.records k.id = some x)
    (h : x.issue < k.issue) (hr : referencedBy s k.id ≠ none) : replaceRefusal s k = some (codeAnswer .inUse) := by
  unfold replaceRefusal
  rw [hx]
  dsimp only
  rw [if_neg (not_le.2 h), if_pos (Option.isSome_iff_ne_none.2 hr)]

theorem replaceRefusal_count {s : State} {k : Package} {x : Licence} (hx : findLicence s.licences.records k.id = some x)
    (h : x.issue < k.issue) (hr : referencedBy s k.id = none) (ha : k.allowance ≠ 0) (hc : k.allowance < x.counted) :
    replaceRefusal s k = some (paramAnswer .allowanceBelowCount) := by
  unfold replaceRefusal
  rw [hx]
  dsimp only
  rw [if_neg (not_le.2 h), hr, if_neg (by exact Bool.false_ne_true), if_pos ⟨ha, hc⟩]

theorem replaceRefusal_none {s : State} {k : Package}
    (h : ∀ x, findLicence s.licences.records k.id = some x →
      x.issue < k.issue ∧ referencedBy s k.id = none ∧ (k.allowance = 0 ∨ x.counted ≤ k.allowance)) :
    replaceRefusal s k = none := by
  unfold replaceRefusal
  split
  · rfl
  · next x hx =>
    obtain ⟨hi, hr, hc⟩ := h x hx
    rw [if_neg (not_le.2 hi), hr, if_neg (by exact Bool.false_ne_true), if_neg]
    rintro ⟨ha, hlt⟩
    rcases hc with hc | hc
    · exact ha hc
    · omega

/-- The package is whole, for this part, and its integrity check agrees (R78, test 1). -/
def packageWhole (s : State) (b : List Byte) (agrees : Bool) : Prop :=
  b.length = 56 + 8 * (packageOf b).headCount + 24 * (packageOf b).keyCount ∧
    (packageOf b).target = s.licences.deviceKeyId.toNat ∧ agrees = true

theorem installRefusal_bad {s : State} {b : List Byte} {agrees : Bool} (h : ¬ packageWhole s b agrees) :
    installRefusal s b agrees = some (codeAnswer .badPackage) := by
  unfold installRefusal packageLength
  dsimp only
  refine if_pos ?_
  unfold packageWhole at h
  cases agrees with
  | false => exact .inr (.inr rfl)
  | true =>
    rw [← or_assoc]
    refine .inl (Classical.byContradiction fun hno => h ?_)
    rw [not_or, not_not, not_not] at hno
    exact ⟨by omega, hno.2, rfl⟩

theorem installRefusal_whole {s : State} {b : List Byte} {agrees : Bool} (h : packageWhole s b agrees) :
    installRefusal s b agrees =
      if !termsOk (packageOf b) then some (paramAnswer .terms)
      else
        match replaceRefusal s (packageOf b) with
        | some a => some a
        | none =>
          match duplicateKey s.licences (packageOf b) with
          | some i => some ⟨.param, .duplicateKey, 0, [i]⟩
          | none => if roomFor s.licences (packageOf b) then none else some (codeAnswer .noRoom) := by
  obtain ⟨hlen, htarget, rfl⟩ := h
  unfold installRefusal packageLength
  dsimp only
  refine if_neg ?_
  rintro (h | h | h)
  · omega
  · exact h htarget
  · cases h

theorem installRefusal_terms {s : State} {b : List Byte} {agrees : Bool} (h : packageWhole s b agrees)
    (ht : ¬ termsHold (packageOf b)) : installRefusal s b agrees = some (paramAnswer .terms) := by
  rw [installRefusal_whole h, if_pos]
  rw [Bool.eq_false_iff.2 fun hok => ht ((termsOk_iff _).1 hok)]
  rfl

theorem installRefusal_replace {s : State} {b : List Byte} {agrees : Bool} {a : Answer} (h : packageWhole s b agrees)
    (ht : termsHold (packageOf b)) (hr : replaceRefusal s (packageOf b) = some a) :
    installRefusal s b agrees = some a := by
  rw [installRefusal_whole h, (termsOk_iff _).2 ht, if_neg (by decide), hr]

theorem installRefusal_duplicate {s : State} {b : List Byte} {agrees : Bool} {i : Nat} (h : packageWhole s b agrees)
    (ht : termsHold (packageOf b)) (hr : replaceRefusal s (packageOf b) = none)
    (hk : duplicateKey s.licences (packageOf b) = some i) :
    installRefusal s b agrees = some ⟨.param, .duplicateKey, 0, [i]⟩ := by
  rw [installRefusal_whole h, (termsOk_iff _).2 ht, if_neg (by decide), hr, hk]

theorem installRefusal_room {s : State} {b : List Byte} {agrees : Bool} (h : packageWhole s b agrees)
    (ht : termsHold (packageOf b)) (hr : replaceRefusal s (packageOf b) = none)
    (hk : duplicateKey s.licences (packageOf b) = none) (hroom : ¬ hasRoom s.licences (packageOf b)) :
    installRefusal s b agrees = some (codeAnswer .noRoom) := by
  rw [installRefusal_whole h, (termsOk_iff _).2 ht, if_neg (by decide), hr, hk]
  exact if_neg fun hok => hroom ((roomFor_iff _ _).1 hok)

theorem installRefusal_none {s : State} {b : List Byte} {agrees : Bool} (h : installRefusal s b agrees = none) :
    packageWhole s b agrees ∧ termsHold (packageOf b) ∧ replaceRefusal s (packageOf b) = none ∧
      duplicateKey s.licences (packageOf b) = none ∧ hasRoom s.licences (packageOf b) := by
  have hw : packageWhole s b agrees := Classical.byContradiction fun hno => by
    rw [installRefusal_bad hno] at h
    cases h
  have ht : termsHold (packageOf b) := Classical.byContradiction fun hno => by
    rw [installRefusal_terms hw hno] at h
    cases h
  have hr : replaceRefusal s (packageOf b) = none := by
    cases hr : replaceRefusal s (packageOf b) with
    | none => rfl
    | some a => rw [installRefusal_replace hw ht hr] at h; cases h
  have hk : duplicateKey s.licences (packageOf b) = none := by
    cases hk : duplicateKey s.licences (packageOf b) with
    | none => rfl
    | some i => rw [installRefusal_duplicate hw ht hr hk] at h; cases h
  have hroom : hasRoom s.licences (packageOf b) := Classical.byContradiction fun hno => by
    rw [installRefusal_room hw ht hr hk hno] at h
    cases h
  exact ⟨hw, ht, hr, hk, hroom⟩

/-! ## The record installed -/

/-- The showings counted so far under the id of a package. -/
def countedBefore (k : Package) (t : LicenceTable) : Nat :=
  ((findLicence t.records k.id).map Licence.counted).getD 0

/-- The state that the clock gives the record of a package. -/
def stateOf (k : Package) (t : LicenceTable) : LicenceState :=
  derivedState t.clockValid t.clock (recordOf k (countedBefore k t) [] .clockUnknown)

/-- The record that a package leaves in the table. -/
def installedRecord (k : Package) (t : LicenceTable) : Licence :=
  recordOf k (countedBefore k t) (placeKeys k.id t.deviceKey k.keys (keysFor t k)).2 (stateOf k t)

theorem installInto_records (k : Package) (t : LicenceTable) :
    (installInto k (stateOf k t) t).records = t.records.set (installIndex t k.id) (some (installedRecord k t)) := rfl

/-- The place of an installation: the first place of the id, or a free one where no place has it. -/
theorem installIndex_place {t : LicenceTable} {k : Package} (h : hasRoom t k) :
    ∃ hi : installIndex t k.id < t.records.length,
      (∀ j (hj : j < installIndex t k.id), holdsId k.id t.records[j] = false) ∧
        ∀ id, id ≠ k.id → holdsId id t.records[installIndex t k.id] = false := by
  cases hrec : recordIndex 0 t.records k.id with
  | some i =>
    obtain rfl : installIndex t k.id = i := by rw [installIndex, hrec]
    obtain ⟨hlt, hid, hb⟩ := recordIndex_some_iff.1 hrec
    refine ⟨hlt, hb, fun id hne => ?_⟩
    cases hr : t.records[installIndex t k.id] with
    | none => rfl
    | some x =>
      rw [hr] at hid
      exact decide_eq_false fun he => hne (he.symm.trans (holdsId_some.1 hid))
  | none =>
    have hno := recordIndex_none_iff.1 hrec
    obtain ⟨i, hi⟩ := Option.isSome_iff_exists.1
      (freeIndex_isSome.2 (h.1.resolve_left (by rw [hno]; exact Bool.false_ne_true)))
    obtain ⟨hlt, hfree⟩ := List.getElem?_eq_some_iff.1 (freeIndex_some hi)
    obtain rfl : installIndex t k.id = i := by rw [installIndex, hrec, hi]; rfl
    refine ⟨hlt, fun j hj => ?_, fun id _ => by rw [hfree]; rfl⟩
    have hall := findLicence_eq_none_iff.1 hno
    cases hr : t.records[j] with
    | none => rfl
    | some x => exact decide_eq_false (hall x (hr ▸ List.getElem_mem _))

theorem installed_found {t : LicenceTable} {k : Package} (h : hasRoom t k) :
    findLicence (installInto k (stateOf k t) t).records k.id = some (installedRecord k t) := by
  obtain ⟨hi, hb, _⟩ := installIndex_place h
  exact findLicence_set_self (x := installedRecord k t) hi hb

theorem installed_others {t : LicenceTable} {k : Package} (h : hasRoom t k) {id : Nat} (hne : id ≠ k.id) :
    findLicence (installInto k (stateOf k t) t).records id = findLicence t.records id := by
  obtain ⟨hi, _, hother⟩ := installIndex_place h
  refine findLicence_set_other (fun _ => hother id hne) (decide_eq_false ?_)
  exact fun he => hne he.symm

/-- The evaluation of the record put in the place of a licence (R80). -/
theorem installOver_reported {s : State} {k : Package} {y : Licence}
    (hy : findLicence s.licences.records k.id = some y) :
    Reported (modLicences (fun t => installInto k (stateOf k t) t) s) (installOver k y s) := by
  obtain ⟨i, hi⟩ : ∃ i, recordIndex 0 s.licences.records k.id = some i := by
    refine Option.ne_none_iff_exists'.1 fun hno => ?_
    rw [recordIndex_none_iff.1 hno] at hy
    cases hy
  obtain ⟨hlt, hid, hb⟩ := recordIndex_some_iff.1 hi
  have hidx : installIndex s.licences k.id = i := by
    unfold installIndex
    rw [hi]
  have hset : recordIndex 0 (installInto k y.state s.licences).records k.id = some i := by
    rw [recordIndex_some_iff]
    unfold installInto
    dsimp only
    rw [hidx]
    refine ⟨by rw [List.length_set]; exact hlt, ?_, fun j hj => ?_⟩
    · rw [List.getElem_set_self]
      exact holdsId_some.2 rfl
    · rw [List.getElem_set_ne (by omega)]
      exact hb j hj
  have hover : installOver k y s = evaluateAt i (modLicences (installInto k y.state) s) := by
    unfold installOver evaluateLicence
    rw [show (modLicences (installInto k y.state) s).licences.records =
      (installInto k y.state s.licences).records from rfl, hset]
  obtain ⟨es, hes⟩ := evaluateAt_eq i (modLicences (installInto k y.state) s)
  rw [hover, hes]
  have hsame : modLicences (evaluateRecord i) (modLicences (installInto k y.state) s) =
      modLicences (fun t => installInto k (stateOf k t) t) s := by
    unfold Machine.modLicences evaluateRecord installInto
    dsimp only
    rw [hidx, List.modify_eq_set_getElem?, List.getElem?_set_self hlt, Option.map_eq_map, Option.map_some,
      Option.getD_some, List.set_set]
    rfl
  rw [hsame]
  exact offers_reported es _

theorem installNew_reported {s : State} {k : Package} (hn : findLicence s.licences.records k.id = none) :
    Reported (modLicences (fun t => installInto k (stateOf k t) t) s) (installNew k s) := by
  have hcount : countedBefore k s.licences = 0 := by rw [countedBefore, hn]; rfl
  have hst : stateOf k s.licences =
      derivedState s.licences.clockValid s.licences.clock (recordOf k 0 [] .clockUnknown) := by
    rw [stateOf, hcount]
  have hsame : modLicences (fun t => installInto k (stateOf k t) t) s =
      modLicences (installInto k (derivedState s.licences.clockValid s.licences.clock
        (recordOf k 0 [] .clockUnknown))) s := by
    unfold Machine.modLicences
    dsimp only
    rw [hst]
  rw [hsame]
  exact offer_reported _ _

theorem doInstall_refused {b : List Byte} {agrees : Bool} {s : State} {a : Answer}
    (h : installRefusal s b agrees = some a) : doInstall b agrees s = (s, a) := by
  unfold doInstall
  rw [h]

/-- A package that passes every check is installed. -/
theorem doInstall_installs {b : List Byte} {agrees : Bool} {s : State} (h : installRefusal s b agrees = none) :
    ∃ t, doInstall b agrees s =
        (t, okWords [(installedRecord (packageOf b) s.licences).id, (installedRecord (packageOf b) s.licences).issue,
          (installedRecord (packageOf b) s.licences).state.ctorIdx,
          (installedRecord (packageOf b) s.licences).keys.length]) ∧
      Reported (modLicences (fun t => installInto (packageOf b) (stateOf (packageOf b) t) t) s) t := by
  obtain ⟨_, _, _, _, hroom⟩ := installRefusal_none h
  have hinto : ∃ s1, doInstall b agrees s = (writeDeviceStatus s1, okWords (installWords s1 (packageOf b).id)) ∧
      Reported (modLicences (fun t => installInto (packageOf b) (stateOf (packageOf b) t) t) s) s1 := by
    unfold doInstall
    rw [h]
    dsimp only
    split
    · next hn => exact ⟨_, rfl, installNew_reported hn⟩
    · next y hy => exact ⟨_, rfl, installOver_reported hy⟩
  obtain ⟨s1, hdo, hrep⟩ := hinto
  refine ⟨_, ?_, hrep.trans (writeDeviceStatus_reported s1)⟩
  have hfound : findLicence s1.licences.records (packageOf b).id = some (installedRecord (packageOf b) s.licences) := by
    rw [hrep.licences]
    exact installed_found hroom
  rw [hdo, installWords, hfound]

/-- Settles O39. -/
theorem installFillsTheRecord : Obligations.InstallFillsTheRecord := by
  unfold Obligations.InstallFillsTheRecord
  refine ⟨fun rq agrees s b hd hb hno => ?_, fun rq agrees s b hd hb => ?_⟩
  · have hc : (18, Instr.installLicence rq agrees) ∈ deviceRequests rq agrees := by simp [deviceRequests]
    obtain ⟨_, hterms, _, _, hroom⟩ := installRefusal_none hno
    obtain ⟨w, hdo, hrep⟩ := doInstall_installs (s := markTaken .device s) hno
    have hdev := doInstall_device [] b agrees (markTaken .device s)
    rw [hdo] at hdev
    dsimp only at hdev
    obtain ⟨t, ht, h⟩ := serveDevice hc hd hb (congrArg some hdo) (more := []) hdev
    have hlic : t.licences = installInto (packageOf b) (stateOf (packageOf b) s.licences) s.licences :=
      h.licences.trans hrep.licences
    refine ⟨t, installedRecord (packageOf b) s.licences, ht, ?_⟩
    rw [hlic]
    refine ⟨installed_found hroom, rfl, rfl, rfl, rfl, rfl, rfl, rfl, rfl, rfl, ?_, rfl, rfl, fun hn => ?_, fun y hy => ?_,
      rfl, ?_, ?_, fun id hne => installed_others hroom hne, rfl, rfl, h.lanes.trans hrep.lanes,
      h.inputs.trans hrep.inputs, h.clockUnit.trans hrep.clockUnit, h.served⟩
    · obtain ⟨_, _, _, _, hmask, _⟩ := hterms
      show (BitVec.ofNat 4 (packageOf b).laneMask).toNat = _
      rw [BitVec.toNat_ofNat, Nat.mod_eq_of_lt (by omega)]
    · show ((findLicence s.licences.records (packageOf b).id).map Licence.counted).getD 0 = 0
      rw [hn]
      rfl
    · show ((findLicence s.licences.records (packageOf b).id).map Licence.counted).getD 0 = y.counted
      rw [hy]
      rfl
    · exact placeKeys_ids _ (by rw [keysFor_free]; exact hroom.2)
    · exact placeKeys_slots _ _
  · have hc : (18, Instr.installLicence rq agrees) ∈ deviceRequests rq agrees := by simp [deviceRequests]
    obtain ⟨t, ht, _⟩ := everyCommandKeepsTheQueue (.installLicence rq agrees) s
    have refused {a : Answer} (ha : installRefusal s b agrees = some a) : deviceRefused 18 rq a s t := by
      obtain ⟨u, hu, href, _⟩ := serveDevice_refused hc ⟨hd, b, hb⟩ (a := a) fun b' hb' => by
        obtain rfl : b = b' := Except.ok.inj (hb.symm.trans hb')
        exact congrArg some (doInstall_refused (s := markTaken .device s) ha)
      rw [Host.Outcome.next.inj (ht.symm.trans hu)]
      exact href
    refine ⟨t, ht, fun hw => refused (installRefusal_bad hw), fun hw hterms => refused (installRefusal_terms hw hterms),
      fun hw hterms => ⟨fun x hx => ⟨fun hi => ?_, fun hi hr => ?_, fun hi hr ha hlt => ?_⟩, fun hrep => ⟨?_, ?_⟩⟩⟩
    · exact refused (installRefusal_replace hw hterms (replaceRefusal_issue hx hi))
    · exact refused (installRefusal_replace hw hterms (replaceRefusal_inUse hx hi hr))
    · exact refused (installRefusal_replace hw hterms (replaceRefusal_count hx hi hr ha hlt))
    · intro before e after hk he hbefore
      exact refused (installRefusal_duplicate hw hterms (replaceRefusal_none hrep) (duplicateKey_some hk he hbefore))
    · intro hfree hroom
      exact refused (installRefusal_room hw hterms (replaceRefusal_none hrep) (duplicateKey_none_iff.2 hfree) hroom)

end Sys2Proof.Machine
end

section
/-! The line and the lock of a lane's link (R108, R109, R114, R124). -/

namespace Sys2Proof.Machine

/-! ## A command of a lane's link -/

/-- What a lane's command leaves, whose own work has left the state `w`. -/
structure Ran (l : LaneId) (s w t : State) : Prop where
  lane : ∀ m, t.lane m = w.lane m
  licences : t.licences = w.licences
  host : t.host = w.host
  untold : unreported w t
  rest : restKept l s t
  ring : RingWork 0 w t

theorem ranCommand {l : LaneId} {c : Instr} {s w : State} (hc : exec c s = .next (noteChanges s w))
    (hw : LaneWork l [] s w) : ∃ t, exec c s = .next t ∧ Ran l s w t :=
  ⟨_, hc, fun _ => rfl, rfl, rfl, ⟨rfl, rfl⟩, (hw.trans (noteChanges_work l [] s w)).rest, noteChanges_ring s w⟩

theorem Ran.reports {l : LaneId} {s w t : State} (h : Ran l s w t) (hw : ReportsOnly s w) (hs : shapeOk s) :
    memKept (reportAreas s) s t := (hw.mem hs).trans (memKept_of_host h.host)

theorem Ran.events {l : LaneId} {s w t : State} (h : Ran l s w t) (hw : LaneWork l [] s w) (hs : shapeOk s) :
    memKept (eventAreas s l) s t := by
  have := hw.mem hs
  rw [List.append_nil] at this
  exact this.trans (memKept_of_host h.host)

/-- An entry tells no more than its first three words (R179). -/
theorem journaled_words {k : JournalKind} {l : Option LaneId} {p : Nat} {ws ws' : List Nat} {s t : State}
    (h : ws.take 3 = ws'.take 3) (hj : journaled 0 ⟨k, l, p, ws⟩ s t) : journaled 0 ⟨k, l, p, ws'⟩ s t := by
  unfold journaled at hj ⊢
  rw [hj]
  unfold entryBytes
  dsimp only
  rw [h]

/-- A LINK_STATE entry that is offered stands at the command's end. -/
theorem Ran.linkJournaled {l : LaneId} {ws ws' : List Nat} {s v t : State} (h : Ran l s (offerLink l ws v) t)
    (hp : (v.lane l).p = (s.lane l).p) (hv : (s.lane l).tally.phase ≠ .closing → AsOffered s v)
    (hws : ws.take 3 = ws'.take 3) : linkJournaled l ws' s t := by
  intro hs hroom hopen
  have hring := h.ring
  rw [offerLink, hp] at hring
  exact journaled_words hws (journaled_of_offer (hv hopen) hring (by decide) hs hroom)

@[simp] theorem modLink_lane (l : LaneId) (f : Link → Link) (s : State) :
    (modLink l f s).lane l = { s.lane l with link := f (s.lane l).link } := State.lane_modLane_self _ _ _

@[simp] theorem offerLink_lane (l m : LaneId) (ws : List Nat) (s : State) :
    (offerLink l ws s).lane m = s.lane m := offer_lane _ _ _

theorem modLink_asOffered (l : LaneId) (f : Link → Link) (s : State) : AsOffered s (modLink l f s) :=
  modLane_asOffered id

theorem modLink_reports (l : LaneId) (f : Link → Link) (s : State) : ReportsOnly s (modLink l f s) := .modLane id

theorem offerLink_reports (l : LaneId) (ws : List Nat) (s : State) : ReportsOnly s (offerLink l ws s) :=
  .of_told (offer_told _ _)

theorem setIndicator_held (i : Indicator) (x : Lane) : (setIndicator i x).indicators.held &&& indicatorBit i ≠ 0 := by
  show (x.indicators.held ||| indicatorBit i) &&& indicatorBit i ≠ 0
  rw [show (x.indicators.held ||| indicatorBit i) &&& indicatorBit i = indicatorBit i from by ext j; simp; tauto]
  cases i <;> decide

/-! ## Leaving LOCKED (R114, R118) -/

theorem afterMarks_unmarked {xs : List Awaiting} (h : hasMark xs = false) : afterMarks xs = xs := by
  have hall : ∀ e ∈ xs, e.runMark = false := by simpa [hasMark] using h
  unfold afterMarks
  rw [List.takeWhile_eq_self_iff.2 fun e he => by rw [hall e (List.mem_reverse.1 he)]; rfl, List.reverse_reverse]

/-- A drained window closes the tally and leaves the list as it is. -/
theorem drainedLane_settled {x : Lane} (h : x.link.unseen ≤ 65535) :
    drainedLane x = { x with tally := (drainedLane x).tally } := by
  unfold drainedLane
  split
  · next hd =>
    obtain ⟨_, hmark⟩ := hd
    have hsat : saturate16 (x.link.unseen + (x.link.awaiting.length - x.link.awaiting.length)) = x.link.unseen := by
      unfold saturate16
      omega
    unfold closedLane dropMarked
    rw [afterMarks_unmarked hmark, dropUnseen, hsat, decide_eq_false (by omega)]
    rfl
  · rfl

theorem departLane_unseen (x : Lane) :
    (departLane x).link.unseen = min 65535 (x.link.unseen + x.link.awaiting.length) := by
  obtain ⟨i, h⟩ := departLane_eq x
  rw [h]
  rfl

theorem departLane_held {x : Lane} (h : x.link.awaiting ≠ []) :
    (departLane x).indicators.held &&& indicatorBit .unseen ≠ 0 := by
  have hlen : decide (x.link.awaiting.length ≠ 0) = true :=
    decide_eq_true fun h0 => h (List.eq_nil_of_length_eq_zero h0)
  unfold departLane dropAll dropUnseen
  rw [hlen]
  exact setIndicator_held .unseen _

/-- What leaving LOCKED leaves of a lane. -/
theorem departLocked_lane_departed (l : LaneId) (s : State) :
    ∃ ta, (departLocked l s).lane l = { departLane (s.lane l) with tally := ta } :=
  ⟨_, (departLocked_lane_self l s).trans (drainedLane_settled (by rw [departLane_unseen]; omega))⟩

theorem departLocked_asOffered {l : LaneId} {s : State} (h : (s.lane l).tally.phase ≠ .closing) :
    AsOffered s (departLocked l s) := by
  rw [departLocked_open h]
  exact modLane_asOffered (departLane_apart _).shape

theorem departLocked_reports (l : LaneId) (s : State) : ReportsOnly s (departLocked l s) :=
  (ReportsOnly.modLane (departLane_apart _).shape).trans (checkDrained_reports l _)

/-! ## A fault of the line (R108) -/

theorem endTest_fails (k : Link) : (endTest false k).heldTest.result = .fail := by
  unfold endTest finalErrors
  dsimp only
  rw [if_neg Bool.false_ne_true, if_neg (by omega)]

/-- A lane whose link a fault of the line has taken DOWN. -/
structure TakenDown (kind : LineFault) (x y : Lane) : Prop where
  state : y.link.state = .down
  fault : y.link.faultKind = some kind
  lock : y.link.lockFlag = false
  forward : y.link.forward = .nothing
  seq : y.link.seq = x.link.seq
  left : x.link.state = .locked → y.link.awaiting = [] ∧ y.link.headStatus = .unknown ∧ y.overlay.tileMap = []
  failed : x.link.state = .testing → y.link.heldTest.result = .fail
  kept : y.state = x.state ∧ y.p = x.p ∧ y.tracks = x.tracks ∧ y.sound = x.sound

/-- The state in which a fault that moves the link is told. -/
theorem lineFault_moves {l : LaneId} {kind : LineFault} {s : State}
    (h : (s.lane l).link.state ≠ .down ∨ (s.lane l).link.faultKind ≠ some kind) :
    ∃ ws v, lineFault l kind s = offerLink l ws v ∧
      ws.take 3 = [(s.lane l).link.state.ctorIdx, 0, lineFaultCode (some kind)] ∧
      TakenDown kind (s.lane l) (v.lane l) ∧ ReportsOnly s v ∧
      ((s.lane l).tally.phase ≠ .closing → AsOffered s v) := by
  have hline := modLink_reports l (noteLine (some kind)) s
  have hoff := modLink_asOffered l (noteLine (some kind)) s
  have hstate : ((modLink l (noteLine (some kind)) s).lane l).link.state = (s.lane l).link.state := by
    rw [modLink_lane]
    rfl
  have hfault : ((modLink l (noteLine (some kind)) s).lane l).link.faultKind = (s.lane l).link.faultKind := by
    rw [modLink_lane]
    rfl
  unfold lineFault
  dsimp only
  rw [hstate, hfault]
  cases hk : (s.lane l).link.state with
  | down =>
    dsimp only
    rw [if_neg (h.resolve_left (not_not.2 hk))]
    refine ⟨_, _, rfl, rfl, ?_, hline.trans (modLink_reports l _ _), fun _ => hoff.trans (modLink_asOffered l _ _)⟩
    rw [modLink_lane, modLink_lane]
    exact ⟨rfl, rfl, rfl, rfl, rfl, fun hl => (nomatch hk.symm.trans hl), fun ht => (nomatch hk.symm.trans ht), ⟨rfl, rfl, rfl, rfl⟩⟩
  | training =>
    refine ⟨_, _, rfl, rfl, ?_, hline.trans (modLink_reports l _ _), fun _ => hoff.trans (modLink_asOffered l _ _)⟩
    rw [modLink_lane, modLink_lane]
    exact ⟨rfl, rfl, rfl, rfl, rfl, fun hl => (nomatch hk.symm.trans hl), fun ht => (nomatch hk.symm.trans ht), ⟨rfl, rfl, rfl, rfl⟩⟩
  | locked =>
    refine ⟨_, _, rfl, rfl, ?_,
      (hline.trans (departLocked_reports l _)).trans (modLink_reports l _ _), fun hopen =>
        (hoff.trans (departLocked_asOffered ?_)).trans (modLink_asOffered l _ _)⟩
    · obtain ⟨ta, hd⟩ := departLocked_lane_departed l (modLink l (noteLine (some kind)) s)
      obtain ⟨i, hi⟩ := departLane_eq ((modLink l (noteLine (some kind)) s).lane l)
      rw [modLink_lane, hd, hi, modLink_lane]
      exact ⟨rfl, rfl, rfl, rfl, rfl, fun _ => ⟨rfl, rfl, rfl⟩, fun ht => (nomatch hk.symm.trans ht), ⟨rfl, rfl, rfl, rfl⟩⟩
    · rw [modLink_lane]
      exact hopen
  | testing =>
    refine ⟨_, _, rfl, rfl, ?_, hline.trans (modLink_reports l _ _), fun _ => hoff.trans (modLink_asOffered l _ _)⟩
    rw [modLink_lane, modLink_lane]
    exact ⟨rfl, rfl, rfl, rfl, rfl, fun hl => (nomatch hk.symm.trans hl), fun _ => endTest_fails _, ⟨rfl, rfl, rfl, rfl⟩⟩

theorem lineFault_stands {l : LaneId} {kind : LineFault} {s : State} (hd : (s.lane l).link.state = .down)
    (hk : (s.lane l).link.faultKind = some kind) : lineFault l kind s = modLink l (noteLine (some kind)) s := by
  have hstate : ((modLink l (noteLine (some kind)) s).lane l).link.state = .down := by
    rw [modLink_lane]
    exact hd
  have hfault : ((modLink l (noteLine (some kind)) s).lane l).link.faultKind = some kind := by
    rw [modLink_lane]
    exact hk
  unfold lineFault
  dsimp only
  rw [hstate, hfault]
  exact if_pos rfl

/-! ## A good line (R109) -/

theorem lineIsGood_trains {l : LaneId} {s : State} (h : (s.lane l).link.state = .down) :
    lineIsGood l s = offerLink l [0, 1]
      (modLink l (fun k => trainLink false { k with faultKind := none }) (modLink l (noteLine none) s)) :=
  if_pos (by rw [modLink_lane]; exact h)

theorem lineIsGood_stands {l : LaneId} {s : State} (h : (s.lane l).link.state ≠ .down) :
    lineIsGood l s = modLink l (noteLine none) s := if_neg (by rw [modLink_lane]; exact h)

/-! ## The lock (R109, R114, R124) -/

theorem lockGained_reports (l : LaneId) (s : State) :
    (lockGained l s).host = s.host ∧ unreported s (lockGained l s) ∧ (lockGained l s).licences = s.licences := by
  unfold lockGained
  split
  · exact ⟨rfl, ⟨rfl, rfl⟩, rfl⟩
  · exact ⟨rfl, ⟨rfl, rfl⟩, rfl⟩

theorem trainLink_training {k : Link} (h : k.state = .training) :
    trainLink true k = { k with lockFlag := true, forward := .training true } := by
  cases k
  cases h
  rfl

theorem lockGained_lane (l : LaneId) (s : State) :
    (lockGained l s).lane l =
      if (s.lane l).link.state = .training then
        { s.lane l with link := { (s.lane l).link with lockFlag := true, forward := .training true } }
      else s.lane l := by
  unfold lockGained
  split
  · next h =>
    rw [modLink_lane, trainLink_training h]
  · rfl

/-- A lane whose link has gone from another state than DOWN to TRAINING, its lock lost. -/
structure LockLost (x y : Lane) : Prop where
  state : y.link.state = .training
  lock : y.link.lockFlag = false
  forward : y.link.forward = .training false
  left : x.link.state = .locked → y.link.awaiting = [] ∧ y.link.headStatus = .unknown ∧ y.overlay.tileMap = [] ∧
    y.link.unseen = min 65535 (x.link.unseen + x.link.awaiting.length) ∧
    (x.link.awaiting ≠ [] → y.indicators.held &&& indicatorBit .unseen ≠ 0)
  failed : x.link.state = .testing → y.link.heldTest.result = .fail
  kept : y.state = x.state ∧ y.p = x.p ∧ y.tracks = x.tracks ∧ y.sound = x.sound

theorem lockGone_down {l : LaneId} {s : State} (h : (s.lane l).link.state = .down) : lockGone l s = s := by
  unfold lockGone
  rw [h]

theorem lockGone_training {l : LaneId} {s : State} (h : (s.lane l).link.state = .training) :
    lockGone l s = modLink l (trainLink false) s := by
  unfold lockGone
  rw [h]

theorem lockGone_locked {l : LaneId} {s : State} (h : (s.lane l).link.state = .locked) :
    lockGone l s = offerLink l [2, 1] (modLink l (trainLink false) (departLocked l s)) := by
  unfold lockGone
  rw [h]
  rfl

theorem lockGone_testing {l : LaneId} {s : State} (h : (s.lane l).link.state = .testing) :
    lockGone l s =
      offerLink l (resultWords (trainLink false (endTest false (s.lane l).link)))
        (modLink l (fun k => trainLink false (endTest false k)) s) := by
  unfold lockGone
  rw [h]
  dsimp only
  rw [modLink_lane]

theorem lockGone_reports (l : LaneId) (s : State) : ReportsOnly s (lockGone l s) := by
  cases h : (s.lane l).link.state with
  | down =>
    rw [lockGone_down h]
    exact .refl s
  | training =>
    rw [lockGone_training h]
    exact modLink_reports l _ s
  | locked =>
    rw [lockGone_locked h]
    exact ((departLocked_reports l s).trans (modLink_reports l _ _)).trans (offerLink_reports l _ _)
  | testing =>
    rw [lockGone_testing h]
    exact (modLink_reports l _ s).trans (offerLink_reports l _ _)

theorem lockGone_lost {l : LaneId} {s : State} (hd : (s.lane l).link.state ≠ .down) :
    LockLost (s.lane l) ((lockGone l s).lane l) := by
  cases h : (s.lane l).link.state with
  | down => exact absurd h hd
  | training =>
    rw [lockGone_training h, modLink_lane]
    exact ⟨rfl, rfl, rfl, fun hl => (nomatch h.symm.trans hl), fun ht => (nomatch h.symm.trans ht), ⟨rfl, rfl, rfl, rfl⟩⟩
  | locked =>
    obtain ⟨ta, hdep⟩ := departLocked_lane_departed l s
    have hseen := departLane_unseen (s.lane l)
    have hheld := fun hne => departLane_held (x := s.lane l) hne
    obtain ⟨i, hi⟩ := departLane_eq (s.lane l)
    rw [lockGone_locked h, offerLink_lane, modLink_lane, hdep]
    refine ⟨rfl, rfl, rfl, fun _ => ⟨?_, ?_, ?_, hseen, hheld⟩, fun ht => (nomatch h.symm.trans ht), ⟨?_, ?_, ?_, ?_⟩⟩
    · exact (congrArg (fun y : Lane => y.link.awaiting) hi :)
    · exact (congrArg (fun y : Lane => y.link.headStatus) hi :)
    · exact (congrArg (fun y : Lane => y.overlay.tileMap) hi :)
    · exact (congrArg Lane.state hi :)
    · exact (congrArg Lane.p hi :)
    · exact (congrArg Lane.tracks hi :)
    · exact (congrArg Lane.sound hi :)
  | testing =>
    rw [lockGone_testing h, offerLink_lane, modLink_lane]
    exact ⟨rfl, rfl, rfl, fun hl => (nomatch h.symm.trans hl), fun _ => endTest_fails _, ⟨rfl, rfl, rfl, rfl⟩⟩

/-- Settles O57. -/
theorem lineAndLockMoveTheLink : Obligations.LineAndLockMoveTheLink := by
  unfold Obligations.LineAndLockMoveTheLink
  refine fun l kind s => ⟨?_, ?_, ?_, ?_⟩
  · obtain ⟨t, ht, h⟩ := ranCommand (c := .lineFaultDetected l kind) rfl (lineFault_work l [] kind s)
    refine ⟨t, ht, ?_⟩
    rw [h.lane l]
    by_cases hm : (s.lane l).link.state ≠ .down ∨ (s.lane l).link.faultKind ≠ some kind
    · obtain ⟨ws, v, hv, hws, hy, hrep, hoff⟩ := lineFault_moves hm
      rw [hv] at h ⊢
      rw [offerLink_lane]
      obtain ⟨hst, hp, htr, hso⟩ := hy.kept
      exact ⟨hy.state, hy.fault, fun _ => ⟨hy.lock, hy.forward⟩, hy.seq, hy.left, hy.failed, hst, hp, htr, hso,
        fun _ => h.linkJournaled hp hoff hws, h.rest, h.reports (hrep.trans (offerLink_reports l ws v))⟩
    · rw [not_or, not_not, not_not] at hm
      obtain ⟨hd, hk⟩ := hm
      rw [lineFault_stands hd hk] at h ⊢
      rw [modLink_lane]
      exact ⟨hd, hk, fun hn => absurd hd hn, rfl, fun hl => (nomatch hd.symm.trans hl), fun ht => (nomatch hd.symm.trans ht),
        rfl, rfl, rfl, rfl, fun hm => (hm.elim (absurd hd) (absurd hk)), h.rest, h.reports (modLink_reports l _ s)⟩
  · obtain ⟨t, ht, h⟩ := ranCommand (c := .lineGood l) rfl (lineIsGood_work l [] s)
    refine ⟨t, ht, ?_⟩
    have hlic := h.licences
    rw [h.lane l]
    by_cases hd : (s.lane l).link.state = .down
    · rw [lineIsGood_trains hd] at h hlic ⊢
      rw [offerLink_lane, modLink_lane, modLink_lane]
      refine ⟨fun _ => ⟨rfl, rfl, rfl, rfl, ?_⟩, fun hn => absurd hd hn, hlic.trans (offer_licences _ _), rfl, h.rest,
        h.reports (((modLink_reports l _ s).trans (modLink_reports l _ _)).trans (offerLink_reports l _ _))⟩
      exact h.linkJournaled (by rw [modLink_lane, modLink_lane])
        (fun _ => (modLink_asOffered l _ s).trans (modLink_asOffered l _ _)) rfl
    · rw [lineIsGood_stands hd] at h hlic ⊢
      rw [modLink_lane]
      exact ⟨fun hy => absurd hy hd, fun _ => rfl, hlic, rfl, h.rest, h.reports (modLink_reports l _ s)⟩
  · obtain ⟨t, ht, h⟩ := ranCommand (c := .lockAchieved l) rfl (lockGained_work l [] s)
    obtain ⟨hhost, hun, hlic⟩ := lockGained_reports l s
    exact ⟨t, ht, (h.lane l).trans (lockGained_lane l s), h.licences.trans hlic, h.host.trans hhost, h.rest,
      h.untold.1.trans hun.1, h.untold.2.trans hun.2⟩
  · obtain ⟨t, ht, h⟩ := ranCommand (c := .lockLost l) rfl (lockGone_work l [] s)
    refine ⟨t, ht, fun hd => ?_, ?_⟩
    · have hexec : exec (.lockLost l) s = .next (noteChanges s (lockGone l s)) := rfl
      rw [lockGone_down hd, noteChanges_self] at hexec
      exact Host.Outcome.next.inj (ht.symm.trans hexec)
    · rw [h.lane l]
      by_cases hd : (s.lane l).link.state = .down
      · have hstays : (lockGone l s).lane l = s.lane l := by rw [lockGone_down hd]
        rw [hstays]
        exact ⟨fun hn => absurd hd hn, fun hl => (nomatch hd.symm.trans hl), fun ht => (nomatch hd.symm.trans ht), rfl, rfl, rfl,
          rfl, h.rest, h.reports (lockGone_reports l s)⟩
      · have hy := lockGone_lost hd
        obtain ⟨hst, hp, htr, hso⟩ := hy.kept
        refine ⟨fun _ => ⟨hy.state, hy.lock, hy.forward⟩, fun hl => ?_, fun htest => ⟨hy.failed htest, ?_⟩, hst, hp, htr, hso,
          h.rest, h.reports (lockGone_reports l s)⟩
        · obtain ⟨ha, hh, hm, hu, hi⟩ := hy.left hl
          refine ⟨ha, hh, hm, hu, hi, ?_⟩
          rw [lockGone_locked hl] at h
          refine h.linkJournaled ?_ (fun hopen => (departLocked_asOffered hopen).trans (modLink_asOffered l _ _)) rfl
          obtain ⟨ta, k, i, hdep⟩ := departLocked_lane_eq l s
          rw [modLink_lane, hdep]
        · rw [lockGone_testing htest] at h ⊢
          rw [offerLink_lane, modLink_lane]
          refine h.linkJournaled (by rw [modLink_lane]) (fun _ => modLink_asOffered l _ s) ?_
          rw [resultWords, show (trainLink false (endTest false (s.lane l).link)).heldTest.result = .fail from
            endTest_fails _]
          rfl

end Sys2Proof.Machine
end

section
/-! The reports of a lane's projector head: its identity, its status, damaged reports and test tallies
(R110 to R114, R121, R123). -/

namespace Sys2Proof.Machine

/-! ## A change of the lane that writes nothing -/

/-- A command that changes its lane and writes nothing. -/
theorem Ran.quiet {l : LaneId} {s t : State} {f : Lane → Lane} (h : Ran l s (s.modLane l f) t) :
    t.lane l = f (s.lane l) ∧ t.licences = s.licences ∧ t.host = s.host ∧ unreported s t :=
  ⟨(h.lane l).trans (State.lane_modLane_self _ _ _), h.licences, h.host, h.untold⟩

/-! ## Damaged reports and test tallies (R110, R123) -/

theorem badReportLane_link (x : Lane) :
    (badReportLane x).link =
      { x.link with
        errorCount := min 255 (x.link.errorCount + 1)
        test := (badReportLane x).link.test } ∧
      (badReportLane x).link.test =
        { x.link.test with
          errors := if x.link.state = .testing then min 65535 (x.link.test.errors + 1) else x.link.test.errors } := by
  unfold badReportLane setIndicator
  by_cases h : x.link.state = .testing
  · rw [if_pos h, if_pos h]
    exact ⟨rfl, rfl⟩
  · rw [if_neg h, if_neg h]
    exact ⟨rfl, rfl⟩

theorem badReportLane_besides (x : Lane) :
    (badReportLane x).indicators.held &&& indicatorBit .linkError ≠ 0 ∧ (badReportLane x).state = x.state ∧
      (badReportLane x).tally = x.tally := ⟨setIndicator_held .linkError _, rfl, rfl⟩

theorem takeTestTally_test (seq : Nat) (intact : Bool) (k : Link) :
    takeTestTally seq intact k = { k with test := (takeTestTally seq intact k).test } ∧
      (takeTestTally seq intact k).test.left = k.test.left ∧
      (takeTestTally seq intact k).test.settle = k.test.settle := by
  unfold takeTestTally
  split
  · split
    · exact ⟨rfl, rfl, rfl⟩
    · exact ⟨rfl, rfl, rfl⟩
  · exact ⟨rfl, rfl, rfl⟩

theorem takeTestTally_marks {seq : Nat} {k : Link} (h : (seq, false) ∈ k.test.sent) (intact : Bool) :
    (takeTestTally seq intact k).test.sent = k.test.sent.map (fun r => if r.1 = seq then (r.1, true) else r) ∧
      (takeTestTally seq intact k).test.errors =
        if intact then k.test.errors else min 65535 (k.test.errors + 1) := by
  unfold takeTestTally
  rw [if_pos (List.contains_iff_mem.2 h)]
  cases intact with
  | true => exact ⟨rfl, rfl⟩
  | false => exact ⟨rfl, rfl⟩

theorem takeTestTally_unknown {seq : Nat} {k : Link} (h : (seq, false) ∉ k.test.sent) (intact : Bool) :
    (takeTestTally seq intact k).test.sent = k.test.sent ∧
      (takeTestTally seq intact k).test.errors = min 65535 (k.test.errors + 1) := by
  unfold takeTestTally
  rw [if_neg (fun hc => h (List.contains_iff_mem.1 hc))]
  exact ⟨rfl, rfl⟩

/-- Settles O60. -/
theorem badAndTestReportsCount : Obligations.BadAndTestReportsCount := by
  unfold Obligations.BadAndTestReportsCount
  refine fun l seq intact s => ⟨fun hd => ?_, fun hd => ?_, fun ht => ?_, fun ht => ?_⟩
  · have hexec : exec (.badReport l) s = .next (noteChanges s (s.modLane l badReportLane)) :=
      congrArg (Host.Outcome.next ∘ noteChanges s) (if_pos hd)
    obtain ⟨t, ht, h⟩ := ranCommand hexec (.modLane [] (badReportLane_keeps _) rfl)
    obtain ⟨hlane, hlic, hhost, hun⟩ := h.quiet
    obtain ⟨hlink, htest⟩ := badReportLane_link (s.lane l)
    obtain ⟨hheld, hst, hta⟩ := badReportLane_besides (s.lane l)
    refine ⟨t, ht, ?_⟩
    rw [hlane]
    exact ⟨hlink, htest, hheld, hst, hta, hlic, hhost, h.rest, hun⟩
  · have hexec : exec (.badReport l) s = .next (noteChanges s s) :=
      congrArg (Host.Outcome.next ∘ noteChanges s) (if_neg (by rw [hd]; exact Bool.false_ne_true))
    rwa [noteChanges_self] at hexec
  · have hexec : exec (.testTallyReport l seq intact) s =
        .next (noteChanges s (modLink l (takeTestTally seq.toNat intact) s)) :=
      congrArg (Host.Outcome.next ∘ noteChanges s) (if_pos ht)
    obtain ⟨t, ht, h⟩ := ranCommand hexec (takeTestTally_work l [] seq.toNat intact s)
    obtain ⟨hlane, hlic, hhost, hun⟩ := h.quiet
    obtain ⟨hk, hleft, hsettle⟩ := takeTestTally_test seq.toNat intact (s.lane l).link
    refine ⟨t, ht, ?_⟩
    rw [hlane]
    refine ⟨?_, hleft, hsettle, fun hm => takeTestTally_marks hm intact, fun hm => takeTestTally_unknown hm intact, hlic, hhost,
      h.rest, hun⟩
    exact congrArg (fun k => { s.lane l with link := k }) hk
  · have hexec : exec (.testTallyReport l seq intact) s = .next (noteChanges s s) :=
      congrArg (Host.Outcome.next ∘ noteChanges s) (if_neg ht)
    rwa [noteChanges_self] at hexec

/-! ## The judgement of a head (R121) -/

theorem headRefusal_none {records : List (Option Licence)} {t : Tally} {h : Option Word64}
    (hp : ∀ e ∈ t.entries, entryHeld e = true → ∀ x, findLicence records e.licence = some x → permitsHead x h = true) :
    headRefusal records t h = none := by
  unfold headRefusal
  rw [Option.map_eq_none_iff, List.find?_eq_none]
  intro e he
  rw [Bool.and_eq_true, not_and]
  intro hheld
  cases hx : findLicence records e.licence with
  | none => exact Bool.false_ne_true
  | some x =>
    rw [Option.map_some, Option.getD_some, hp e he hheld x hx]
    exact Bool.false_ne_true

theorem headRefusal_some {records : List (Option Licence)} {t : Tally} {h : Option Word64} {e : TallyEntry} {x : Licence}
    (he : e ∈ t.entries) (hheld : entryHeld e = true) (hx : findLicence records e.licence = some x)
    (hp : permitsHead x h = false) : ∃ id, headRefusal records t h = some id := by
  unfold headRefusal
  refine Option.isSome_iff_exists.1 ?_
  rw [Option.isSome_map, List.find?_isSome]
  refine ⟨e, he, ?_⟩
  rw [hheld, hx, Option.map_some, Option.getD_some, hp]
  rfl

theorem judgeHead_permits {l : LaneId} {prev : Option Word64} {s : State}
    (h : inRunStates (s.lane l).state = false ∨
      headRefusal s.licences.records (s.lane l).tally (s.lane l).link.headId = none) : judgeHead l prev s = s := by
  unfold judgeHead
  dsimp only
  split
  · next hrun => rw [h.resolve_left (by rw [hrun]; exact fun h => nomatch h)]
  · rfl

theorem judgeHead_ends {l : LaneId} {prev : Option Word64} {s : State} {id : Nat}
    (hrun : inRunStates (s.lane l).state = true)
    (h : headRefusal s.licences.records (s.lane l).tally (s.lane l).link.headId = some id) :
    bare ((judgeHead l prev s).lane l) = bare (endedLane .headChanged (s.lane l)) := by
  unfold judgeHead
  dsimp only
  rw [if_pos hrun, h]
  dsimp only
  rw [endNow_bare, offer_lane]

theorem judgeHead_bare (l : LaneId) (prev : Option Word64) (s : State) :
    bare ((judgeHead l prev s).lane l) = bare (s.lane l) ∨
      bare ((judgeHead l prev s).lane l) = bare (endedLane .headChanged (s.lane l)) := by
  by_cases hrun : inRunStates (s.lane l).state = true
  · cases h : headRefusal s.licences.records (s.lane l).tally (s.lane l).link.headId with
    | none => exact .inl (by rw [judgeHead_permits (.inr h)])
    | some id => exact .inr (judgeHead_ends hrun h)
  · exact .inl (by rw [judgeHead_permits (.inl (Bool.eq_false_iff.2 hrun))])

/-- What ending a run keeps of the link, the overlay, P and the queues. -/
theorem endedLane_keptLink (c : Cause) (x : Lane) :
    (endedLane c x).link =
        { x.link with awaiting := (endedLane c x).link.awaiting, unseen := (endedLane c x).link.unseen } ∧
      (endedLane c x).overlay = x.overlay ∧ (endedLane c x).p = x.p ∧ (endedLane c x).tracks = x.tracks := by
  have hlink := runEndLane_link c (muteAtOnce x)
  obtain ⟨t, k, i, h⟩ := runEndLane_eq c (muteAtOnce x)
  refine ⟨hlink, ?_⟩
  unfold endedLane
  rw [h]
  exact ⟨rfl, rfl, rfl⟩

/-- A run that ends with its list's count in range leaves the link as it was. -/
theorem endedLane_settledLink {x : Lane} (c : Cause) (h : x.link.unseen ≤ 65535) :
    (endedLane c x).link = x.link ∧ (endedLane c x).indicators = x.indicators := by
  have hrun : ∃ t, runEndLane c (muteAtOnce x) = { muteAtOnce x with tally := t } := by
    unfold runEndLane
    split
    · exact ⟨_, drainedLane_settled (x := { muteAtOnce x with tally := endedTally c (muteAtOnce x).tally }) h⟩
    · exact ⟨_, rfl⟩
  obtain ⟨t, ht⟩ := hrun
  unfold endedLane
  rw [ht]
  exact ⟨rfl, rfl⟩

theorem endedLane_ended (c : Cause) (x : Lane) :
    (endedLane c x).state = .ended ∧ (endedLane c x).lastCause = c ∧ timersClear (endedLane c x) ∧
      (endedLane c x).sound.applied = List.replicate 24 .mute :=
  ⟨rfl, rfl, ⟨rfl, rfl, rfl, rfl⟩, (endedLane_fields c x).2.2.2.2.2.1⟩

/-! ## Entering LOCKED (R111, R113) -/

theorem lockLane_eq (identity : Word64) (x : Lane) :
    lockLane identity x =
      { x with
        link := { x.link with state := .locked, headId := some identity, frameHeld := false, forward := .nothing }
        overlay := { x.overlay with tileMap := [], palettePending := ⟨true, true⟩ } } := rfl

/-- The lane once LOCKED is entered: as the lock leaves it, or its run ended. -/
theorem enterLocked_bare (l : LaneId) (ws : List Nat) (identity : Word64) (s : State) :
    bare ((enterLocked l ws identity s).lane l) = bare (lockLane identity (s.lane l)) ∨
      bare ((enterLocked l ws identity s).lane l) = bare (endedLane .headChanged (lockLane identity (s.lane l))) := by
  have h := judgeHead_bare l (s.lane l).link.headId (s.modLane l (lockLane identity))
  rwa [State.lane_modLane_self, ← offerLink_lane l l ws] at h

/-- A head that every licence of a running lane permits (R121). -/
theorem enterLocked_permits {l : LaneId} {ws : List Nat} {identity : Word64} {s : State}
    (h : inRunStates (s.lane l).state = false ∨
      (∀ e ∈ (s.lane l).tally.entries, entryHeld e = true → ∀ x,
        findLicence s.licences.records e.licence = some x → permitsHead x (some identity) = true)) :
    enterLocked l ws identity s = offerLink l ws (s.modLane l (lockLane identity)) := by
  unfold enterLocked
  rw [judgeHead_permits]
  rw [State.lane_modLane_self]
  exact h.imp id fun hp => headRefusal_none hp

theorem enterLocked_ends {l : LaneId} {ws : List Nat} {identity : Word64} {s : State}
    (hrun : inRunStates (s.lane l).state = true)
    (h : ∃ e ∈ (s.lane l).tally.entries, entryHeld e = true ∧ ∃ x,
      findLicence s.licences.records e.licence = some x ∧ permitsHead x (some identity) = false) :
    bare ((enterLocked l ws identity s).lane l) = bare (endedLane .headChanged (lockLane identity (s.lane l))) := by
  obtain ⟨e, he, hheld, x, hx, hp⟩ := h
  obtain ⟨id, hid⟩ := headRefusal_some he hheld hx hp
  have hlane : (s.modLane l (lockLane identity)).lane l = lockLane identity (s.lane l) := State.lane_modLane_self _ _ _
  have := judgeHead_ends (l := l) (prev := (s.lane l).link.headId) (s := s.modLane l (lockLane identity)) (id := id)
    (by rw [hlane]; exact hrun) (by rw [hlane]; exact hid)
  rwa [hlane, ← offerLink_lane l l ws] at this

theorem takeIdentity_training {l : LaneId} {identity : Word64} {s : State} (h : (s.lane l).link.state = .training)
    (hf : (s.lane l).link.lockFlag = true) :
    takeIdentity l identity s = enterLocked l (lockedWords identity) identity s := by
  unfold takeIdentity
  dsimp only
  rw [h]
  exact if_pos hf

theorem takeIdentity_same {l : LaneId} {identity : Word64} {s : State} (h : (s.lane l).link.state = .locked)
    (hk : (s.lane l).link.headId = some identity) : takeIdentity l identity s = s := by
  unfold takeIdentity
  dsimp only
  rw [h]
  exact if_pos hk

theorem takeIdentity_other {l : LaneId} {identity : Word64} {s : State} (h : (s.lane l).link.state = .locked)
    (hk : (s.lane l).link.headId ≠ some identity) :
    takeIdentity l identity s = enterLocked l (relockedWords identity) identity (departLocked l s) := by
  unfold takeIdentity
  dsimp only
  rw [h]
  exact if_neg hk

theorem takeIdentity_ignored {l : LaneId} {identity : Word64} {s : State}
    (h : (s.lane l).link.state = .down ∨ (s.lane l).link.state = .testing ∨
      ((s.lane l).link.state = .training ∧ (s.lane l).link.lockFlag = false)) : takeIdentity l identity s = s := by
  unfold takeIdentity
  dsimp only
  rcases h with h | h | ⟨h, hf⟩
  · rw [h]
  · rw [h]
  · rw [h]
    exact if_neg (by rw [hf]; exact Bool.false_ne_true)

theorem takesStatus_iff (k : Link) :
    (decodesReports k && !decide (k.state = .testing)) = true ↔
      k.state = .locked ∨ (k.state = .training ∧ k.lockFlag = true) := by
  unfold decodesReports
  cases hk : k.state <;> simp

/-- Settles O58. -/
theorem headReportsLockAndJudge : Obligations.HeadReportsLockAndJudge := by
  unfold Obligations.HeadReportsLockAndJudge
  refine fun l identity ready s => ⟨fun htr hf => ?_, fun hl => ⟨fun hk => ?_, fun hk => ?_⟩, fun hno => ?_, fun hyes => ?_,
    fun hno => ?_⟩
  · obtain ⟨t, ht, h⟩ := ranCommand (c := .headIdentityReport l identity) rfl (takeIdentity_work l [] identity s)
    have hmem := h.events (takeIdentity_work l [] identity s)
    rw [takeIdentity_training htr hf] at h
    refine ⟨t, ht, ?_⟩
    have hcommon : ∃ x, t.lane l = x ∧ x.link.state = .locked ∧ x.link.headId = some identity ∧
        x.link.frameHeld = false ∧ x.link.seq = (s.lane l).link.seq ∧ x.link.headStatus = (s.lane l).link.headStatus ∧
        x.overlay.palettePending = ⟨true, true⟩ ∧ x.overlay.tileMap = [] ∧ x.p = (s.lane l).p ∧
        x.tracks = (s.lane l).tracks := by
      refine ⟨_, rfl, ?_⟩
      rw [h.lane l]
      rcases enterLocked_bare l (lockedWords identity) identity s with hb | hb
      · obtain ⟨n, hn⟩ := eq_of_bare hb
        rw [hn]
        exact ⟨rfl, rfl, rfl, rfl, rfl, rfl, rfl, rfl, rfl⟩
      · obtain ⟨n, hn⟩ := eq_of_bare hb
        obtain ⟨hlink, hover, hp, htra⟩ := endedLane_keptLink .headChanged (lockLane identity (s.lane l))
        rw [hn]
        dsimp only
        rw [hlink, hover, hp, htra]
        exact ⟨rfl, rfl, rfl, rfl, rfl, rfl, rfl, rfl, rfl⟩
    obtain ⟨x, hx, h1, h2, h3, h4, h5, h6, h7, h8, h9⟩ := hcommon
    subst hx
    refine ⟨h1, h2, h3, h4, h5, h6, h7, h8, h9, fun hperm => ?_, fun hrun href => ?_, h.rest, hmem⟩
    · have heq := enterLocked_permits (ws := lockedWords identity) hperm
      rw [heq] at h
      have hlane : t.lane l = lockLane identity (s.lane l) :=
        (h.lane l).trans ((offerLink_lane _ _ _ _).trans (State.lane_modLane_self _ _ _))
      rw [hlane]
      refine ⟨rfl, rfl, rfl, h.licences.trans (offer_licences _ _), ?_⟩
      exact h.linkJournaled (by rw [State.lane_modLane_self]; rfl) (fun _ => modLane_asOffered id) rfl
    · obtain ⟨n, hn⟩ := eq_of_bare (enterLocked_ends (ws := lockedWords identity) hrun href)
      rw [h.lane l, hn]
      exact endedLane_ended .headChanged _
  · have hexec : exec (.headIdentityReport l identity) s = .next (noteChanges s (takeIdentity l identity s)) := rfl
    rwa [takeIdentity_same hl hk, noteChanges_self] at hexec
  · obtain ⟨t, ht, h⟩ := ranCommand (c := .headIdentityReport l identity) rfl (takeIdentity_work l [] identity s)
    have hmem := h.events (takeIdentity_work l [] identity s)
    rw [takeIdentity_other hl hk] at h
    refine ⟨t, ht, ?_⟩
    obtain ⟨ta, hdep⟩ := departLocked_lane_departed l s
    have hheld := fun hne => departLane_held (x := s.lane l) hne
    obtain ⟨i, hi⟩ := departLane_eq (s.lane l)
    rw [hi] at hheld
    have hlock : lockLane identity ((departLocked l s).lane l) =
        { s.lane l with
          link :=
            { (s.lane l).link with
              headId := some identity
              headStatus := .unknown
              frameHeld := false
              awaiting := []
              unseen := min 65535 ((s.lane l).link.unseen + (s.lane l).link.awaiting.length)
              forward := .nothing }
          overlay := { (s.lane l).overlay with tileMap := [], palettePending := ⟨true, true⟩ }
          tally := ta
          indicators := i } := by
      rw [hdep, hi, lockLane_eq]
      dsimp only
      rw [hl]
      rfl
    have hcommon : ∃ x, t.lane l = x ∧
        x.link =
          { (s.lane l).link with
            headId := some identity
            headStatus := .unknown
            frameHeld := false
            awaiting := []
            unseen := min 65535 ((s.lane l).link.unseen + (s.lane l).link.awaiting.length)
            forward := .nothing } ∧
        x.indicators = i ∧ x.overlay = { (s.lane l).overlay with tileMap := [], palettePending := ⟨true, true⟩ } ∧
        x.p = (s.lane l).p ∧ x.tracks = (s.lane l).tracks := by
      refine ⟨_, rfl, ?_⟩
      rw [h.lane l]
      rcases enterLocked_bare l (relockedWords identity) identity (departLocked l s) with hb | hb
      · obtain ⟨n, hn⟩ := eq_of_bare hb
        rw [hn, hlock]
        exact ⟨rfl, rfl, rfl, rfl, rfl⟩
      · obtain ⟨n, hn⟩ := eq_of_bare hb
        have hfit : (lockLane identity ((departLocked l s).lane l)).link.unseen ≤ 65535 := by
          rw [hlock]
          exact Nat.min_le_left _ _
        obtain ⟨_, hover, hp, htra⟩ := endedLane_keptLink .headChanged (lockLane identity ((departLocked l s).lane l))
        obtain ⟨hlink, hind⟩ := endedLane_settledLink .headChanged hfit
        rw [hn]
        rw [hlock] at hlink hind hover hp htra ⊢
        exact ⟨hlink, hind, hover, hp, htra⟩
    obtain ⟨x, hx, hlink, hind, hover, hp, htra⟩ := hcommon
    subst hx
    refine ⟨hlink, fun hne => by rw [hind]; exact hheld hne, by rw [hover], by rw [hover], hp, htra, fun hopen => ?_, h.rest,
      hmem⟩
    have hdeparted := departLocked_open hopen
    have hlane : (s.modLane l departLane).lane l = departLane (s.lane l) := State.lane_modLane_self _ _ _
    have hstate : (departLane (s.lane l)).state = (s.lane l).state := by rw [hi]
    have htally : (departLane (s.lane l)).tally = (s.lane l).tally := by rw [hi]
    rw [hdeparted] at h
    refine ⟨fun hperm => ?_, fun hrun href => ?_⟩
    · have heq := enterLocked_permits (l := l) (ws := relockedWords identity) (identity := identity)
        (s := s.modLane l departLane) (by rw [hlane, hstate, htally]; exact hperm)
      rw [heq] at h
      have hat : t.lane l = lockLane identity (departLane (s.lane l)) := by
        rw [h.lane l, offerLink_lane, State.lane_modLane_self, hlane]
      refine ⟨by rw [hat]; exact hstate, ?_, by rw [hat]; exact htally, h.licences.trans (offer_licences _ _), ?_⟩
      · rw [hat, hi]
        rfl
      · refine h.linkJournaled ?_ (fun _ => (modLane_asOffered (departLane_apart _).shape).trans (modLane_asOffered id)) rfl
        rw [State.lane_modLane_self, hlane, hi]
        rfl
    · obtain ⟨n, hn⟩ := eq_of_bare (enterLocked_ends (l := l) (ws := relockedWords identity) (identity := identity)
        (s := s.modLane l departLane) (by rw [hlane, hstate]; exact hrun) (by rw [hlane, htally]; exact href))
      rw [h.lane l, hn]
      exact endedLane_ended .headChanged _
  · have hexec : exec (.headIdentityReport l identity) s = .next (noteChanges s (takeIdentity l identity s)) := rfl
    rwa [takeIdentity_ignored hno, noteChanges_self] at hexec
  · have hexec : exec (.headStatusReport l ready) s = .next (noteChanges s (modLink l (takeStatus ready) s)) :=
      congrArg (Host.Outcome.next ∘ noteChanges s) (if_pos ((takesStatus_iff _).2 hyes))
    obtain ⟨t, ht, h⟩ := ranCommand hexec (modLink_work [] (.of_link rfl rfl rfl))
    obtain ⟨hlane, hlic, hhost, hun⟩ := h.quiet
    exact ⟨t, ht, hlane, hlic, hhost, h.rest, hun⟩
  · have hexec : exec (.headStatusReport l ready) s = .next (noteChanges s s) := by
      refine congrArg (Host.Outcome.next ∘ noteChanges s) (if_neg fun hy => ?_)
      rcases (takesStatus_iff _).1 hy with hy | ⟨hy, hyf⟩
      · rcases hno with h | h | ⟨h, _⟩
        · cases h.symm.trans hy
        · cases h.symm.trans hy
        · cases h.symm.trans hy
      · rcases hno with h | h | ⟨_, h⟩
        · cases h.symm.trans hy
        · cases h.symm.trans hy
        · cases h.symm.trans hyf
    rwa [noteChanges_self] at hexec

end Sys2Proof.Machine
end

section
/-! A Shown report: the entry it confirms, the showings it counts and the window it drains (R87, R98, R99, R101,
R118, R119). -/

namespace Sys2Proof.Machine

/-! ## Records changed by their id (R87) -/

theorem findLicence_changeLicence_self {id : Nat} {f : Licence → Licence} (hf : ∀ x, (f x).id = x.id)
    (rs : List (Option Licence)) : findLicence (changeLicence rs id f) id = (findLicence rs id).map f := by
  induction rs with
  | nil => rfl
  | cons r rs ih =>
    rw [changeLicence, List.map_cons, findLicence_cons, findLicence_cons]
    cases r with
    | none => exact ih
    | some x =>
      by_cases hx : x.id = id
      · simp [Option.filter, hx, hf]
      · simp only [Option.map_some, if_neg hx, Option.filter, decide_eq_false hx, Bool.false_eq_true, if_false,
          Option.none_or]
        exact ih

theorem findLicence_changeLicence_ne {id other : Nat} {f : Licence → Licence} (hf : ∀ x, (f x).id = x.id)
    (h : other ≠ id) (rs : List (Option Licence)) :
    findLicence (changeLicence rs id f) other = findLicence rs other := by
  refine findLicence_map (fun r => ?_) rs
  cases r with
  | none => rfl
  | some x =>
    by_cases hx : x.id = id
    · simp [Option.filter, hx, hf, Ne.symm h]
    · rw [Option.map_some, if_neg hx]

/-- The first record with the id, evaluated. -/
def evaluateFirst (id : Nat) (t : LicenceTable) : LicenceTable :=
  match recordIndex 0 t.records id with
  | none => t
  | some i => evaluateRecord i t

theorem findLicence_at {rs : List (Option Licence)} {id i : Nat} (h : recordIndex 0 rs id = some i) :
    ∃ x, findLicence rs id = some x ∧ x.id = id ∧ rs[i]? = some (some x) := by
  obtain ⟨hi, hid, hb⟩ := recordIndex_some_iff.1 h
  cases hr : rs[i] with
  | none => rw [hr] at hid; cases hid
  | some x =>
    rw [hr] at hid
    have hx := holdsId_some.1 hid
    have hfind := findLicence_set_self (x := x) hi (by rw [hx]; exact hb)
    rw [← hr, List.set_getElem_self, hx] at hfind
    exact ⟨x, hfind.trans hr, hx, by rw [List.getElem?_eq_getElem hi, hr]⟩

theorem evaluateRecord_records {t : LicenceTable} {i : Nat} {x : Licence} (h : t.records[i]? = some (some x)) :
    (evaluateRecord i t).records = t.records.set i (some (evaluated t.clockValid t.clock x)) := by
  rw [evaluateRecord, List.modify_eq_set_getElem?, h]
  rfl

theorem findLicence_evaluateFirst_self (id : Nat) (t : LicenceTable) :
    findLicence (evaluateFirst id t).records id =
      (findLicence t.records id).map (evaluated t.clockValid t.clock) := by
  unfold evaluateFirst
  split
  · next h => rw [recordIndex_none_iff.1 h]; rfl
  · next i h =>
    obtain ⟨x, hfind, hx, hget⟩ := findLicence_at h
    obtain ⟨hi, _, hb⟩ := recordIndex_some_iff.1 h
    rw [evaluateRecord_records hget, hfind, ← hx]
    exact findLicence_set_self (x := evaluated t.clockValid t.clock x) hi fun j hj => by
      have := hb j hj
      rw [← hx] at this
      exact this

theorem findLicence_evaluateFirst_ne {id other : Nat} (hne : other ≠ id) (t : LicenceTable) :
    findLicence (evaluateFirst id t).records other = findLicence t.records other := by
  unfold evaluateFirst
  split
  · rfl
  · next i h =>
    obtain ⟨x, _, hx, hget⟩ := findLicence_at h
    rw [evaluateRecord_records hget]
    have hother : holdsId other (some x) = false := decide_eq_false fun he => hne (he.symm.trans hx)
    refine findLicence_set_other (fun hlt => ?_) hother
    rw [List.getElem?_eq_getElem hlt] at hget
    rw [Option.some.inj hget]
    exact hother

theorem evaluateFirst_besides (id : Nat) (t : LicenceTable) : ∃ rs, evaluateFirst id t = { t with records := rs } := by
  unfold evaluateFirst
  split
  · exact ⟨_, rfl⟩
  · exact ⟨_, rfl⟩

theorem evaluateLicence_reported (id : Nat) (s : State) :
    Reported (modLicences (evaluateFirst id) s) (evaluateLicence id s) := by
  cases h : recordIndex 0 s.licences.records id with
  | none =>
    have hid : evaluateLicence id s = s := by rw [evaluateLicence, h]
    rw [modLicences_same (by rw [evaluateFirst, h]), hid]
    exact .refl s
  | some i =>
    obtain ⟨es, hes⟩ := evaluateAt_eq i s
    have hat : evaluateLicence id s = evaluateAt i s := by rw [evaluateLicence, h]
    have hmod : modLicences (evaluateFirst id) s = modLicences (evaluateRecord i) s := by
      unfold Machine.modLicences evaluateFirst
      rw [h]
    rw [hat, hes, hmod]
    exact offers_reported es _

/-- The table once a showing of a licence is counted (R87). -/
def showingCounted (id : Nat) (t : LicenceTable) : LicenceTable :=
  evaluateFirst id { t with records := changeLicence t.records id commitShowing }

theorem commitCount_reported (l : LaneId) (id : Nat) (s : State) :
    Reported (modLicences (showingCounted id) s) (commitCount l id s) :=
  ((offer_reported _ (modLicences (fun t => { t with records := changeLicence t.records id commitShowing }) s)).modLicences
    (evaluateFirst id)).trans (evaluateLicence_reported id _)

theorem showingCounted_besides (id : Nat) (t : LicenceTable) : ∃ rs, showingCounted id t = { t with records := rs } := by
  obtain ⟨rs, h⟩ := evaluateFirst_besides id { t with records := changeLicence t.records id commitShowing }
  exact ⟨rs, h⟩

theorem showingCounted_self {id : Nat} {t : LicenceTable} {x : Licence} (hx : findLicence t.records id = some x) :
    ∃ y, findLicence (showingCounted id t).records id = some y ∧ y.counted = x.counted + 1 ∧
      y.inFlight = x.inFlight - 1 ∧ y.state = derivedState t.clockValid t.clock y := by
  have h := findLicence_evaluateFirst_self id { t with records := changeLicence t.records id commitShowing }
  rw [show findLicence ({ t with records := changeLicence t.records id commitShowing } : LicenceTable).records id =
    some (commitShowing x) from by rw [findLicence_changeLicence_self (f := commitShowing) (fun _ => rfl), hx]; rfl] at h
  exact ⟨_, h, rfl, rfl, rfl⟩

theorem showingCounted_other {id other : Nat} (h : other ≠ id) (t : LicenceTable) :
    findLicence (showingCounted id t).records other = findLicence t.records other :=
  (findLicence_evaluateFirst_ne h _).trans (findLicence_changeLicence_ne (f := commitShowing) (fun _ => rfl) h t.records)

/-! ## One confirmation of a tally entry (R98, R99) -/

/-- A RESERVED entry with one confirmation more. -/
def credited (n : TallyEntry) : TallyEntry := if n.status = .reserved then confirmedEntry n else n

/-- The tally with one confirmation more at entry `i`. -/
def creditedTally (i : Nat) (t : Tally) : Tally := { t with entries := t.entries.modify i credited }

/-- The table after a confirmation of entry `i`: where it reaches its threshold the showing is counted. -/
def creditedTable (es : List TallyEntry) (t : LicenceTable) (i : Nat) : LicenceTable :=
  (es[i]?).elim t fun n =>
    if n.status = .reserved ∧ n.threshold ≤ n.confirmed + 1 then showingCounted n.licence t else t

theorem modify_none {α : Type} {f : α → α} {xs : List α} {i : Nat} (h : xs[i]? = none) : xs.modify i f = xs := by
  rw [List.modify_eq_set_getElem?, h]
  rfl

theorem modify_some {α : Type} {f : α → α} {xs : List α} {i : Nat} {x : α} (h : xs[i]? = some x) :
    xs.modify i f = xs.set i (f x) := by
  rw [List.modify_eq_set_getElem?, h]
  rfl

theorem set_same {α : Type} {xs : List α} {i : Nat} {x : α} (h : xs[i]? = some x) : xs.set i x = xs := by
  obtain ⟨hi, rfl⟩ := List.getElem?_eq_some_iff.1 h
  exact List.set_getElem_self hi

theorem credited_reached {n : TallyEntry} (h : n.status = .reserved) (ht : n.threshold ≤ n.confirmed + 1) :
    credited n = { n with confirmed := n.confirmed + 1, status := .counted } := by
  rw [credited, if_pos h, confirmedEntry, if_pos ht]

theorem credited_short {n : TallyEntry} (h : n.status = .reserved) (ht : n.confirmed + 1 < n.threshold) :
    credited n = { n with confirmed := n.confirmed + 1 } := by
  rw [credited, if_pos h, confirmedEntry, if_neg (by omega), ← h]

theorem creditEntry_to (l : LaneId) (s : State) (i : Nat) :
    (creditEntry l s i).lane l = { s.lane l with tally := creditedTally i (s.lane l).tally } ∧
      (creditEntry l s i).licences = creditedTable (s.lane l).tally.entries s.licences i := by
  unfold creditEntry creditedTally creditedTable
  split
  · next h =>
    rw [modify_none h, h]
    exact ⟨rfl, rfl⟩
  · next n h =>
    rw [modify_some h, h, Option.elim_some]
    split
    · next hr =>
      split
      · next ht =>
        have hrep := commitCount_reported l n.licence (modTally l (fun t =>
          { t with entries := t.entries.set i { n with confirmed := n.confirmed + 1, status := .counted } }) s)
        rw [credited_reached hr ht, if_pos ⟨hr, ht⟩, hrep.licences, hrep.lane l, modLicences_lane, modTally,
          State.lane_modLane_self]
        exact ⟨rfl, rfl⟩
      · next ht =>
        rw [credited_short hr (by omega), if_neg fun hh => ht hh.2]
        exact ⟨State.lane_modLane_self _ _ _, rfl⟩
    · next hr =>
      rw [credited, if_neg hr, set_same h, if_neg fun hh => hr hh.1]
      exact ⟨rfl, rfl⟩

theorem modLicences_reports (l : LaneId) (f : LicenceTable → LicenceTable) (s : State) :
    ReportsOnly s (modLicences f s) := .of_work (modLicences_work _ l [] s) rfl

theorem evaluateLicence_reports (l : LaneId) (id : Nat) (s : State) : ReportsOnly s (evaluateLicence id s) := by
  unfold evaluateLicence
  split
  · exact .refl s
  · unfold evaluateAt
    split
    · exact .refl s
    · dsimp only
      split
      · exact .refl s
      · exact (modLicences_reports l _ s).trans (.of_told (offer_told _ _))

theorem commitCount_reports (l : LaneId) (id : Nat) (s : State) : ReportsOnly s (commitCount l id s) :=
  ((modLicences_reports l _ s).trans (.of_told (offer_told _ _))).trans (evaluateLicence_reports l id _)

theorem creditEntry_reports (l : LaneId) (s : State) (i : Nat) : ReportsOnly s (creditEntry l s i) := by
  have hset (e : TallyEntry) : ReportsOnly s (modTally l (fun t => { t with entries := t.entries.set i e }) s) :=
    .of_work (setEntry_work l [] i e s) rfl
  unfold creditEntry
  split
  · exact .refl s
  · split
    · split
      · exact (hset _).trans (commitCount_reports l _ _)
      · exact hset _
    · exact .refl s

/-! ## The confirmation of a frame -/

/-- The entries of a tally after one confirmation of each place of a credit set. -/
def creditedEntries (is : List Nat) (es : List TallyEntry) : List TallyEntry :=
  is.foldl (fun es i => es.modify i credited) es

theorem getElem?_creditedEntries {is : List Nat} (hn : is.Nodup) (es : List TallyEntry) (j : Nat) :
    (creditedEntries is es)[j]? = if j ∈ is then es[j]?.map credited else es[j]? := by
  induction is generalizing es with
  | nil => rfl
  | cons i is ih =>
    obtain ⟨hi, hrest⟩ := List.nodup_cons.1 hn
    rw [creditedEntries, List.foldl_cons, ← creditedEntries, ih hrest, List.getElem?_modify]
    by_cases hij : i = j
    · subst hij
      simp [hi]
    · have : j ∈ i :: is ↔ j ∈ is := by simp [Ne.symm hij]
      simp [hij, this]

/-- Where a credit set names no place twice, each place is confirmed as the tally stood (R98). -/
theorem creditEntries_to (l : LaneId) {is : List Nat} (hn : is.Nodup) (s : State) :
    (is.foldl (creditEntry l) s).lane l =
        { s.lane l with tally := { (s.lane l).tally with entries := creditedEntries is (s.lane l).tally.entries } } ∧
      (is.foldl (creditEntry l) s).licences =
        is.foldl (creditedTable (s.lane l).tally.entries) s.licences := by
  induction is generalizing s with
  | nil => exact ⟨rfl, rfl⟩
  | cons i is ih =>
    obtain ⟨hi, hrest⟩ := List.nodup_cons.1 hn
    obtain ⟨hlane, hlic⟩ := creditEntry_to l s i
    obtain ⟨hl, ht⟩ := ih hrest (creditEntry l s i)
    rw [hlane] at hl ht
    rw [hlic] at ht
    refine ⟨hl, ht.trans ?_⟩
    have hsame : ∀ j ∈ is, ((s.lane l).tally.entries.modify i credited)[j]? = (s.lane l).tally.entries[j]? :=
      fun j hj => by
        have hne : i ≠ j := fun he => hi (he.symm ▸ hj)
        simp [hne]
    refine List.foldl_ext _ _ _ fun t j hj => ?_
    unfold creditedTable creditedTally
    dsimp only
    rw [hsame j hj]

theorem creditEntries_phase (l : LaneId) (is : List Nat) (s : State) :
    ∃ es, (is.foldl (creditEntry l) s).lane l = { s.lane l with tally := { (s.lane l).tally with entries := es } } := by
  induction is generalizing s with
  | nil => exact ⟨_, rfl⟩
  | cons i is ih =>
    obtain ⟨es, h⟩ := ih (creditEntry l s i)
    rw [(creditEntry_to l s i).1] at h
    exact ⟨es, h⟩

/-- A credit that counts no showing of a licence leaves its record. -/
theorem findLicence_creditedTable {es : List TallyEntry} {t : LicenceTable} {i id : Nat}
    (h : ∀ n, es[i]? = some n → n.licence = id → n.status ≠ .reserved ∨ n.confirmed + 1 < n.threshold) :
    findLicence (creditedTable es t i).records id = findLicence t.records id := by
  unfold creditedTable
  cases he : es[i]? with
  | none => rfl
  | some n =>
    rw [Option.elim_some]
    split
    · next hc =>
      refine showingCounted_other (fun hid => ?_) t
      rcases h n he hid.symm with hr | ht
      · exact hr hc.1
      · omega
    · rfl

theorem creditedTable_besides (es : List TallyEntry) (t : LicenceTable) (i : Nat) :
    ∃ rs, creditedTable es t i = { t with records := rs } := by
  unfold creditedTable
  cases es[i]? with
  | none => exact ⟨_, rfl⟩
  | some n =>
    rw [Option.elim_some]
    split
    · exact showingCounted_besides _ t
    · exact ⟨_, rfl⟩

theorem findLicence_creditedTables {es : List TallyEntry} {is : List Nat} {id : Nat} (t : LicenceTable)
    (h : ∀ i ∈ is, ∀ n, es[i]? = some n → n.licence = id → n.status ≠ .reserved ∨ n.confirmed + 1 < n.threshold) :
    findLicence (is.foldl (creditedTable es) t).records id = findLicence t.records id := by
  induction is generalizing t with
  | nil => rfl
  | cons i is ih =>
    rw [List.foldl_cons, ih _ fun j hj => h j (List.mem_cons_of_mem i hj)]
    exact findLicence_creditedTable (h i List.mem_cons_self)

/-- The one entry of a licence that reaches its threshold counts the licence's showing once (R87). -/
theorem creditedTables_counts {es : List TallyEntry} (hl : (es.map TallyEntry.licence).Nodup) {is : List Nat}
    (hn : is.Nodup) {i : Nat} {n : TallyEntry} {x : Licence} {t : LicenceTable} (hi : i ∈ is) (he : es[i]? = some n)
    (hr : n.status = .reserved) (ht : n.threshold ≤ n.confirmed + 1)
    (hx : findLicence t.records n.licence = some x) :
    ∃ y, findLicence (is.foldl (creditedTable es) t).records n.licence = some y ∧ y.counted = x.counted + 1 ∧
      y.inFlight = x.inFlight - 1 ∧ y.state = derivedState t.clockValid t.clock y := by
  have hother : ∀ j m, es[j]? = some m → m.licence = n.licence → j = i := by
    intro j m hm hlic
    have hj : (es.map TallyEntry.licence)[j]? = some n.licence := by rw [List.getElem?_map, hm, ← hlic]; rfl
    have hi' : (es.map TallyEntry.licence)[i]? = some n.licence := by rw [List.getElem?_map, he]; rfl
    have hlt : j < (es.map TallyEntry.licence).length := (List.getElem?_eq_some_iff.1 hj).1
    exact (List.getElem?_inj hlt hl).1 (hj.trans hi'.symm)
  induction is generalizing t with
  | nil => exact absurd hi List.not_mem_nil
  | cons j is ih =>
    obtain ⟨hj, hrest⟩ := List.nodup_cons.1 hn
    rw [List.foldl_cons]
    rcases List.mem_cons.1 hi with rfl | hin
    · have hstep : creditedTable es t i = showingCounted n.licence t := by
        rw [creditedTable, he, Option.elim_some, if_pos ⟨hr, ht⟩]
      rw [findLicence_creditedTables _ fun k hk m hm hlic => absurd (hother k m hm hlic ▸ hk) hj, hstep]
      exact showingCounted_self hx
    · have hstep : findLicence (creditedTable es t j).records n.licence = some x := by
        rw [findLicence_creditedTable fun m hm hlic => absurd hin (hother j m hm hlic ▸ hj)]
        exact hx
      obtain ⟨rs, hrs⟩ := creditedTable_besides es t j
      obtain ⟨y, hy, hc, hf, hst⟩ := ih hrest hin hstep
      refine ⟨y, hy, hc, hf, ?_⟩
      rw [hrs] at hst
      exact hst

/-! ## The entry that a report names (R118, R119) -/

theorem splitAtSeq_found {seq : Nat} {older newer : List Awaiting} {e : Awaiting} (he : e.seq = seq)
    (ho : ∀ o ∈ older, o.seq ≠ seq) : splitAtSeq seq (older ++ e :: newer) = some (older.length, e, newer) := by
  induction older with
  | nil => exact if_pos he
  | cons o older ih =>
    rw [List.cons_append, splitAtSeq, if_neg (ho o List.mem_cons_self),
      ih fun p hp => ho p (List.mem_cons_of_mem o hp)]
    rfl

theorem splitAtSeq_none {seq : Nat} {es : List Awaiting} (h : ∀ e ∈ es, e.seq ≠ seq) : splitAtSeq seq es = none := by
  induction es with
  | nil => rfl
  | cons e es ih =>
    rw [splitAtSeq, if_neg (h e List.mem_cons_self), ih fun f hf => h f (List.mem_cons_of_mem e hf)]
    rfl

theorem takeShown_late {l : LaneId} {seq : Nat} {s : State}
    (h : (s.lane l).link.state ≠ .locked ∨ (∀ e ∈ (s.lane l).link.awaiting, e.seq ≠ seq)) :
    takeShown l seq s = s.modLane l lateReport := by
  unfold takeShown
  dsimp only
  by_cases hk : (s.lane l).link.state = .locked
  · rw [if_pos hk, splitAtSeq_none (h.resolve_left (not_not.2 hk))]
  · rw [if_neg hk]

/-- The lane once a report has taken its entry, and every older one, from the list. -/
def takenLane (older newer : List Awaiting) (x : Lane) : Lane := dropUnseen newer older.length x

theorem takeShown_found {l : LaneId} {seq : Nat} {s : State} {older newer : List Awaiting} {e : Awaiting}
    (hk : (s.lane l).link.state = .locked) (he : e.seq = seq) (ha : (s.lane l).link.awaiting = older ++ e :: newer)
    (ho : ∀ o ∈ older, o.seq ≠ seq) :
    takeShown l seq s = checkDrained l (confirmFrame l e (s.modLane l (takenLane older newer))) := by
  unfold takeShown
  dsimp only
  rw [if_pos hk, ha, splitAtSeq_found he ho]
  rfl

theorem takenLane_eq (older newer : List Awaiting) (x : Lane) :
    ∃ i, takenLane older newer x =
      { x with
        link := { x.link with awaiting := newer, unseen := min 65535 (x.link.unseen + older.length) }
        indicators := i } ∧ (older ≠ [] → i.held &&& indicatorBit .unseen ≠ 0) := by
  by_cases h : older = []
  · subst h
    exact ⟨x.indicators, rfl, fun hn => absurd rfl hn⟩
  · have hlen : decide (older.length ≠ 0) = true := decide_eq_true fun h0 => h (List.eq_nil_of_length_eq_zero h0)
    refine ⟨(takenLane older newer x).indicators, ?_, fun _ => ?_⟩
    · rw [takenLane, dropUnseen, hlen]
      rfl
    · rw [takenLane, dropUnseen, hlen]
      exact setIndicator_held .unseen _

theorem confirmFrame_reports (l : LaneId) (e : Awaiting) (s : State) : ReportsOnly s (confirmFrame l e s) := by
  unfold confirmFrame
  split
  · exact foldl_induction (R := ReportsOnly) .refl (fun _ _ _ => .trans) (creditEntry_reports l) _ s
  · exact .refl s

theorem takeShown_reports {l : LaneId} {older newer : List Awaiting} {e : Awaiting} {s : State} :
    ReportsOnly s (checkDrained l (confirmFrame l e (s.modLane l (takenLane older newer)))) := by
  refine (ReportsOnly.trans (t := s.modLane l (takenLane older newer)) ?_ (confirmFrame_reports l e _)).trans
    (checkDrained_reports l _)
  refine .modLane fun hx => ?_
  obtain ⟨i, hi, _⟩ := takenLane_eq older newer (s.lane l)
  rw [hi]
  exact hx

/-- The lane after the confirmation: only the entries of its tally have changed. -/
theorem confirmFrame_entries (l : LaneId) (e : Awaiting) (s : State) :
    ∃ es, (confirmFrame l e s).lane l = { s.lane l with tally := { (s.lane l).tally with entries := es } } := by
  unfold confirmFrame
  split
  · exact creditEntries_phase l _ s
  · exact ⟨_, rfl⟩

theorem confirmFrame_ineligible {l : LaneId} {e : Awaiting} {s : State} (h : e.eligible = false) :
    confirmFrame l e s = s := by
  unfold confirmFrame
  rw [h, if_neg Bool.false_ne_true]

theorem confirmFrame_eligible {l : LaneId} {e : Awaiting} {s : State} (h : e.eligible = true) :
    confirmFrame l e s = (creditSet (s.lane l) e.showFrame).foldl (creditEntry l) s := by
  unfold confirmFrame
  rw [h, if_pos rfl]

/-- The state once a report has taken its entry and confirmed its frame. -/
def confirmedState (l : LaneId) (older newer : List Awaiting) (e : Awaiting) (s : State) : State :=
  confirmFrame l e (s.modLane l (takenLane older newer))

/-- The lane then: the list and the entries of the tally have changed. -/
theorem confirmedState_lane (l : LaneId) (older newer : List Awaiting) (e : Awaiting) (s : State) :
    ∃ es i, (confirmedState l older newer e s).lane l =
        { s.lane l with
          link :=
            { (s.lane l).link with
              awaiting := newer
              unseen := min 65535 ((s.lane l).link.unseen + older.length) }
          tally := { (s.lane l).tally with entries := es }
          indicators := i } ∧
      (older ≠ [] → i.held &&& indicatorBit .unseen ≠ 0) ∧
      (e.eligible = false → es = (s.lane l).tally.entries) := by
  obtain ⟨i, hi, hheld⟩ := takenLane_eq older newer (s.lane l)
  obtain ⟨es, hes⟩ := confirmFrame_entries l e (s.modLane l (takenLane older newer))
  refine ⟨es, i, ?_, hheld, fun hel => ?_⟩
  · rw [confirmedState, hes, State.lane_modLane_self, hi]
  · rw [confirmFrame_ineligible hel, State.lane_modLane_self] at hes
    have htally := congrArg (fun x : Lane => x.tally.entries) hes
    rw [hi] at htally
    exact htally.symm

theorem confirmedState_ineligible {l : LaneId} {older newer : List Awaiting} {e : Awaiting} {s : State}
    (h : e.eligible = false) : (confirmedState l older newer e s).licences = s.licences := by
  rw [confirmedState, confirmFrame_ineligible h]
  rfl

/-- An eligible entry confirms each place of its reel's credit set (R98). -/
theorem confirmedState_eligible {l : LaneId} {older newer : List Awaiting} {e : Awaiting} {s : State}
    (h : e.eligible = true) (hn : (creditSet (s.lane l) e.showFrame).Nodup) :
    ((confirmedState l older newer e s).lane l).tally.entries =
        creditedEntries (creditSet (s.lane l) e.showFrame) (s.lane l).tally.entries ∧
      (confirmedState l older newer e s).licences =
        (creditSet (s.lane l) e.showFrame).foldl (creditedTable (s.lane l).tally.entries) s.licences := by
  obtain ⟨i, hi, _⟩ := takenLane_eq older newer (s.lane l)
  have hset : creditSet ((s.modLane l (takenLane older newer)).lane l) e.showFrame =
      creditSet (s.lane l) e.showFrame := by
    rw [State.lane_modLane_self, hi]
    rfl
  obtain ⟨hlane, hlic⟩ := creditEntries_to l hn (s.modLane l (takenLane older newer))
  have htally : ((s.modLane l (takenLane older newer)).lane l).tally = (s.lane l).tally := by
    rw [State.lane_modLane_self, hi]
  rw [htally] at hlane hlic
  rw [confirmedState, confirmFrame_eligible h, hset, hlane, hlic]
  exact ⟨rfl, rfl⟩

theorem closedTally_unreserved {t : Tally} {n : TallyEntry} (h : n ∈ (closedTally t).entries) :
    n.status ≠ .reserved := by
  obtain ⟨m, _, rfl⟩ := List.mem_map.1 h
  unfold releaseEntry
  split
  · exact fun h => nomatch h
  · next h => exact h

theorem credited_at (n : TallyEntry) (b : Prop) [Decidable b] :
    (if b ∧ n.status = .reserved then confirmedEntry n else n) = if b then credited n else n := by
  by_cases hb : b
  · simp [hb, credited]
  · simp [hb]

/-- Settles O59. -/
theorem shownReportsConfirm : Obligations.ShownReportsConfirm := by
  unfold Obligations.ShownReportsConfirm
  refine ⟨fun l seq s => ⟨fun hd => ?_, fun hd hlate => ?_⟩, fun l seq s older newer e hk he ha ho => ?_⟩
  · have hexec : exec (.shownReport l seq) s = .next (noteChanges s s) :=
      congrArg (Host.Outcome.next ∘ noteChanges s) (if_neg (by rw [hd]; exact Bool.false_ne_true))
    rwa [noteChanges_self] at hexec
  · have hexec : exec (.shownReport l seq) s = .next (noteChanges s (s.modLane l lateReport)) :=
      congrArg (Host.Outcome.next ∘ noteChanges s) ((if_pos hd).trans (takeShown_late hlate))
    obtain ⟨t, ht, h⟩ := ranCommand hexec (.modLane [] (lateReport_keeps _) rfl)
    obtain ⟨hlane, hlic, hhost, hun⟩ := h.quiet
    refine ⟨t, ht, ?_⟩
    rw [hlane]
    exact ⟨rfl, setIndicator_held .lateTally _, rfl, rfl, hlic, h.rest, hhost, hun⟩
  · have hdec : decodesReports (s.lane l).link = true := by rw [decodesReports, hk]
    have htake := takeShown_found hk he ha ho
    have hexec : exec (.shownReport l seq) s =
        .next (noteChanges s (checkDrained l (confirmedState l older newer e s))) :=
      congrArg (Host.Outcome.next ∘ noteChanges s) ((if_pos hdec).trans htake)
    have hwork := takeShown_work l [] seq.toNat s
    rw [htake] at hwork
    obtain ⟨t, ht, h⟩ := ranCommand hexec hwork
    obtain ⟨es, i, hlane, hheld, hsame⟩ := confirmedState_lane l older newer e s
    have hat : t.lane l = drainedLane ((confirmedState l older newer e s).lane l) :=
      (h.lane l).trans (checkDrained_lane_self _ _)
    have hdrained := drainedLane_settled (x := (confirmedState l older newer e s).lane l)
      (by rw [hlane]; exact Nat.min_le_left _ _)
    have hlic := h.licences.trans (checkDrained_licences l (confirmedState l older newer e s))
    refine ⟨t, ht, ?_⟩
    have hphase : ((confirmedState l older newer e s).lane l).tally.phase = (s.lane l).tally.phase := by rw [hlane]
    have hlist : ((confirmedState l older newer e s).lane l).link.awaiting = newer := by rw [hlane]
    rw [hphase, hlist] at hlic
    have hbesides : ∃ ta, t.lane l = { (confirmedState l older newer e s).lane l with tally := ta } :=
      ⟨_, hat.trans hdrained⟩
    obtain ⟨ta, hta⟩ := hbesides
    refine ⟨fun hne => ?_, ?_, ?_, fun hc hm => ?_, fun hopen => ?_, h.rest, h.reports takeShown_reports⟩
    · rw [hta, hlane]
      exact hheld hne
    · rw [hta, hlane]
    · rw [hta, hlane]
    · have hclosed : (t.lane l).tally = closedTally ((confirmedState l older newer e s).lane l).tally := by
        rw [hat, drainedLane, if_pos ⟨hphase.trans hc, by rw [hlist]; exact hm⟩]
        rfl
      rw [hclosed]
      refine ⟨rfl, by rw [hta, hlane], fun n hn => closedTally_unreserved hn, fun hel => ⟨?_, ?_⟩⟩
      · rw [hlane, hsame hel]
        rfl
      · rw [if_pos ⟨hc, hm⟩, confirmedState_ineligible hel, hlane, hsame hel] at hlic
        exact hlic
    · have hno : ¬ ((s.lane l).tally.phase = .closing ∧ hasMark newer = false) := fun ⟨hc, hm⟩ =>
        hopen.elim (fun hp => hp hc) fun hm' => Bool.false_ne_true (hm.symm.trans hm')
      rw [if_neg hno] at hlic
      have hstays : t.lane l = (confirmedState l older newer e s).lane l := by
        rw [hat, drainedLane, if_neg (by rw [hphase, hlist]; exact hno)]
      have hentries (hel : e.eligible = true) (hn : (creditSet (s.lane l) e.showFrame).Nodup) :
          (t.lane l).tally.entries =
              creditedEntries (creditSet (s.lane l) e.showFrame) (s.lane l).tally.entries ∧
            t.licences =
              (creditSet (s.lane l) e.showFrame).foldl (creditedTable (s.lane l).tally.entries) s.licences := by
        rw [hstays, hlic]
        exact confirmedState_eligible hel hn
      refine ⟨by rw [hstays, hlane], by rw [hstays, hphase], by rw [hstays, hlane], fun hel => ⟨?_, ?_⟩,
        fun i n hel hset hn hr => ?_, fun hel hnd => ⟨fun i n hn => ?_, fun hids => ⟨?_, ?_⟩⟩⟩
      · rw [hstays, hlane, hsame hel]
      · exact hlic.trans (confirmedState_ineligible hel)
      · obtain ⟨hes, htable⟩ := hentries hel (by rw [hset]; exact List.nodup_singleton i)
        rw [hset] at hes htable
        rw [creditedEntries, List.foldl_cons, List.foldl_nil, modify_some hn] at hes
        rw [List.foldl_cons, List.foldl_nil, creditedTable, hn, Option.elim_some] at htable
        refine ⟨fun hlt => ⟨?_, ?_⟩, fun hge => ⟨?_, fun x hx => ?_⟩⟩
        · rw [hes, credited_short hr hlt]
        · rw [htable, if_neg fun hh => by omega]
        · rw [hes, credited_reached hr hge]
        · rw [htable, if_pos ⟨hr, hge⟩]
          exact showingCounted_self hx
      · rw [(hentries hel hnd).1, getElem?_creditedEntries hnd, hn, credited_at]
        split
        · rfl
        · rfl
      · intro i n x hi hn hr hge hx
        rw [(hentries hel hnd).2]
        exact creditedTables_counts hids hnd hi hn hr hge hx
      · intro id hid
        rw [(hentries hel hnd).2]
        exact findLicence_creditedTables s.licences hid

end Sys2Proof.Machine
end

section
/-! The building inputs: what an input tick samples, debounces and hands on to the lanes (R18, R27, R163 to R167). -/

namespace Sys2Proof.Machine

/-! ## The lanes of an input's mask (R18, R27, R163) -/

/-- A piece of work done for each lane of a list, each touching its own lane alone. -/
theorem foldl_lane_of {f : State → LaneId → State} {I : State → Prop} {R : Lane → Lane → Prop}
    (hI : ∀ s l, I s → I (f s l)) (hself : ∀ s l, I s → R (s.lane l) ((f s l).lane l))
    (hother : ∀ s l m, m ≠ l → (f s l).lane m = s.lane m) {ls : List LaneId} (hn : ls.Nodup) {s : State} (hs : I s)
    (m : LaneId) :
    (m ∈ ls → R (s.lane m) ((ls.foldl f s).lane m)) ∧ (m ∉ ls → (ls.foldl f s).lane m = s.lane m) := by
  induction ls generalizing s with
  | nil => exact ⟨fun h => (nomatch h), fun _ => rfl⟩
  | cons l ls ih =>
    obtain ⟨hl, hls⟩ := List.nodup_cons.1 hn
    obtain ⟨hin, hout⟩ := ih hls (hI s l hs)
    refine ⟨fun h => ?_, fun h => ?_⟩
    · by_cases hm : m = l
      · subst hm
        rw [List.foldl_cons, hout hl]
        exact hself s m hs
      · have := hin ((List.mem_cons.1 h).resolve_left hm)
        rwa [hother s l m hm] at this
    · obtain ⟨hm, hm'⟩ := not_or.1 (fun h' => h (List.mem_cons.2 h'))
      rw [List.foldl_cons, hout hm', hother s l m hm]

theorem maskLanes_nodup (m : BitVec 4) : (maskLanes m).Nodup := allLanes_nodup.filter _

theorem mem_maskLanes {m : BitVec 4} {l : LaneId} : l ∈ maskLanes m ↔ m.getLsbD (laneIndex l) = true := by
  rw [maskLanes, List.mem_filter]
  exact ⟨fun h => h.2, fun h => ⟨mem_allLanes l, h⟩⟩

/-- What an EMERGENCY input makes of a lane (R27, R163). -/
structure EmergencyReached (x y : Lane) : Prop where
  contacts : y.contacts =
    (x.contacts &&& ~~~x.options.emergencyMask) ||| (x.options.emergencyValue &&& x.options.emergencyMask)
  ended : inRunStates x.state = true → y.state = .ended ∧ y.lastCause = .emergency ∧ timersClear y ∧
    everyMute y.sound.applied = true
  disarmed : x.state = .armed → y.state = .ready ∧ y.startSecond = none
  stays : inRunStates x.state = false → x.state ≠ .armed → y.state = x.state

theorem emergencyLane_contacts (x : Lane) : (emergencyLane x).contacts = x.contacts := by
  unfold emergencyLane
  split
  · obtain ⟨t, k, i, h⟩ := runEndLane_eq .emergency (muteAtOnce x)
    rw [endedLane, h]
    rfl
  · split
    · rfl
    · rfl

theorem emergencyReached_of_pattern {x y : Lane} (h : bare y = bare (emergencyLane (applyPattern x))) :
    EmergencyReached x y := by
  obtain ⟨n, hn⟩ := eq_of_bare h
  have hcontacts : y.contacts = (emergencyLane (applyPattern x)).contacts := by rw [hn]
  rw [emergencyLane_contacts] at hcontacts
  refine ⟨hcontacts, fun hrun => ?_, fun harm => ?_, fun hrun harm => ?_⟩
  · obtain ⟨hst, hc, ht, hm⟩ := endedLane_ended .emergency (applyPattern x)
    rw [hn, emergencyLane, if_pos (show inRunStates (applyPattern x).state = true from hrun)]
    refine ⟨hst, hc, ht, ?_⟩
    rw [hm]
    decide
  · have hno : ¬ inRunStates (applyPattern x).state = true := by
      rw [show (applyPattern x).state = .armed from harm]
      decide
    rw [hn, emergencyLane, if_neg hno, if_pos (show (applyPattern x).state = .armed from harm)]
    exact ⟨rfl, rfl⟩
  · have hno : ¬ inRunStates (applyPattern x).state = true := by
      rw [show inRunStates (applyPattern x).state = false from hrun]
      decide
    rw [hn, emergencyLane, if_neg hno, if_neg (show ¬ (applyPattern x).state = .armed from harm)]
    rfl

theorem emergencyReaches_self {l : LaneId} {s : State} (h : s.device ≠ .halted) :
    EmergencyReached (s.lane l) ((emergencyReaches l s).lane l) := by
  refine emergencyReached_of_pattern ?_
  rw [emergencyReaches, if_neg h, emergencyStop_bare, State.lane_modLane_self]

/-- What a HOLD input makes of a lane (R18). -/
def heldByInput (x : Lane) : Lane := if x.state = .playing then mergeHold .inputHold .now x else x

theorem inputHold_self (s : State) (l : LaneId) : (inputHold s l).lane l = heldByInput (s.lane l) := by
  unfold inputHold heldByInput
  split
  · exact State.lane_modLane_self _ _ _
  · rfl

theorem inputHold_other {s : State} {l m : LaneId} (h : m ≠ l) : (inputHold s l).lane m = s.lane m := by
  unfold inputHold
  split
  · exact State.lane_modLane_ne _ _ h
  · rfl

theorem heldByInput_playing {x : Lane} (h : x.state = .playing) :
    ∃ k, heldByInput x = { x with hold := some k } ∧ (x.hold = none → k = ⟨.inputHold, .now, 0⟩) ∧
      ∀ g, x.hold = some g → k = ⟨g.cause, .now, min 255 (g.merged + 1)⟩ := by
  rw [heldByInput, if_pos h, mergeHold_eq]
  refine ⟨_, rfl, fun hn => ?_, fun g hg => ?_⟩
  · rw [hn]
    rfl
  · rw [hg]
    rfl

theorem actOnLanes_emergency {set : InputSettings} (h : set.function = .emergency) (s : State) :
    actOnLanes set s = (maskLanes set.mask).foldl (fun s l => emergencyReaches l s) s := by
  unfold actOnLanes
  rw [h]

theorem actOnLanes_hold {set : InputSettings} (h : set.function = .hold) (s : State) :
    actOnLanes set s = (maskLanes set.mask).foldl inputHold s := by
  unfold actOnLanes
  rw [h]

theorem actOnLanes_none {set : InputSettings} (h : set.function = .none ∨ set.function = .report) (s : State) :
    actOnLanes set s = s := by
  unfold actOnLanes
  rcases h with h | h
  · rw [h]
  · rw [h]

/-- The lanes of the mask, and no other, see an accepted active level. -/
theorem actOnLanes_lanesActed {set : InputSettings} {s : State} (hd : s.device ≠ .halted) :
    lanesActed set s (actOnLanes set s) := by
  refine ⟨fun hf => by rw [actOnLanes_none hf], fun l => ?_⟩
  have hreach := foldl_lane_of (f := fun s l => emergencyReaches l s) (I := fun s => s.device ≠ .halted)
    (R := EmergencyReached)
    (fun s l h => by rw [((emergencyReaches_device l [] s).registers).1]; exact h)
    (fun s l h => emergencyReaches_self h)
    (fun s l m hm => (emergencyReaches_work l [] s).rest.1 m hm) (maskLanes_nodup set.mask) hd l
  have hhold := foldl_lane_of (f := inputHold) (I := fun _ => True) (R := fun x y => y = heldByInput x)
    (fun _ _ h => h) (fun s l _ => inputHold_self s l) (fun s l m hm => inputHold_other hm)
    (maskLanes_nodup set.mask) (s := s) trivial l
  refine ⟨fun hm => ?_, fun hm hf => ?_, fun hm hf => ?_⟩
  · have hnot : l ∉ maskLanes set.mask := fun hin => Bool.false_ne_true (hm.symm.trans (mem_maskLanes.1 hin))
    cases hf : set.function with
    | none => rw [actOnLanes_none (.inl hf)]
    | report => rw [actOnLanes_none (.inr hf)]
    | hold => rw [actOnLanes_hold hf, hhold.2 hnot]
    | emergency => rw [actOnLanes_emergency hf, hreach.2 hnot]
  · rw [actOnLanes_emergency hf]
    obtain ⟨hc, he, ha, hs⟩ := hreach.1 (mem_maskLanes.2 hm)
    exact ⟨hc, he, ha, hs⟩
  · rw [actOnLanes_hold hf, hhold.1 (mem_maskLanes.2 hm)]
    exact ⟨fun hp => if_neg hp, heldByInput_playing⟩

/-- Settles O54. -/
theorem acceptedInputsReachTheirLanes : Obligations.AcceptedInputsReachTheirLanes := by
  unfold Obligations.AcceptedInputsReachTheirLanes
  exact fun set s hd => ⟨actOnLanes_lanesActed hd, fun hf => actOnLanes_none hf s⟩

/-! ## One tick of a filter (R165, R166) -/

theorem sampleFilter_eq (x : Input) (closed : Bool) :
    sampleFilter x.settings closed x.filter = (sampledInput closed x).filter := by
  unfold sampleFilter sampledInput sampledCount
  dsimp only
  cases hf : x.filter.fresh with
  | true => rfl
  | false =>
    rw [if_neg Bool.false_ne_true, if_neg Bool.false_ne_true]
    split
    · next h =>
      rw [h, ← hf]
    · rw [← hf]

/-- The input after a tick (R165, R166). -/
def steppedInput (tick : Nat) (closed : Bool) (x : Input) : Input :=
  { x with filter := (stepFilter x.settings tick closed x.filter).1 }

theorem stepFilter_eq (x : Input) (tick : Nat) (closed : Bool) :
    stepFilter x.settings tick closed x.filter =
      if x.filter.chattering then judgeChattering tick (sampledInput closed x).filter
      else judgeSteady x.settings tick (sampledInput closed x).filter := by
  unfold stepFilter
  dsimp only
  rw [sampleFilter_eq]
  rfl

theorem judgeChattering_kept (tick : Nat) (f : InputFilter) :
    (judgeChattering tick f).1.fresh = f.fresh ∧ (judgeChattering tick f).1.raw = f.raw := by
  unfold judgeChattering
  split
  · exact ⟨rfl, rfl⟩
  · split
    · exact ⟨rfl, rfl⟩
    · exact ⟨rfl, rfl⟩

theorem judgeSteady_kept (set : InputSettings) (tick : Nat) (f : InputFilter) :
    (judgeSteady set tick f).1.fresh = f.fresh ∧ (judgeSteady set tick f).1.raw = f.raw := by
  unfold judgeSteady
  split
  · exact ⟨rfl, rfl⟩
  · split
    · exact ⟨rfl, rfl⟩
    · split
      · exact ⟨rfl, rfl⟩
      · exact ⟨rfl, rfl⟩

theorem steppedInput_sampled (tick : Nat) (closed : Bool) (x : Input) :
    (steppedInput tick closed x).filter.fresh = false ∧
      (steppedInput tick closed x).filter.raw = readContact x.settings.polarity closed := by
  unfold steppedInput
  dsimp only
  rw [stepFilter_eq]
  split
  · exact judgeChattering_kept tick (sampledInput closed x).filter
  · exact judgeSteady_kept x.settings tick (sampledInput closed x).filter

theorem stepFilter_quiet {x : Input} {closed : Bool} (h : onlySampled closed x) (tick : Nat) :
    stepFilter x.settings tick closed x.filter = ((sampledInput closed x).filter, []) := by
  obtain ⟨hc, hs⟩ := h
  rw [stepFilter_eq]
  split
  · next hch => exact if_pos (hc hch)
  · next hch => exact if_pos (hs (Bool.eq_false_iff.2 hch))

/-! ## The inputs after a tick -/

theorem actOnLanes_inputs (set : InputSettings) (s : State) :
    (actOnLanes set s).inputs = s.inputs ∧ (actOnLanes set s).inputTicks = s.inputTicks := by
  have hfold (f : State → LaneId → State)
      (h : ∀ s l, (f s l).inputs = s.inputs ∧ (f s l).inputTicks = s.inputTicks) (ls : List LaneId) :
      (ls.foldl f s).inputs = s.inputs ∧ (ls.foldl f s).inputTicks = s.inputTicks :=
    foldl_induction (R := fun s t : State => t.inputs = s.inputs ∧ t.inputTicks = s.inputTicks)
      (fun _ => ⟨rfl, rfl⟩) (fun _ _ _ h k => ⟨k.1.trans h.1, k.2.trans h.2⟩) h ls s
  cases hf : set.function with
  | none => rw [actOnLanes_none (.inl hf)]; exact ⟨rfl, rfl⟩
  | report => rw [actOnLanes_none (.inr hf)]; exact ⟨rfl, rfl⟩
  | hold =>
    rw [actOnLanes_hold hf]
    refine hfold inputHold (fun s l => ?_) _
    unfold inputHold
    split
    · exact ⟨rfl, rfl⟩
    · exact ⟨rfl, rfl⟩
  | emergency =>
    rw [actOnLanes_emergency hf]
    refine hfold _ (fun s l => ?_) _
    obtain ⟨_, _, ⟨hi, ht, _⟩, _⟩ := (emergencyReaches_work l [] s).rest
    exact ⟨hi, ht⟩

theorem Reported.inputTicks {s t : State} (h : Reported s t) : t.inputTicks = s.inputTicks := by
  obtain ⟨_, _, _, _, rfl⟩ := h
  rfl

theorem handInput_inputs (i : Nat) (set : InputSettings) (s : State) (e : FilterEvent) :
    (handInput i set s e).inputs = s.inputs ∧ (handInput i set s e).inputTicks = s.inputTicks := by
  have hrep := (reportInput_told i set e s).reported
  unfold handInput
  split
  · obtain ⟨hi, ht⟩ := actOnLanes_inputs set (reportInput i set e s)
    exact ⟨hi.trans hrep.inputs, ht.trans hrep.inputTicks⟩
  · exact ⟨hrep.inputs, hrep.inputTicks⟩

theorem handInputs_inputs (i : Nat) (set : InputSettings) (es : List FilterEvent) (s : State) :
    (handInputs i set es s).inputs = s.inputs ∧ (handInputs i set es s).inputTicks = s.inputTicks := by
  unfold handInputs
  split
  · exact ⟨rfl, rfl⟩
  · have hrep := writeDeviceStatus_reported s
    obtain ⟨hi, ht⟩ := foldl_induction (R := fun s t : State => t.inputs = s.inputs ∧ t.inputTicks = s.inputTicks)
      (fun _ => ⟨rfl, rfl⟩) (fun _ _ _ h k => ⟨k.1.trans h.1, k.2.trans h.2⟩) (handInput_inputs i set) es
      (writeDeviceStatus s)
    exact ⟨hi.trans hrep.inputs, ht.trans hrep.inputTicks⟩

/-- The input list with input `i` stepped. -/
def steppedAt (contacts : BitVec 8) (tick : Nat) (xs : List Input) (i : Nat) : List Input :=
  xs.modify i (steppedInput tick (contacts.getLsbD i))

theorem tickInput_inputs (contacts : BitVec 8) (s : State) (i : Nat) :
    (tickInput contacts s i).inputs = steppedAt contacts s.inputTicks s.inputs i ∧
      (tickInput contacts s i).inputTicks = s.inputTicks := by
  unfold tickInput steppedAt
  split
  · next h => rw [modify_none h]; exact ⟨rfl, rfl⟩
  · next x h =>
    rw [modify_some h]
    obtain ⟨hi, ht⟩ := handInputs_inputs i x.settings
      (stepFilter x.settings s.inputTicks (contacts.getLsbD i) x.filter).2
      { s with
        inputs :=
          s.inputs.set i { x with filter := (stepFilter x.settings s.inputTicks (contacts.getLsbD i) x.filter).1 } }
    exact ⟨hi, ht⟩

theorem getElem?_steppedAt (contacts : BitVec 8) (tick : Nat) (is : List Nat) (hn : is.Nodup) (xs : List Input) (j : Nat) :
    (is.foldl (steppedAt contacts tick) xs)[j]? =
      if j ∈ is then xs[j]?.map (steppedInput tick (contacts.getLsbD j)) else xs[j]? := by
  induction is generalizing xs with
  | nil => rfl
  | cons i is ih =>
    obtain ⟨hi, hrest⟩ := List.nodup_cons.1 hn
    rw [List.foldl_cons, ih hrest, steppedAt, List.getElem?_modify]
    by_cases hij : i = j
    · subst hij
      simp [hi]
    · have : j ∈ i :: is ↔ j ∈ is := by simp [Ne.symm hij]
      simp [hij, this]

theorem length_steppedAt (contacts : BitVec 8) (tick : Nat) (is : List Nat) (xs : List Input) :
    (is.foldl (steppedAt contacts tick) xs).length = xs.length := by
  induction is generalizing xs with
  | nil => rfl
  | cons i is ih => rw [List.foldl_cons, ih, steppedAt, List.length_modify]

theorem tickInputs_inputs (contacts : BitVec 8) (is : List Nat) (s : State) :
    (is.foldl (tickInput contacts) s).inputs = is.foldl (steppedAt contacts s.inputTicks) s.inputs ∧
      (is.foldl (tickInput contacts) s).inputTicks = s.inputTicks := by
  induction is generalizing s with
  | nil => exact ⟨rfl, rfl⟩
  | cons i is ih =>
    obtain ⟨hi, ht⟩ := tickInput_inputs contacts s i
    obtain ⟨hi', ht'⟩ := ih (tickInput contacts s i)
    rw [List.foldl_cons, List.foldl_cons, hi', ht', hi, ht]
    exact ⟨rfl, rfl⟩

theorem inputTickAll_eq {contacts : BitVec 8} {s : State} (h : s.clockUnit.source ≠ .acquiring) :
    inputTickAll contacts s =
      (List.range 8).foldl (tickInput contacts) { s with inputTicks := s.inputTicks + 1 } := if_neg h

theorem inputTickAll_at {contacts : BitVec 8} {s : State} (h : s.clockUnit.source ≠ .acquiring)
    (hlen : s.inputs.length = 8) {i : Nat} {x : Input} (hx : s.inputs[i]? = some x) :
    (inputTickAll contacts s).inputs[i]? = some (steppedInput (s.inputTicks + 1) (contacts.getLsbD i) x) := by
  have hi : i ∈ List.range 8 := List.mem_range.2 (hlen ▸ (List.getElem?_eq_some_iff.1 hx).1)
  rw [inputTickAll_eq h, (tickInputs_inputs contacts (List.range 8) _).1,
    getElem?_steppedAt _ _ _ List.nodup_range, if_pos hi]
  dsimp only
  rw [hx]
  rfl

theorem inputTickAll_sampled {contacts : BitVec 8} {s : State} (h : s.clockUnit.source ≠ .acquiring)
    (hlen : s.inputs.length = 8) : inputsSampled contacts s (inputTickAll contacts s) := by
  have heq := inputTickAll_eq (contacts := contacts) h
  obtain ⟨hin, hticks⟩ := tickInputs_inputs contacts (List.range 8) { s with inputTicks := s.inputTicks + 1 }
  refine ⟨by rw [heq, hin, length_steppedAt, hlen], by rw [heq, hticks], fun i x hx => ?_⟩
  have hat := inputTickAll_at (contacts := contacts) h hlen hx
  obtain ⟨hfresh, hraw⟩ := steppedInput_sampled (s.inputTicks + 1) (contacts.getLsbD i) x
  refine ⟨⟨_, hat, rfl, hfresh, hraw⟩, fun ho => ?_⟩
  rw [hat, steppedInput, stepFilter_quiet ho]
  rfl

/-! ## Inputs that hand nothing on -/

/-- Input `i` hands nothing on at the tick. -/
def quietInput (contacts : BitVec 8) (s : State) (i : Nat) : Prop :=
  ∀ x, s.inputs[i]? = some x → (stepFilter x.settings s.inputTicks (contacts.getLsbD i) x.filter).2 = []

theorem tickInput_quiet {contacts : BitVec 8} {s : State} {i : Nat} (h : quietInput contacts s i) :
    tickInput contacts s i = { s with inputs := steppedAt contacts s.inputTicks s.inputs i } := by
  unfold tickInput steppedAt
  split
  · next hx => rw [modify_none hx]
  · next x hx =>
    dsimp only
    rw [modify_some hx, h x hx]
    rfl

theorem steppedAt_other {contacts : BitVec 8} {tick i j : Nat} {xs : List Input} (h : j ≠ i) :
    (steppedAt contacts tick xs j)[i]? = xs[i]? := by
  simp [steppedAt, h]

theorem tickInputs_quiet {contacts : BitVec 8} {is : List Nat} (hn : is.Nodup) {s : State}
    (h : ∀ i ∈ is, quietInput contacts s i) :
    is.foldl (tickInput contacts) s = { s with inputs := is.foldl (steppedAt contacts s.inputTicks) s.inputs } := by
  induction is generalizing s with
  | nil => rfl
  | cons i is ih =>
    obtain ⟨hi, hrest⟩ := List.nodup_cons.1 hn
    rw [List.foldl_cons, tickInput_quiet (h i List.mem_cons_self), ih hrest]
    · rfl
    · intro j hj x hx
      have hne : i ≠ j := fun he => hi (he.symm ▸ hj)
      rw [steppedAt_other hne] at hx
      exact h j (List.mem_cons_of_mem i hj) x hx

/-- Settles O52. -/
theorem inputTickSamplesTheContacts : Obligations.InputTickSamplesTheContacts := by
  unfold Obligations.InputTickSamplesTheContacts
  intro contacts s hsrc hlen
  refine ⟨_, rfl, inputTickAll_sampled hsrc hlen, fun honly => ?_⟩
  have hquiet : inputTickAll contacts s =
      { s with
        inputs := (List.range 8).foldl (steppedAt contacts (s.inputTicks + 1)) s.inputs
        inputTicks := s.inputTicks + 1 } := by
    rw [inputTickAll_eq hsrc, tickInputs_quiet List.nodup_range]
    intro i _ x hx
    rw [stepFilter_quiet (honly i x hx)]
  rw [hquiet]
  exact noteChanges_eq_self rfl rfl rfl rfl

end Sys2Proof.Machine
end

section
/-! An input that reaches its debounce, begins to chatter or recovers, and what it hands on (R164 to R167). -/

namespace Sys2Proof.Machine

/-! ## The entries that the ends of a run write -/

theorem modLane_ring_of_shape {l : LaneId} {f : Lane → Lane} {s : State}
    (h : laneShapeOk (s.lane l) → laneShapeOk (f (s.lane l))) : RingWork 0 s (s.modLane l f) :=
  .quiet (areas := []) rfl (shapeOk_modLane h) rfl (fun _ => memKept_of_host rfl) fun _ hr => nomatch hr

theorem modLicences_ring (f : LicenceTable → LicenceTable) (s : State) : RingWork 0 s (modLicences f s) :=
  .quiet (areas := []) rfl id rfl (fun _ => memKept_of_host rfl) fun _ hr => nomatch hr

theorem closeTally_ring (l : LaneId) (w : WayClosed) (s : State) : RingWork 2 s (closeTally l w s) := by
  have hclose : RingWork 0 s ((releaseAll (reservedLicences (s.lane l).tally) s).modLane l closedLane) :=
    (modLicences_ring _ s).trans (modLane_ring (closedLane_keeps _))
  unfold closeTally
  dsimp only
  split
  · exact hclose.mono (Nat.zero_le 2)
  · exact hclose.trans (offer_ring _ _)

theorem checkDrained_ring (l : LaneId) (s : State) : RingWork 2 s (checkDrained l s) := by
  unfold checkDrained
  split
  · exact closeTally_ring l .drained s
  · exact (RingWork.refl s).mono (Nat.zero_le 2)

theorem runEnd_ring (l : LaneId) (c : Cause) (s : State) : RingWork 2 s (runEnd l c s) := by
  unfold runEnd
  split
  · exact (modLane_ring_of_shape id).trans (checkDrained_ring l _)
  · exact (RingWork.refl s).mono (Nat.zero_le 2)

theorem endNow_ring (l : LaneId) (c : Cause) (s : State) : RingWork 6 s (endNow l c s) :=
  ((modLane_ring (muteAtOnce_keeps _)).trans (runEnd_ring l c _)).trans (enterState_ring l .ended c _)

theorem emergencyStop_ring (l : LaneId) (s : State) : RingWork 6 s (emergencyStop l s) := by
  unfold emergencyStop
  split
  case h_1 | h_2 | h_3 | h_4 => exact endNow_ring l .emergency s
  case h_5 => exact (enterState_ring l .ready .emergency s).mono (by decide)
  all_goals exact (RingWork.refl s).mono (by decide)

theorem emergencyReaches_ring (l : LaneId) (s : State) : RingWork 6 s (emergencyReaches l s) := by
  unfold emergencyReaches
  split
  · exact emergencyStop_ring l s
  · exact (modLane_ring_of_shape id).trans (emergencyStop_ring l _)

theorem inputHold_ring (s : State) (l : LaneId) : RingWork 6 s (inputHold s l) := by
  unfold inputHold
  split
  · next h => exact (modLane_ring (mergeHold_keeps _ _ h)).mono (by decide)
  · exact (RingWork.refl s).mono (by decide)

theorem foldl_ring {α : Type} {k : Nat} {f : State → α → State} (h : ∀ s a, RingWork k s (f s a)) (xs : List α)
    (s : State) : RingWork (k * xs.length) s (xs.foldl f s) := by
  induction xs generalizing s with
  | nil => exact .refl s
  | cons x xs ih => exact ((h s x).trans (ih (f s x))).mono (by rw [List.length_cons, Nat.mul_succ]; omega)

theorem actOnLanes_ring (set : InputSettings) (s : State) : RingWork 24 s (actOnLanes set s) := by
  have hfour : (maskLanes set.mask).length ≤ 4 := List.length_filter_le _ allLanes
  have hle : 6 * (maskLanes set.mask).length ≤ 24 := by omega
  cases hf : set.function with
  | none => rw [actOnLanes_none (.inl hf)]; exact (RingWork.refl s).mono (by decide)
  | report => rw [actOnLanes_none (.inr hf)]; exact (RingWork.refl s).mono (by decide)
  | hold => rw [actOnLanes_hold hf]; exact (foldl_ring inputHold_ring _ s).mono hle
  | emergency =>
    rw [actOnLanes_emergency hf]
    exact (foldl_ring (fun s l => emergencyReaches_ring l s) _ s).mono hle

/-! ## A second entry -/

/-- The entry after the first stands one place on (R177). -/
theorem journaled_next {e e' : JournalEntry} {k : Nat} {s w t : State} (hw : AsOffered s w)
    (hk : RingWork k (offer e' (offer e w)) t) (hle : k ≤ 255) (hs : shapeOk s) (hr : ringRoom 2 s) :
    journaled 1 e' s t := by
  obtain ⟨hd, hz, hroom⟩ := hr
  have hsw := hw.shape hs
  have hroom0 : (w.journal.writeIndex + 1) % 256 ≠ w.journal.readIndex := by
    rw [hw.journal]
    exact hroom 0 (by decide)
  have hput : offer e w = putEntry e w := offer_room e (hw.device.trans hd) (by rw [hw.journal]; exact hz) hroom0
  have hjournal : (offer e w).journal = entryPassed s.journal := by rw [hput, putEntry_journal, hw.journal]
  have hshape := (offer_told e w).shapeOk hsw
  have hroom1 : ringRoom 1 (offer e w) := by
    refine ⟨(offer_device e w).trans (hw.device.trans hd), by rw [hjournal]; exact hz, fun j hj => ?_⟩
    obtain rfl : j = 0 := by omega
    rw [hjournal]
    have := hroom 1 (by decide)
    simp only [entryPassed]
    omega
  have hfirst := journaled_of_offer (AsOffered.refl (offer e w)) hk hle hshape hroom1
  rw [journaled_zero_iff hshape.2.1] at hfirst
  have haddr : journalAddr (offer e w) (offer e w).journal.writeIndex =
      journalAddr s ((s.journal.writeIndex + 1) % 256) := by
    rw [journalAddr, (offer_reported e w).tableAddr, hw.table, hjournal, journalAddr]
    rfl
  rw [haddr] at hfirst
  exact hfirst.trans (entryBytes_congr e' (s := entriesOn 1 s) (by rw [hjournal]; rfl)
    ((offer_licences e w).trans hw.licences))

/-! ## What an input hands on (R167) -/

/-- The entry that tells a change of an input. -/
def inputEntry (i : Nat) (set : InputSettings) (e : FilterEvent) : JournalEntry :=
  ⟨.input, none, 0, [i, set.function.ctorIdx, e.change.ctorIdx, e.before.ctorIdx, e.after.ctorIdx]⟩

theorem reportInput_offers {set : InputSettings} (h : set.function ≠ .none) (i : Nat) (e : FilterEvent) (s : State) :
    reportInput i set e s = offer (inputEntry i set e) s := if_neg h

theorem reportInput_silent {set : InputSettings} (h : set.function = .none) (i : Nat) (e : FilterEvent) (s : State) :
    reportInput i set e s = s := if_pos h

theorem handInput_reports {e : FilterEvent} (h : acceptsActive e = false) (i : Nat) (set : InputSettings) (s : State) :
    handInput i set s e = reportInput i set e s := by
  unfold handInput
  rw [h, if_neg Bool.false_ne_true]

theorem handInput_acts {e : FilterEvent} (h : acceptsActive e = true) (i : Nat) (set : InputSettings) (s : State) :
    handInput i set s e = actOnLanes set (reportInput i set e s) := by
  unfold handInput
  rw [h, if_pos rfl]

theorem handInput_ring {set : InputSettings} (h : set.function ≠ .none) (i : Nat) (e : FilterEvent) (s : State) :
    RingWork 24 (offer (inputEntry i set e) s) (handInput i set s e) := by
  cases ha : acceptsActive e with
  | false =>
    rw [handInput_reports ha, reportInput_offers h]
    exact (RingWork.refl _).mono (by decide)
  | true =>
    rw [handInput_acts ha, reportInput_offers h]
    exact actOnLanes_ring set _

theorem handInput_unreported {set : InputSettings} (h : set.function = .none) (i : Nat) (e : FilterEvent) (s : State) :
    handInput i set s e = s := by
  unfold handInput
  rw [reportInput_silent h, actOnLanes_none (.inl h), ite_self]

theorem lanesActed_congr {set : InputSettings} {s r t u : State} (hs : r.lanes = s.lanes) (ht : u.lanes = t.lanes)
    (h : lanesActed set r u) : lanesActed set s t := by
  have hsl (l : LaneId) : r.lane l = s.lane l := by rw [State.lane, State.lane, hs]
  have htl (l : LaneId) : u.lane l = t.lane l := by rw [State.lane, State.lane, ht]
  obtain ⟨hn, hl⟩ := h
  refine ⟨fun hf => by rw [← ht, ← hs]; exact hn hf, fun l => ?_⟩
  have := hl l
  rwa [hsl, htl] at this

/-- The inputs and their ticks changed, and what the device shows of them rewritten. -/
theorem inputsShown_asOffered {s : State} {is : List Input} {n : Nat} (h : s.inputs.length = 8 → is.length = 8) :
    AsOffered s (writeDeviceStatus { s with inputs := is, inputTicks := n }) := by
  have hrep := writeDeviceStatus_reported { s with inputs := is, inputTicks := n }
  exact ⟨hrep.device, hrep.tableAddr, writeDeviceStatus_journal _, hrep.licences, fun ⟨hin, hix, hl⟩ =>
    (writeDeviceStatus_told _).shapeOk ⟨h hin, hix, hl⟩⟩

theorem inputs_ring {s : State} {is : List Input} (h : s.inputs.length = 8 → is.length = 8) :
    RingWork 0 s { s with inputs := is } :=
  .quiet (areas := []) rfl (fun ⟨hin, hix, hl⟩ => ⟨h hin, hix, hl⟩) rfl (fun _ => memKept_of_host rfl)
    fun _ hr => nomatch hr

/-- What an input hands on where no other does: its entries in the journal, and its last change to the lanes. -/
theorem handedOn_of_last {i : Nat} {set : InputSettings} {pre : List FilterEvent} {e : FilterEvent} {s : State}
    {J K : List Input} {n : Nat} (hJ : J.length = 8) (hK : K.length = 8) (hpre : pre.length ≤ 1)
    (hquiet : ∀ f ∈ pre, acceptsActive f = false) :
    handedOn i set (pre ++ [e]) s
      (noteChanges s { handInputs i set (pre ++ [e]) { s with inputs := J, inputTicks := n } with inputs := K }) := by
  set v : State := writeDeviceStatus { s with inputs := J, inputTicks := n } with hv
  have hoff : AsOffered s v := inputsShown_asOffered fun _ => hJ
  have hvrep : Reported { s with inputs := J, inputTicks := n } v := writeDeviceStatus_reported _
  have hprerep : Reported v (pre.foldl (handInput i set) v) := by
    refine List.foldlRecOn pre (handInput i set) (.refl v) fun u hu f hf => hu.trans ?_
    rw [handInput_reports (hquiet f hf)]
    exact (reportInput_told i set f u).reported
  have hhand : handInputs i set (pre ++ [e]) { s with inputs := J, inputTicks := n } =
      handInput i set (pre.foldl (handInput i set) v) e := by
    unfold handInputs
    rw [if_neg (by simp), List.foldl_append, ← hv]
    rfl
  have hKlen : ∀ u : State, RingWork 0 u (noteChanges s { u with inputs := K }) := fun u =>
    (inputs_ring fun _ => hK).trans (noteChanges_ring s _)
  rw [hhand]
  have hrep := (reportInput_told i set e (pre.foldl (handInput i set) v)).reported
  refine ⟨fun hno => ?_, fun hd hact => ?_, fun hs hroom hf => ?_, fun hf => ?_⟩
  · rw [handInput_reports (hno e (List.mem_append_right _ (List.mem_singleton_self e)))]
    exact ⟨hrep.lanes.trans (hprerep.lanes.trans hvrep.lanes), hrep.licences.trans (hprerep.licences.trans hvrep.licences)⟩
  · obtain ⟨f, hmem, hfact⟩ := hact
    have hfe : f = e := by
      rcases List.mem_append.1 hmem with hp | hp
      · exact absurd ((hquiet f hp).symm.trans hfact) Bool.false_ne_true
      · exact List.mem_singleton.1 hp
    rw [handInput_acts (hfe ▸ hfact)]
    refine lanesActed_congr (hrep.lanes.trans (hprerep.lanes.trans hvrep.lanes)) rfl (actOnLanes_lanesActed ?_)
    rw [hrep.device, hprerep.device, hvrep.device]
    exact hd
  · intro k f hk
    match pre, hpre with
    | [], _ =>
      obtain ⟨rfl, rfl⟩ : k = 0 ∧ e = f := by
        cases k with
        | zero => exact ⟨rfl, Option.some.inj hk⟩
        | succ k => simp at hk
      exact journaled_of_offer (e := inputEntry i set e) hoff ((handInput_ring hf i e v).trans (hKlen _)) (by decide) hs hroom
    | [g], _ =>
      have hg : handInput i set v g = offer (inputEntry i set g) v := by
        rw [handInput_reports (hquiet g (List.mem_singleton_self g)), reportInput_offers hf]
      have hring : RingWork 24 (offer (inputEntry i set e) (offer (inputEntry i set g) v))
          (noteChanges s { handInput i set (offer (inputEntry i set g) v) e with inputs := K }) :=
        (handInput_ring hf i e _).trans (hKlen _)
      rw [List.foldl_cons, List.foldl_nil, hg]
      cases k with
      | zero =>
        obtain rfl : g = f := Option.some.inj hk
        obtain ⟨hd, hz, hroom'⟩ := hroom
        exact journaled_of_offer hoff ((offer_ring (inputEntry i set e) _).trans hring) (by decide) hs
          ⟨hd, hz, fun j hj => hroom' j (by simp only [List.length_append, List.length_singleton]; omega)⟩
      | succ k =>
        cases k with
        | zero =>
          obtain rfl : e = f := Option.some.inj hk
          exact journaled_next hoff hring (by decide) hs hroom
        | succ k => simp at hk
  · show (handInput i set _ e).journal = s.journal
    have hfold : (pre.foldl (handInput i set) v) = v := by
      refine List.foldlRecOn (motive := fun u => u = v) pre (handInput i set) rfl fun u hu f _ => ?_
      rw [handInput_unreported hf, hu]
    rw [handInput_unreported hf, hfold, hv, writeDeviceStatus_journal]

/-! ## A tick at which one input hands something on -/

theorem nextEvents_eq {s : State} {i : Nat} {x : Input} {contacts : BitVec 8} (h : s.inputs[i]? = some x) :
    nextEvents s i contacts = (stepFilter x.settings (s.inputTicks + 1) (contacts.getLsbD i) x.filter).2 := by
  unfold nextEvents
  rw [h]

theorem quietInput_of_nextEvents {s u : State} {j : Nat} {contacts : BitVec 8} (h : nextEvents s j contacts = [])
    (hx : u.inputs[j]? = s.inputs[j]?) (ht : u.inputTicks = s.inputTicks + 1) : quietInput contacts u j := by
  intro x hu
  rw [hx] at hu
  rw [ht, ← nextEvents_eq hu, h]

/-- The tick is the one input's own work, the others being sampled alone. -/
theorem inputTickAll_one {contacts : BitVec 8} {s : State} (hsrc : s.clockUnit.source ≠ .acquiring)
    (hlen : s.inputs.length = 8) {i : Nat} {x : Input} (hx : s.inputs[i]? = some x)
    (hothers : ∀ j < 8, j ≠ i → nextEvents s j contacts = []) :
    ∃ J K, J.length = 8 ∧ K.length = 8 ∧
      inputTickAll contacts s =
        { handInputs i x.settings (nextEvents s i contacts) { s with inputs := J, inputTicks := s.inputTicks + 1 } with
          inputs := K } := by
  have hi : i < 8 := hlen ▸ (List.getElem?_eq_some_iff.1 hx).1
  obtain ⟨A, B, hAB⟩ := List.append_of_mem (List.mem_range.2 hi)
  have hnodup : (A ++ i :: B).Nodup := hAB ▸ List.nodup_range
  obtain ⟨hA, hiB, hdis⟩ := List.nodup_append.1 hnodup
  obtain ⟨hiB, hB⟩ := List.nodup_cons.1 hiB
  have hiA : i ∉ A := fun h => hdis i h i List.mem_cons_self rfl
  have hlt : ∀ j ∈ A ++ i :: B, j < 8 := fun j hj => List.mem_range.1 (hAB ▸ hj)
  have hbefore : A.foldl (tickInput contacts) { s with inputTicks := s.inputTicks + 1 } =
      { s with
        inputs := A.foldl (steppedAt contacts (s.inputTicks + 1)) s.inputs
        inputTicks := s.inputTicks + 1 } :=
    tickInputs_quiet hA fun j hj => quietInput_of_nextEvents
      (hothers j (hlt j (List.mem_append_left _ hj)) fun he => hiA (he ▸ hj)) rfl rfl
  have hat : (A.foldl (steppedAt contacts (s.inputTicks + 1)) s.inputs)[i]? = some x := by
    rw [getElem?_steppedAt _ _ _ hA, if_neg hiA, hx]
  obtain ⟨J, hJ⟩ : ∃ J, J = (A.foldl (steppedAt contacts (s.inputTicks + 1)) s.inputs).set i
      (steppedInput (s.inputTicks + 1) (contacts.getLsbD i) x) := ⟨_, rfl⟩
  obtain ⟨w, hw⟩ : ∃ w, w = handInputs i x.settings (nextEvents s i contacts)
      { s with inputs := J, inputTicks := s.inputTicks + 1 } := ⟨_, rfl⟩
  have hstep : tickInput contacts
      { s with
        inputs := A.foldl (steppedAt contacts (s.inputTicks + 1)) s.inputs
        inputTicks := s.inputTicks + 1 } i = w := by
    rw [hw, nextEvents_eq hx, hJ]
    unfold tickInput
    dsimp only
    rw [hat]
    rfl
  obtain ⟨hin, htick⟩ : w.inputs = J ∧ w.inputTicks = s.inputTicks + 1 := by
    rw [hw]
    exact handInputs_inputs i x.settings _ _
  have hJlen : J.length = 8 := by rw [hJ, List.length_set, length_steppedAt, hlen]
  refine ⟨J, B.foldl (steppedAt contacts w.inputTicks) w.inputs, hJlen, by rw [length_steppedAt, hin, hJlen], ?_⟩
  rw [inputTickAll_eq hsrc, hAB, List.foldl_append, List.foldl_cons, hbefore, hstep, ← hw]
  refine tickInputs_quiet hB fun j hj => ?_
  have hne : j ≠ i := fun he => hiB (he ▸ hj)
  have hjA : j ∉ A := fun h => hdis j h j (List.mem_cons_of_mem i hj) rfl
  refine quietInput_of_nextEvents (hothers j (hlt j (List.mem_append_right _ (List.mem_cons_of_mem i hj))) hne) ?_ htick
  rw [hin, hJ, List.getElem?_set_ne hne.symm, getElem?_steppedAt _ _ _ hA, if_neg hjA]

/-! ## The filter at its debounce and at the end of its chattering (R166) -/

/-- A filter that reached its debounce. -/
theorem stepFilter_reached {x : Input} {closed : Bool} (tick : Nat) (hf : x.filter.fresh = false)
    (hc : x.filter.chattering = false) (hr : readContact x.settings.polarity closed = x.filter.raw)
    (hd : x.settings.debounce ≤ min 1000 (x.filter.stable + 1)) (hl : levelOf x.filter.raw ≠ x.filter.level) :
    (x.filter.level = .unknown →
        (stepFilter x.settings tick closed x.filter).1.level = levelOf x.filter.raw ∧
          (stepFilter x.settings tick closed x.filter).1.history = x.filter.history ∧
          (stepFilter x.settings tick closed x.filter).1.chattering = false ∧
          (stepFilter x.settings tick closed x.filter).2 = [⟨.accepted, x.filter.level, levelOf x.filter.raw⟩]) ∧
      (x.filter.level ≠ .unknown → chatterRefuses tick x.filter.history = true →
        (stepFilter x.settings tick closed x.filter).1.chattering = true ∧
          (stepFilter x.settings tick closed x.filter).1.level = x.filter.level ∧
          (stepFilter x.settings tick closed x.filter).1.history = [] ∧
          (stepFilter x.settings tick closed x.filter).1.stable = 0 ∧
          (stepFilter x.settings tick closed x.filter).2 = [⟨.chatterEntered, x.filter.level, x.filter.level⟩]) ∧
      (x.filter.level ≠ .unknown → chatterRefuses tick x.filter.history = false →
        (stepFilter x.settings tick closed x.filter).1.level = levelOf x.filter.raw ∧
          (stepFilter x.settings tick closed x.filter).1.chattering = false ∧
          (stepFilter x.settings tick closed x.filter).1.history = enterHistory tick x.filter.history ∧
          (stepFilter x.settings tick closed x.filter).2 = [⟨.accepted, x.filter.level, levelOf x.filter.raw⟩]) := by
  have hcount : sampledCount closed x = min 1000 (x.filter.stable + 1) := by
    rw [sampledCount, hf, if_neg Bool.false_ne_true, if_pos hr]
  have hsame : (sampledInput closed x).filter =
      { x.filter with raw := x.filter.raw, stable := min 1000 (x.filter.stable + 1), fresh := false } := by
    rw [sampledInput, hcount, hr]
  have hpass : ¬ (min 1000 (x.filter.stable + 1) < x.settings.debounce ∨ levelOf x.filter.raw = x.filter.level) :=
    not_or.2 ⟨not_lt.2 hd, hl⟩
  rw [stepFilter_eq, hc, if_neg Bool.false_ne_true, hsame]
  unfold judgeSteady
  dsimp only
  rw [if_neg hpass]
  refine ⟨fun hu => ?_, fun hu hch => ?_, fun hu hch => ?_⟩
  · rw [if_pos hu]
    exact ⟨rfl, rfl, hc, rfl⟩
  · rw [if_neg hu, hch, if_pos rfl]
    exact ⟨rfl, rfl, rfl, rfl, rfl⟩
  · rw [if_neg hu, hch, if_neg Bool.false_ne_true]
    exact ⟨rfl, hc, rfl, rfl⟩

theorem chatterRefuses_iff (tick : Nat) (h : List Nat) :
    chatterRefuses tick h = true ↔ h.length = 4 ∧ tick < h.headD 0 + 1000 := by
  rw [chatterRefuses, Bool.and_eq_true, decide_eq_true_iff, decide_eq_true_iff]

theorem getLast?_enterHistory (tick : Nat) (h : List Nat) : (enterHistory tick h).getLast? = some tick := by
  unfold enterHistory
  split
  · next hlen =>
    rw [List.length_append, List.length_singleton] at hlen
    cases h with
    | nil => exact absurd hlen (by decide)
    | cons a as =>
      show (as ++ [tick]).getLast? = some tick
      exact List.getLast?_concat
  · exact List.getLast?_concat

/-- A chattering filter that was stable long enough. -/
theorem stepFilter_recovers {x : Input} {closed : Bool} (tick : Nat) (hf : x.filter.fresh = false)
    (hc : x.filter.chattering = true) (hr : readContact x.settings.polarity closed = x.filter.raw)
    (hd : 999 ≤ x.filter.stable) :
    (stepFilter x.settings tick closed x.filter).1.chattering = false ∧
      (stepFilter x.settings tick closed x.filter).1.level = levelOf x.filter.raw ∧
      (levelOf x.filter.raw ≠ x.filter.level → (stepFilter x.settings tick closed x.filter).1.history = [tick]) ∧
      (stepFilter x.settings tick closed x.filter).2 =
        ⟨.chatterLeft, x.filter.level, x.filter.level⟩ ::
          if levelOf x.filter.raw = x.filter.level then []
          else [⟨.accepted, x.filter.level, levelOf x.filter.raw⟩] := by
  have hcount : sampledCount closed x = min 1000 (x.filter.stable + 1) := by
    rw [sampledCount, hf, if_neg Bool.false_ne_true, if_pos hr]
  have hsame : (sampledInput closed x).filter =
      { x.filter with raw := x.filter.raw, stable := min 1000 (x.filter.stable + 1), fresh := false } := by
    rw [sampledInput, hcount, hr]
  rw [stepFilter_eq, hc, if_pos rfl, hsame]
  unfold judgeChattering
  dsimp only
  rw [if_neg (by omega)]
  by_cases hl : levelOf x.filter.raw = x.filter.level
  · rw [if_pos hl, if_pos hl]
    exact ⟨rfl, hl.symm, fun hn => absurd hl hn, rfl⟩
  · rw [if_neg hl, if_neg hl]
    exact ⟨rfl, rfl, fun _ => rfl, rfl⟩

/-- What the device's own work keeps at a tick. -/
theorem inputTickAll_kept (contacts : BitVec 8) (s : State) :
    registersKept s (noteChanges s (inputTickAll contacts s)) ∧
      (noteChanges s (inputTickAll contacts s)).engine = s.engine ∧
      (noteChanges s (inputTickAll contacts s)).pending = s.pending ∧
      (shapeOk s → memKept (deviceAreas s) s (noteChanges s (inputTickAll contacts s))) := by
  have hwork := inputTickAll_device [] contacts s
  refine ⟨hwork.registers, hwork.engine, hwork.keeps.pending, fun hs => ?_⟩
  have := hwork.mem hs
  rwa [List.append_nil] at this

/-- Settles O53. -/
theorem debounceAcceptsChattersAndRecovers : Obligations.DebounceAcceptsChattersAndRecovers := by
  unfold Obligations.DebounceAcceptsChattersAndRecovers
  refine ⟨fun i contacts s x hsrc hlen hx hfresh hch hraw hdeb hlevel => ?_,
    fun i contacts s x hsrc hlen hx hfresh hch hraw hst => ?_⟩
  · obtain ⟨hunknown, hrefused, hentered⟩ :=
      stepFilter_reached (s.inputTicks + 1) hfresh hch hraw hdeb hlevel
    have hev := nextEvents_eq (contacts := contacts) hx
    have hevents : nextEvents s i.val contacts =
        [if (steppedInput (s.inputTicks + 1) (contacts.getLsbD i.val) x).filter.chattering then
            ⟨.chatterEntered, x.filter.level, x.filter.level⟩
          else ⟨.accepted, x.filter.level, levelOf x.filter.raw⟩] := by
      rw [hev, steppedInput]
      by_cases hu : x.filter.level = .unknown
      · obtain ⟨_, _, hc, he⟩ := hunknown hu
        rw [hc, he, if_neg Bool.false_ne_true]
      · cases hr : chatterRefuses (s.inputTicks + 1) x.filter.history with
        | true =>
          obtain ⟨hc, _, _, _, he⟩ := hrefused hu hr
          rw [hc, he, if_pos rfl]
        | false =>
          obtain ⟨_, hc, _, he⟩ := hentered hu hr
          rw [hc, he, if_neg Bool.false_ne_true]
    have hdue : debounceDue s i.val contacts = true := by
      unfold debounceDue chatterLeftDue
      rw [hevents]
      split
      · rfl
      · rfl
    obtain ⟨hregs, heng, hpend, hmem⟩ := inputTickAll_kept contacts s
    refine ⟨noteChanges s (inputTickAll contacts s), _, ?_, rfl, inputTickAll_at hsrc hlen hx, inputTickAll_sampled hsrc hlen,
      rfl, fun hu => ?_, fun hu => ⟨fun hr => ?_, fun hr => ?_⟩, fun hothers => ?_, hregs, heng, hpend, hmem⟩
    · exact congrArg (Host.Outcome.next ∘ noteChanges s) (if_pos hdue)
    · obtain ⟨hl, hh, hc, _⟩ := hunknown hu
      exact ⟨hl, hh, hc⟩
    · obtain ⟨hc, hl, hh, hs, _⟩ := hrefused hu ((chatterRefuses_iff _ _).2 hr)
      exact ⟨hc, hl, hh, hs⟩
    · obtain ⟨hl, hc, hh, _⟩ := hentered hu (Bool.eq_false_iff.2 fun h => hr ((chatterRefuses_iff _ _).1 h))
      exact ⟨hl, hc, by rw [steppedInput, hh]; exact getLast?_enterHistory _ _⟩
    · obtain ⟨J, K, hJ, hK, htick⟩ := inputTickAll_one hsrc hlen hx hothers
      rw [htick, hevents]
      exact handedOn_of_last (pre := []) hJ hK (by decide) fun f hf => (nomatch hf)
  · obtain ⟨hc, hl, hh, he⟩ := stepFilter_recovers (s.inputTicks + 1) hfresh hch hraw hst
    have hevents := (nextEvents_eq (contacts := contacts) hx).trans he
    have hdue : chatterLeftDue s i.val contacts = true := by
      unfold chatterLeftDue
      rw [hevents]
      rfl
    obtain ⟨hregs, heng, hpend, hmem⟩ := inputTickAll_kept contacts s
    refine ⟨noteChanges s (inputTickAll contacts s), _, ?_, rfl, inputTickAll_at hsrc hlen hx, inputTickAll_sampled hsrc hlen,
      rfl, hc, hl, hh, fun hothers => ?_, hregs, heng, hpend, hmem⟩
    · exact congrArg (Host.Outcome.next ∘ noteChanges s) (if_pos hdue)
    · obtain ⟨J, K, hJ, hK, htick⟩ := inputTickAll_one hsrc hlen hx hothers
      rw [htick, hevents]
      by_cases hlev : levelOf x.filter.raw = x.filter.level
      · rw [if_pos hlev]
        exact handedOn_of_last (pre := []) hJ hK (by decide) fun f hf => (nomatch hf)
      · rw [if_neg hlev]
        exact handedOn_of_last (pre := [⟨.chatterLeft, x.filter.level, x.filter.level⟩]) hJ hK (le_refl 1) fun f hf => by
          rw [List.mem_singleton.1 hf]
          rfl

end Sys2Proof.Machine
end

section
/-! The second event and the firing of an ARMED lane (R13, R77, R88). -/

namespace Sys2Proof.Machine

/-! ## The preconditions of a start, both ways (R10) -/

theorem granted_of_firstRefusal {records : List (Option Licence)} {l : LaneId} {head : Option Word64} {ids : List Nat}
    (h : firstRefusal records l head ids = none) :
    ∀ id ∈ ids, ∀ x, findLicence records id = some x → grants l head x := by
  induction ids with
  | nil => exact fun id hid => absurd hid List.not_mem_nil
  | cons i ids ih =>
    rw [firstRefusal] at h
    split at h
    · cases h
    · next hnone =>
      intro id hid x hx
      rcases List.mem_cons.1 hid with rfl | hid
      · refine Classical.byContradiction fun hno => ?_
        rw [hx, Option.bind_some, reserveRefusal_of_not_grants hno] at hnone
        cases hnone
      · exact ih h id hid x hx

theorem mayStart_of_startRefusal {l : LaneId} {s : State} (h : startRefusal l s = none) : mayStart l s := by
  have he : emergencyBlocks s l = false := Bool.eq_false_iff.2 fun he => by
    rw [startRefusal_input he] at h
    cases h
  have hm : (s.lane l).sound.stage = .complete := Classical.byContradiction fun hm => by
    rw [startRefusal_map he hm] at h
    cases h
  have hk : (s.lane l).link.state = .locked := Classical.byContradiction fun hk => by
    rw [startRefusal_link he hm hk] at h
    cases h
  have hh : (s.lane l).link.headStatus = .ready := Classical.byContradiction fun hh => by
    rw [startRefusal_head he hm hk hh] at h
    cases h
  refine ⟨he, hm, hk, hh, fun e hent x hx => ?_⟩
  unfold startRefusal at h
  dsimp only at h
  rw [he, if_neg Bool.false_ne_true, if_neg (not_not.2 hm), if_neg (not_not.2 hk), if_neg (not_not.2 hh),
    Option.map_eq_none_iff] at h
  exact granted_of_firstRefusal h e.licence (List.mem_map_of_mem hent) x hx

theorem Reported.startRefusal {s t : State} (h : Reported s t) (l : LaneId) : startRefusal l t = startRefusal l s := by
  obtain ⟨_, _, _, _, rfl⟩ := h
  rfl

/-! ## The second event (R77, R88) -/

/-- The table once the clock has counted a second. -/
def secondCounted (t : LicenceTable) : LicenceTable := { t with clock := min Config.clockMax (t.clock + 1) }

/-- The state with the clock counted and every derived state evaluated. -/
def secondJudged (s : State) : State := modLicences (fun t => evaluateRecords (secondCounted t)) s

theorem secondEvaluated_reported (s : State) :
    Reported (secondJudged s) (evaluateAll (gapCheck (modLicences secondCounted s))) :=
  ((gapCheck_told (modLicences secondCounted s)).reported.modLicences evaluateRecords).trans (evaluateAll_reported _)

theorem tickSecond_eq (s : State) :
    tickSecond s = writeDeviceStatus (compareAllArmed (evaluateAll (gapCheck (modLicences secondCounted s)))) := rfl

theorem unitsKept_trans {s t u : State} (h : unitsKept s t) (k : unitsKept t u) : unitsKept s u := by
  obtain ⟨hi, ht, he, hp⟩ := h
  obtain ⟨ki, kt, ke, kp⟩ := k
  exact ⟨ki.trans hi, kt.trans ht, ke.trans he, kp.trans hp⟩

theorem Reported.unitsKept {s t : State} (h : Reported s t) : unitsKept s t :=
  ⟨h.inputs, h.inputTicks, h.engine, h.pending⟩

theorem compareArmed_units (s : State) (l : LaneId) : unitsKept s (compareArmed s l) :=
  (compareArmed_work (l := l) (s := s) (List.Subset.refl _)).rest.2.2.1

theorem compareAllArmed_units (s : State) : unitsKept s (compareAllArmed s) :=
  foldl_induction (R := fun s t : State => Machine.unitsKept s t) (fun _ => ⟨rfl, rfl, rfl, rfl⟩)
    (fun _ _ _ => unitsKept_trans) compareArmed_units allLanes s

theorem tickSecond_units (s : State) : unitsKept s (tickSecond s) :=
  unitsKept_trans (t := secondJudged s) ⟨rfl, rfl, rfl, rfl⟩
    (unitsKept_trans (secondEvaluated_reported s).unitsKept
      (unitsKept_trans (compareAllArmed_units _) (writeDeviceStatus_reported _).unitsKept))

/-- Of the Licence Table a second changes the clock and the records. -/
theorem tickSecond_licences (s : State) :
    ∃ rs, (tickSecond s).licences = { secondCounted s.licences with records := rs } := by
  obtain ⟨⟨rs, hrs⟩, _⟩ := compareAllArmed_records (evaluateAll (gapCheck (modLicences secondCounted s)))
  refine ⟨rs, ?_⟩
  rw [tickSecond_eq, (writeDeviceStatus_reported _).licences, hrs, (secondEvaluated_reported s).licences]
  rfl

theorem tickSecond_unarmed {s : State} (h : ∀ l, (s.lane l).state ≠ .armed) :
    Reported (secondJudged s) (tickSecond s) := by
  have heval := secondEvaluated_reported s
  have hun : compareAllArmed (evaluateAll (gapCheck (modLicences secondCounted s))) =
      evaluateAll (gapCheck (modLicences secondCounted s)) :=
    compareAllArmed_unarmed fun l => by rw [heval.lane l]; exact h l
  rw [tickSecond_eq, hun]
  exact heval.trans (writeDeviceStatus_reported _)

theorem gapCheck_idle {s : State} (h : s.device ≠ .running) : gapCheck s = s := if_neg fun hh => h hh.1

theorem tickSecond_idle {s : State} (hd : s.device ≠ .running) (h : ∀ l, (s.lane l).state ≠ .armed) :
    tickSecond s = secondJudged s := by
  have hcounted : (modLicences secondCounted s).device ≠ .running := hd
  rw [tickSecond_eq, gapCheck_idle hcounted, evaluateAll_idle hcounted, compareAllArmed_unarmed (by exact h),
    writeDeviceStatus_idle (by exact hd)]
  rfl

/-- The Device Status Record just written shows the device (R176). -/
theorem writeDeviceStatus_shows {s : State} (hd : s.device = .running) (hs : s.inputs.length = 8) :
    memReadBytes (writeDeviceStatus s).host.mem (deviceStatusAddr (writeDeviceStatus s)) 256 =
      le 4 (writeDeviceStatus s).statusCount ++ deviceStatusBody (writeDeviceStatus s) := by
  have hlen : (le 4 (nextCount s.statusCount) ++ deviceStatusBody s).length = 256 := by
    rw [List.length_append, le_length, deviceStatusBody_length hs]
  rw [writeDeviceStatus_running hd]
  show memReadBytes (memWrite s.host.mem (deviceStatusAddr s) _) (deviceStatusAddr s) 256 = _
  rw [← hlen]
  exact memReadBytes_memWrite_self _ _ _

/-! ## The firing of one ARMED lane (R13) -/

theorem compareArmed_unarmed {s : State} {l : LaneId} (h : (s.lane l).state ≠ .armed) : compareArmed s l = s := by
  unfold compareArmed startDue
  rw [decide_eq_false h, Bool.false_and, if_neg Bool.false_ne_true]

/-- The one ARMED lane is compared alone. -/
theorem compareAllArmed_one {l : LaneId} {s : State} (h : ∀ m, m ≠ l → (s.lane m).state ≠ .armed) :
    compareAllArmed s = compareArmed s l := by
  have hskip : ∀ (ls : List LaneId), l ∉ ls → ∀ u : State, (∀ m ∈ ls, (u.lane m).state ≠ .armed) →
      ls.foldl compareArmed u = u := by
    intro ls hl u hu
    induction ls with
    | nil => rfl
    | cons m ls ih =>
      rw [List.foldl_cons, compareArmed_unarmed (hu m List.mem_cons_self)]
      exact ih (fun hm => hl (List.mem_cons_of_mem m hm)) fun k hk => hu k (List.mem_cons_of_mem m hk)
  obtain ⟨A, B, hAB⟩ := List.append_of_mem (mem_allLanes l)
  have hnodup : (A ++ l :: B).Nodup := hAB ▸ allLanes_nodup
  obtain ⟨_, hlB, hdis⟩ := List.nodup_append.1 hnodup
  obtain ⟨hlB, _⟩ := List.nodup_cons.1 hlB
  have hlA : l ∉ A := fun hm => hdis l hm l List.mem_cons_self rfl
  have hlanes := (compareArmed_work (l := l) (s := s) (List.Subset.refl _)).rest.1
  rw [compareAllArmed, hAB, List.foldl_append, List.foldl_cons, hskip A hlA s fun m hm => h m fun he => hlA (he ▸ hm),
    hskip B hlB _ fun m hm => ?_]
  have hne : m ≠ l := fun he => hlB (he ▸ hm)
  rw [hlanes m hne]
  exact h m hne

/-- A firing that a precondition refuses returns the lane to READY. -/
theorem fireStart_refused {l : LaneId} {s : State} {a : Answer} (h : startRefusal l s = some a) :
    bare ((fireStart l s).lane l) = bare (settleLane .ready .clockStart (s.lane l)) ∧
      (fireStart l s).licences = s.licences := by
  unfold fireStart
  rw [h]
  dsimp only
  rw [enterState_bare, enterState_licences, offer_lane, offer_licences]
  exact ⟨rfl, rfl⟩

theorem fireStart_starts {l : LaneId} {s : State} (h : startRefusal l s = none) :
    fireStart l s = startRun l .clockStart s := by
  unfold fireStart
  rw [h]

/-- The second at which the one ARMED lane is due is its firing. -/
theorem tickSecond_fires {l : LaneId} {s : State} {due : Nat} (ha : (s.lane l).state = .armed)
    (hs : (s.lane l).startSecond = some due) (hdue : due ≤ min Config.clockMax (s.licences.clock + 1))
    (hothers : ∀ m, m ≠ l → (s.lane m).state ≠ .armed) :
    ∃ e, Reported (secondJudged s) e ∧ tickSecond s = writeDeviceStatus (fireStart l e) := by
  have heval := secondEvaluated_reported s
  refine ⟨_, heval, ?_⟩
  have hone : compareAllArmed (evaluateAll (gapCheck (modLicences secondCounted s))) =
      compareArmed (evaluateAll (gapCheck (modLicences secondCounted s))) l :=
    compareAllArmed_one fun m hm => by rw [heval.lane m]; exact hothers m hm
  have hfire : startDue ((evaluateAll (gapCheck (modLicences secondCounted s))).lane l)
      (evaluateAll (gapCheck (modLicences secondCounted s))).licences.clock = true := by
    rw [heval.lane l, heval.licences]
    unfold startDue
    rw [show ((secondJudged s).lane l) = s.lane l from rfl, ha, hs]
    exact decide_eq_true hdue
  rw [tickSecond_eq, hone, compareArmed, if_pos hfire]

theorem noteChanges_memKept {areas : List (Nat × Nat)} {s t : State} (u : State) (h : memKept areas s t) :
    memKept areas s (noteChanges u t) := h.trans (memKept_of_host rfl)

theorem DeviceWork.memKept_of_none {s t : State} (h : DeviceWork [] s t) (hs : shapeOk s) :
    memKept (deviceAreas s) s t := by
  have hmem := h.mem hs
  rwa [List.append_nil] at hmem

theorem tickSecond_kept (s : State) :
    registersKept s (tickSecond s) ∧ (shapeOk s → memKept (deviceAreas s) s (noteChanges s (tickSecond s))) := by
  have hwork := tickSecond_device [] s
  generalize tickSecond s = t at hwork ⊢
  exact ⟨hwork.registers, fun hs => noteChanges_memKept s (hwork.memKept_of_none hs)⟩

theorem tickSecond_shown {s : State} (hd : s.device = .running) (hs : shapeOk s) :
    memReadBytes (tickSecond s).host.mem (deviceStatusAddr (tickSecond s)) 256 =
      le 4 (tickSecond s).statusCount ++ deviceStatusBody (tickSecond s) := by
  have heval := secondEvaluated_reported s
  rw [tickSecond_eq]
  refine writeDeviceStatus_shows ?_ ?_
  · rw [(compareAllArmed_device [] _).registers.1, heval.device]
    exact hd
  · rw [(compareAllArmed_units _).1, heval.inputs]
    exact hs.1

/-- Settles O50. -/
theorem secondEventsAdvanceTheClockAndFire : Obligations.SecondEventsAdvanceTheClockAndFire := by
  unfold Obligations.SecondEventsAdvanceTheClockAndFire
  refine ⟨fun s => ?_, fun l s due ha hs hdue hothers => ?_⟩
  · have hexec : exec .secondEvent s = .next (noteChanges s (tickSecond s)) := rfl
    obtain ⟨rs, hlic⟩ := tickSecond_licences s
    obtain ⟨hregs, hmem⟩ := tickSecond_kept s
    have hunits := tickSecond_units s
    have hunarmed := tickSecond_unarmed (s := s)
    have hidle := tickSecond_idle (s := s)
    have hshown := tickSecond_shown (s := s)
    generalize tickSecond s = u at hexec hlic hregs hmem hunits hunarmed hidle hshown
    have hclock : u.licences.clock = min Config.clockMax (s.licences.clock + 1) := (congrArg LicenceTable.clock hlic :)
    refine ⟨noteChanges s u, hexec, hclock, (congrArg LicenceTable.clockValid hlic :),
      (congrArg LicenceTable.keys hlic :), (congrArg LicenceTable.adjustDay hlic :),
      (congrArg LicenceTable.adjustLeft hlic :), (congrArg LicenceTable.retainedLost hlic :), fun hun => ?_, fun hd => ?_,
      hshown, hregs, hunits, hmem⟩
    · have hrep := hunarmed hun
      refine ⟨hrep.lanes, hrep.clockUnit, ?_⟩
      show u.licences.records = recordsEvaluated _ u.licences.clock _
      rw [hclock]
      exact (congrArg LicenceTable.records hrep.licences :)
    · by_cases hun : ∃ l, (s.lane l).state = .armed
      · exact .inr hun
      · refine .inl ?_
        show u.host.mem = s.host.mem
        rw [hidle hd fun l hl => hun ⟨l, hl⟩]
        rfl
  · dsimp only
    obtain ⟨e, he, htick⟩ := tickSecond_fires ha hs hdue hothers
    obtain ⟨rs, hlic⟩ := tickSecond_licences s
    obtain ⟨hregs, hmem⟩ := tickSecond_kept s
    have hdueNow : firingDue l s = true := by
      unfold firingDue startDue
      rw [ha, hs]
      exact decide_eq_true hdue
    have hlane : e.lane l = s.lane l := he.lane l
    have hrep := writeDeviceStatus_reported (fireStart l e)
    have hfired (m : LaneId) : (noteChanges s (tickSecond s)).lane m = (fireStart l e).lane m := by
      rw [noteChanges_lane, htick, hrep.lane m]
    have hrecords : (noteChanges s (tickSecond s)).licences = (fireStart l e).licences := by
      rw [noteChanges_licences, htick, hrep.licences]
    have hexec : exec .secondEvent s = .next (noteChanges s (tickSecond s)) := rfl
    have hfiring : exec (.startAtFiring l) s = .next (noteChanges s (tickSecond s)) :=
      congrArg (Host.Outcome.next ∘ noteChanges s) (if_pos hdueNow)
    have hunits := tickSecond_units s
    generalize tickSecond s = u at hexec hfiring hlic hregs hmem hunits hfired hrecords
    refine ⟨noteChanges s u, hfiring, hexec, (congrArg LicenceTable.clock hlic :), fun m hm => ?_, hregs, hunits,
      fun hmay => ?_, fun hno => ?_, hmem⟩
    · rw [hfired, (fireStart_work (s := e) (List.Subset.refl _)).rest.1 m hm]
      exact he.lane m
    · have hstart : startRefusal l e = none := (he.startRefusal l).trans (startRefusal_of_mayStart hmay)
      obtain ⟨⟨y, hy, hbegun⟩, htable⟩ := startRun_begins l .clockStart e
      rw [fireStart_starts hstart] at hfired hrecords
      obtain ⟨n, hn⟩ := eq_of_bare hy
      rw [hfired l, hn, hrecords, htable, ← hlane, he.licences]
      exact ⟨runBegun_statusCount hbegun n, rfl⟩
    · cases href : startRefusal l e with
      | none => exact absurd (mayStart_of_startRefusal ((he.startRefusal l).symm.trans href)) hno
      | some a =>
        obtain ⟨hb, htable⟩ := fireStart_refused href
        obtain ⟨n, hn⟩ := eq_of_bare hb
        rw [hfired l, hn, hlane, hrecords, htable, he.licences]
        exact ⟨rfl, rfl, rfl, ⟨rfl, rfl, rfl, rfl, rfl, rfl, rfl, rfl⟩, rfl, rfl⟩

end Sys2Proof.Machine
end

section
/-! The boundary of a lane as a function of the lane (R34, R101, R115 to R117, R145 to R149). -/

namespace Sys2Proof.Machine

/-! ## Indicators that stay lit -/

/-- No indicator of the lane goes out. -/
structure Lit (x y : Lane) : Prop where
  held : ∃ m, y.indicators.held = x.indicators.held ||| m
  period : ∃ m, y.indicators.period = x.indicators.period ||| m

namespace Lit

theorem of_eq {x y : Lane} (h : y.indicators = x.indicators) : Lit x y :=
  ⟨⟨0, by rw [h]; exact BitVec.or_zero.symm⟩, ⟨0, by rw [h]; exact BitVec.or_zero.symm⟩⟩

theorem refl (x : Lane) : Lit x x := .of_eq rfl

theorem trans {x y z : Lane} (h : Lit x y) (k : Lit y z) : Lit x z := by
  obtain ⟨⟨a, ha⟩, b, hb⟩ := h
  obtain ⟨⟨c, hc⟩, d, hd⟩ := k
  exact ⟨⟨a ||| c, by rw [hc, ha, BitVec.or_assoc]⟩, ⟨b ||| d, by rw [hd, hb, BitVec.or_assoc]⟩⟩

theorem after {x y z : Lane} (h : Lit y z) (hi : y.indicators = x.indicators) : Lit x z := (Lit.of_eq hi).trans h

theorem setIndicator (i : Indicator) (x : Lane) : Lit x (setIndicator i x) := ⟨⟨_, rfl⟩, ⟨_, rfl⟩⟩

theorem setIndicatorIf (b : Bool) (i : Indicator) (x : Lane) : Lit x (setIndicatorIf b i x) := by
  cases b
  · exact .refl x
  · exact .setIndicator i x

theorem dropUnseen (r : List Awaiting) (n : Nat) (x : Lane) : Lit x (dropUnseen r n x) :=
  .after (.setIndicatorIf _ _ _) rfl

theorem closedLane (x : Lane) : Lit x (closedLane x) := (Lit.dropUnseen _ _ x).trans (.of_eq rfl)

theorem drainedLane (x : Lane) : Lit x (drainedLane x) := by
  unfold Machine.drainedLane
  split
  · exact .closedLane x
  · exact .refl x

theorem runEndLane (c : Cause) (x : Lane) : Lit x (runEndLane c x) := by
  unfold Machine.runEndLane
  split
  · exact .after (.drainedLane _) rfl
  · exact .refl x

theorem stoppedLane (c : Cause) (x : Lane) : Lit x (stoppedLane c x) := by
  refine (Lit.runEndLane c x).trans (.of_eq ?_)
  unfold Machine.stoppedLane
  dsimp only
  split <;> rfl

theorem bit {x y : Lane} (h : Lit x y) {b : BitVec 10} (hb : x.indicators.held &&& b ≠ 0) :
    y.indicators.held &&& b ≠ 0 := by
  obtain ⟨⟨m, hm⟩, -⟩ := h
  intro h0
  refine hb (BitVec.eq_of_getLsbD_eq fun i hi => ?_)
  have hbit := congrArg (BitVec.getLsbD · i) h0
  simp only [hm, BitVec.getLsbD_and, BitVec.getLsbD_or] at hbit ⊢
  revert hbit
  cases x.indicators.held.getLsbD i <;> simp

/-- An indicator lit in the period that a boundary ends shows at the boundary. -/
theorem shows {x y : Lane} (h : Lit x y) {b : BitVec 10} (hb : x.indicators.period &&& b ≠ 0) :
    (rollPeriod y).indicators.current &&& b ≠ 0 :=
  bit (x := { x with indicators := { x.indicators with held := x.indicators.period } })
    (y := { y with indicators := { y.indicators with held := y.indicators.period } }) ⟨h.period, h.period⟩ hb

end Lit

/-! ## What a boundary begins with: the rest of the period, the staged sections, the waits (R51, R145, R147) -/

/-- The sound of a lane once its boundary has begun. -/
def begunSound (x : Lane) : Sound :=
  { advanceSound (x.sound.periodLen - x.sound.periodPos) x.sound with
    period := silence
    periodPos := 0
    periodLen := lanePeriod x
    routing := x.sound.stagedRouting.getD x.sound.routing
    trims := x.sound.stagedTrims.getD x.sound.trims
    stagedRouting := none
    stagedTrims := none
    target := targetGains x.level (x.sound.stagedTrims.getD x.sound.trims) (decide (x.state = .playing)) }

def unwaited (t : EssenceTrack) : EssenceTrack := { t with waiting := false }
def unwaitedStore (st : Store) : Store := { st with waiting := false }

def begunTracks (x : Lane) : PerEssence EssenceTrack :=
  if hasFetchWork x.state then ⟨unwaited x.tracks.picture, unwaited x.tracks.main, unwaited x.tracks.aux⟩ else x.tracks

def begunOverlay (x : Lane) : Overlay :=
  if hasFetchWork x.state then
    { x.overlay with
      current1 := unwaitedStore x.overlay.current1
      current2 := unwaitedStore x.overlay.current2
      next1 := unwaitedStore x.overlay.next1
      next2 := unwaitedStore x.overlay.next2 }
  else x.overlay

theorem liftWaits_tracks (x : Lane) : liftWaits x = { x with tracks := begunTracks x, overlay := begunOverlay x } := by
  unfold liftWaits begunTracks begunOverlay
  split <;> rfl

theorem beginBoundary_sound (x : Lane) :
    ∃ i, beginBoundary x =
        { x with indicators := i, sound := begunSound x, tracks := begunTracks x, overlay := begunOverlay x } ∧
      i = (setIndicatorIf (decide (clipsAhead x.sound (x.sound.periodLen - x.sound.periodPos) ≠ 0)) .clip x).indicators := by
  obtain ⟨i, hi⟩ := setIndicatorIf_eq (decide (clipsAhead x.sound (x.sound.periodLen - x.sound.periodPos) ≠ 0)) .clip x
  refine ⟨i, ?_, by rw [hi]⟩
  rw [beginBoundary, swapStaged_eq, liftWaits_tracks, endPeriod, playSamples, hi]
  rfl

theorem begunTracks_queue (x : Lane) (e : Essence) :
    ((begunTracks x).get e).queue = (x.tracks.get e).queue ∧ ((begunTracks x).get e).fetch = (x.tracks.get e).fetch := by
  unfold begunTracks
  cases e <;> split <;> exact ⟨rfl, rfl⟩

/-- A lane at its boundary, ahead of the boundary's own work. -/
def enteredLane (x : Lane) : Lane := windowLane (beginBoundary x)

theorem windowLane_open {x : Lane} (h : x.tally.phase ≠ .closing) : windowLane x = x := if_neg h

theorem lit_windowLane (x : Lane) : Lit x (windowLane x) := by
  unfold windowLane
  split
  · split
    · exact .after (.closedLane _) rfl
    · exact .of_eq rfl
  · exact .refl x

theorem lit_enteredLane (x : Lane) : Lit x (enteredLane x) := by
  obtain ⟨i, h, hi⟩ := beginBoundary_sound x
  refine Lit.trans (y := beginBoundary x) ?_ (lit_windowLane _)
  refine (Lit.setIndicatorIf (decide (clipsAhead x.sound (x.sound.periodLen - x.sound.periodPos) ≠ 0)) .clip x).trans
    (.of_eq ?_)
  rw [h, hi]

theorem dropUnseen_list (r : List Awaiting) (n : Nat) (x : Lane) :
    ∃ u i, dropUnseen r n x = { x with link := { x.link with awaiting := r, unseen := u }, indicators := i } := by
  obtain ⟨i, hi⟩ := setIndicatorIf_eq (decide (n ≠ 0)) .unseen
    { x with link := { x.link with awaiting := r, unseen := saturate16 (x.link.unseen + n) } }
  exact ⟨_, i, by rw [dropUnseen, hi]⟩

theorem closedLane_list (x : Lane) :
    ∃ a u i, closedLane x =
      { x with tally := closedTally x.tally, link := { x.link with awaiting := a, unseen := u }, indicators := i } := by
  obtain ⟨u, i, h⟩ := dropUnseen_list (afterMarks x.link.awaiting)
    (x.link.awaiting.length - (afterMarks x.link.awaiting).length) x
  exact ⟨_, u, i, by rw [closedLane, dropMarked, h]⟩

theorem windowLane_link (x : Lane) :
    ∃ t a n i, windowLane x =
      { x with tally := t, link := { x.link with awaiting := a, unseen := n }, indicators := i } := by
  unfold windowLane
  split
  · split
    · obtain ⟨a, n, i, h⟩ := closedLane_list { x with tally := { x.tally with window := x.tally.window + 1 } }
      exact ⟨_, a, n, i, h⟩
    · exact ⟨_, _, _, _, rfl⟩
  · exact ⟨_, _, _, _, rfl⟩

theorem enteredLane_eq (x : Lane) :
    ∃ t a n i, enteredLane x =
        { x with
          tally := t
          link := { x.link with awaiting := a, unseen := n }
          indicators := i
          sound := begunSound x
          tracks := begunTracks x
          overlay := begunOverlay x } ∧
      (x.tally.phase ≠ .closing → t = x.tally ∧ a = x.link.awaiting ∧ n = x.link.unseen) := by
  obtain ⟨i, h, -⟩ := beginBoundary_sound x
  obtain ⟨t, a, n, i', hwin⟩ := windowLane_link (beginBoundary x)
  rw [h] at hwin
  by_cases hc : x.tally.phase = .closing
  · exact ⟨t, a, n, i', by rw [enteredLane, h, hwin], fun hn => absurd hc hn⟩
  · refine ⟨x.tally, x.link.awaiting, x.link.unseen, i, ?_, fun _ => ⟨rfl, rfl, rfl⟩⟩
    rw [enteredLane, h, windowLane_open (by exact hc)]

/-- The saturated samples of the period light CLIP (R152). -/
theorem enteredLane_clip {x : Lane} (h : clipsAhead x.sound (x.sound.periodLen - x.sound.periodPos) ≠ 0) :
    (enteredLane x).indicators.held &&& indicatorBit .clip ≠ 0 := by
  obtain ⟨i, hb, hi⟩ := beginBoundary_sound x
  refine (lit_windowLane _).bit ?_
  rw [hb]
  show i.held &&& indicatorBit .clip ≠ 0
  rw [hi, decide_eq_true h]
  exact setIndicator_held .clip x

/-! ## What the link takes of a boundary (R115 to R117, R123) -/

/-- The link of a test after one boundary of it. -/
def testedLink (k : Link) : Link :=
  if 0 < k.test.left then sendTest k
  else
    let k1 := { idleLink k with test := { k.test with settle := k.test.settle - 1 } }
    if k.test.settle ≤ 1 then trainLink true (endTest true k1) else k1

/-- The lane once its link has taken a boundary. -/
def linkedLane (pic : Picture) (tiles : List TileUpdate) (map : List Nat) (x : Lane) : Lane :=
  match x.link.state with
  | .locked => recordLane pic tiles map x
  | .testing => { x with link := testedLink x.link }
  | .down => { x with link := idleLink x.link }
  | .training => { x with link := idleLink x.link }

theorem testBoundary_lane_self (l : LaneId) (s : State) :
    (testBoundary l s).lane l = { s.lane l with link := testedLink (s.lane l).link } := by
  unfold testBoundary testedLink
  dsimp only
  split
  · rw [modLink_lane]
  · split
    · rw [completeTest, offerLink_lane, modLink_lane, modLink_lane]
    · rw [modLink_lane]

theorem linkBoundary_lane_self (l : LaneId) (pic : Picture) (tiles : List TileUpdate) (map : List Nat) (s : State) :
    (linkBoundary l pic tiles map s).lane l = linkedLane pic tiles map (s.lane l) := by
  unfold linkBoundary linkedLane
  cases (s.lane l).link.state
  · exact modLink_lane l _ s
  · exact modLink_lane l _ s
  · exact sendRecord_lane_self l pic tiles map s
  · exact testBoundary_lane_self l s

/-- The overlay once a record has gone out: its palettes sent and its tile map the record's. -/
def sentOverlay (map : List Nat) (x : Lane) : Overlay :=
  if x.link.state = .locked then { clearPalettes x.overlay with tileMap := map } else x.overlay

/-- The list with room for one more entry (R117). -/
def roomyList (x : Lane) : List Awaiting :=
  if 8 ≤ x.link.awaiting.length then x.link.awaiting.drop 1 else x.link.awaiting

theorem makeRoom_list (x : Lane) :
    ∃ u i, makeRoom x =
      { x with link := { x.link with awaiting := roomyList x, unseen := u }, indicators := i } := by
  unfold makeRoom roomyList
  by_cases h : 8 ≤ x.link.awaiting.length
  · rw [if_pos (by exact h), if_pos h]
    exact dropUnseen_list _ 1 x
  · rw [if_neg (by exact h), if_neg h]
    exact ⟨x.link.unseen, x.indicators, rfl⟩

theorem drainedLane_list (x : Lane) :
    ∃ t a u i, drainedLane x =
        { x with tally := t, link := { x.link with awaiting := a, unseen := u }, indicators := i } ∧
      (x.tally.phase ≠ .closing → t = x.tally ∧ a = x.link.awaiting) := by
  unfold drainedLane
  split
  · next h =>
    obtain ⟨a, u, i, hx⟩ := closedLane_list x
    exact ⟨_, a, u, i, hx, fun hn => absurd h.1 hn⟩
  · exact ⟨_, _, _, _, rfl, fun _ => ⟨rfl, rfl⟩⟩

theorem recordLane_eq {pic : Picture} {tiles : List TileUpdate} {map : List Nat} {x : Lane} (hk : x.link.state = .locked) :
    ∃ t a n e i, recordLane pic tiles map x =
        { x with
          tally := t
          indicators := i
          link :=
            { x.link with
              forward := .frame (frameRecord pic tiles x)
              seq := nextSeq x.link.seq
              frameHeld := x.link.frameHeld || decide (pic.kind = .real)
              unseen := n
              awaiting := a ++ [⟨x.link.seq, x.p, e, decide (t.phase = .running)⟩] }
          overlay := sentOverlay map x } ∧
      (x.tally.phase ≠ .closing → t = x.tally ∧ a = roomyList x) := by
  obtain ⟨n, i, hroom⟩ := makeRoom_list x
  obtain ⟨t, a, n', i', hdr, hopen⟩ := drainedLane_list (makeRoom x)
  rw [hroom] at hdr hopen
  refine ⟨t, a, n', decide (pic.kind = .real) && frameEligible { x with tally := t } x.p, i', ?_, fun h => hopen h⟩
  rw [recordLane, hroom, hdr, sentOverlay, if_pos hk]
  rfl

theorem linkedLane_eq (pic : Picture) (tiles : List TileUpdate) (map : List Nat) (x : Lane) :
    ∃ t k i, linkedLane pic tiles map x =
        { x with tally := t, link := k, indicators := i, overlay := sentOverlay map x } ∧
      (x.tally.phase ≠ .closing → t = x.tally) := by
  have hother {k : Link} (h : x.link.state ≠ .locked) :
      { x with link := k } = { x with link := k, overlay := sentOverlay map x } := by
    rw [sentOverlay, if_neg h]
  unfold linkedLane
  split
  · next h =>
    obtain ⟨t, a, n, e, i, hr, hopen⟩ := recordLane_eq (pic := pic) (tiles := tiles) (map := map) h
    exact ⟨t, _, i, hr, fun hp => (hopen hp).1⟩
  · next h => exact ⟨_, _, _, hother (by rw [h]; decide), fun _ => rfl⟩
  · next h => exact ⟨_, _, _, hother (by rw [h]; decide), fun _ => rfl⟩
  · next h => exact ⟨_, _, _, hother (by rw [h]; decide), fun _ => rfl⟩

theorem linkedLane_locked {pic : Picture} {tiles : List TileUpdate} {map : List Nat} {x : Lane}
    (h : x.link.state = .locked) : linkedLane pic tiles map x = recordLane pic tiles map x := by
  unfold linkedLane
  rw [h]

theorem linkedLane_testing {pic : Picture} {tiles : List TileUpdate} {map : List Nat} {x : Lane}
    (h : x.link.state = .testing) : linkedLane pic tiles map x = { x with link := testedLink x.link } := by
  unfold linkedLane
  rw [h]

theorem lit_linkedLane (pic : Picture) (tiles : List TileUpdate) (map : List Nat) (x : Lane) :
    Lit x (linkedLane pic tiles map x) := by
  have hroom : Lit x (makeRoom x) := by
    unfold makeRoom
    split
    · exact .dropUnseen _ _ x
    · exact .refl x
  unfold linkedLane
  split
  · exact (hroom.trans (.drainedLane _)).trans (.of_eq rfl)
  · exact .of_eq rfl
  · exact .of_eq rfl
  · exact .of_eq rfl

theorem testedLink_unlocked {k : Link} (h : k.state = .testing) : (testedLink k).state ≠ .locked := by
  unfold testedLink
  dsimp only
  split
  · exact fun hh => nomatch h.symm.trans hh
  · split
    · exact fun hh => nomatch hh
    · exact fun hh => nomatch h.symm.trans hh

/-- The boundary's record leaves whether the link is good (R25). -/
theorem linkedLane_good (pic : Picture) (tiles : List TileUpdate) (map : List Nat) (x : Lane) :
    linkGood (linkedLane pic tiles map x) = linkGood x := by
  have hbad {y : Lane} (h : y.link.state ≠ .locked) : linkGood y = false := by
    unfold linkGood
    rw [decide_eq_false h, Bool.false_and]
  unfold linkedLane
  split
  · next h =>
    obtain ⟨t, a, n, e, i, hr, -⟩ := recordLane_eq (pic := pic) (tiles := tiles) (map := map) h
    rw [hr]
    rfl
  · next h => rw [hbad (testedLink_unlocked h), hbad (by rw [h]; decide)]
  · rfl
  · rfl

/-! ## A boundary up to the look at the slot -/

/-- The state at a lane's boundary, ahead of the boundary's own work. -/
def entered (l : LaneId) (s : State) : State := windowTick l (s.modLane l beginBoundary)

theorem entered_lane_self (l : LaneId) (s : State) : (entered l s).lane l = enteredLane (s.lane l) := by
  rw [entered, windowTick_lane_self, State.lane_modLane_self]
  rfl

/-- `u` is what the boundary of a lane leaves, whose own work has left the state `w` and the lane `y`. -/
structure Bounded (l : LaneId) (s : State) (y : Lane) (w u : State) : Prop where
  lane : ∃ n, u.lane l = { rollPeriod y with statusCount := n }
  licences : u.licences = w.licences
  kept : boundaryKept l s u
  ring : RingWork 0 w u
  mem : shapeOk w → memKept (eventAreas w l) w u

theorem boundaryStatus_licences (l : LaneId) (s t : State) : (boundaryStatus l s t).licences = t.licences := by
  unfold boundaryStatus
  dsimp only
  split
  · rfl
  · exact writeLaneStatus_licences l (noteChanges s t)

theorem boundaryStatus_ring (l : LaneId) (s t : State) : RingWork 0 t (boundaryStatus l s t) := by
  have hmark (u : State) : RingWork 0 u { u with recordChanged := u.recordChanged.set l false } :=
    .quiet (areas := []) rfl id rfl (fun _ => memKept_of_host rfl) fun _ hr => nomatch hr
  unfold boundaryStatus
  dsimp only
  refine RingWork.trans ?_ (hmark _)
  split
  · exact noteChanges_ring s t
  · exact (noteChanges_ring s t).trans (writeLaneStatus_ring l _)

theorem boundary_bounded {l : LaneId} {s : State} {y : Lane} (hc : s.clockUnit.source ≠ .acquiring)
    (hy : bare ((boundaryWork l (entered l s)).lane l) = bare y) :
    ∃ u, exec (.frameBoundary l) s = .next (boundaryLook l false u) ∧ Bounded l s y (boundaryWork l (entered l s)) u := by
  have hbody : boundaryBody l s = (boundaryWork l (entered l s)).modLane l rollPeriod := rfl
  have hall := (boundaryBody_work (l := l) (s := s) (more := partAreas (s.lane l)) (List.Subset.refl _)).trans
    (boundaryStatus_work l _ s (boundaryBody l s))
  have hexec : exec (.frameBoundary l) s = .next (boundaryLook l false (boundaryStatus l s (boundaryBody l s))) :=
    congrArg Host.Outcome.next (boundary_eq hc)
  refine ⟨_, hexec, ?_⟩
  have hrest : LaneWork l [] (boundaryWork l (entered l s)) (boundaryStatus l s (boundaryBody l s)) := by
    rw [hbody]
    exact (LaneWork.watchedLane [] rfl).trans (boundaryStatus_work l [] s _)
  have hring : RingWork 0 (boundaryWork l (entered l s)) (boundaryStatus l s (boundaryBody l s)) := by
    rw [hbody]
    exact (modLane_ring_of_shape id).trans (boundaryStatus_ring l s _)
  have hlic : (boundaryStatus l s (boundaryBody l s)).licences = (boundaryWork l (entered l s)).licences := by
    rw [boundaryStatus_licences, hbody]
    rfl
  have hlane : bare ((boundaryStatus l s (boundaryBody l s)).lane l) = bare (rollPeriod y) := by
    rw [boundaryStatus_bare, hbody, State.lane_modLane_self]
    obtain ⟨n, hn⟩ := eq_of_bare hy
    rw [hn]
    rfl
  generalize boundaryStatus l s (boundaryBody l s) = u at hall hexec hrest hring hlic hlane
  exact ⟨eq_of_bare hlane, hlic, ⟨hall.rest, hall.mem⟩, hring, fun hs => by
    have := hrest.mem hs
    rwa [List.append_nil] at this⟩

theorem Bounded.unlooked {l : LaneId} {s w u : State} {y : Lane} (h : Bounded l s y w u) (hy : looksAtSlot y.state = false) :
    boundaryLook l false u = u := by
  obtain ⟨n, hn⟩ := h.lane
  have hno : ¬ (u.device = .running ∧ looksAtSlot (u.lane l).state = true) := fun hh => by
    rw [hn] at hh
    exact absurd (hy.symm.trans hh.2) Bool.false_ne_true
  rw [boundaryLook, if_neg hno, noteChanges_self]

/-! ## The boundary's own work by the lane's state -/

theorem entered_state (l : LaneId) (s : State) : ((entered l s).lane l).state = (s.lane l).state := by
  obtain ⟨t, a, n, i, h, -⟩ := enteredLane_eq (s.lane l)
  rw [entered_lane_self, h]

/-- The lane after a boundary whose work is a record alone. -/
def idleLane (x : Lane) : Lane := linkedLane blackClosed (clearUpdates x.overlay.tileMap) [] x

/-- The lane after the record of a boundary at which a hold is taken or a fault met. -/
def heldLane (x : Lane) : Lane := linkedLane blackClosed [] x.overlay.tileMap x

theorem idleRecord_lane_self (l : LaneId) (s : State) : (idleRecord l s).lane l = idleLane (s.lane l) :=
  linkBoundary_lane_self l _ _ _ s

theorem heldRecord_lane_self (l : LaneId) (s : State) : (heldRecord l s).lane l = heldLane (s.lane l) :=
  linkBoundary_lane_self l _ _ _ s

/-- The states whose boundary is a record alone. -/
def restsAtBoundary : LaneState → Bool
  | .playing => false
  | .loading => false
  | .held => false
  | .seeking => false
  | _ => true

theorem boundaryWork_rests {l : LaneId} {s : State} (h : restsAtBoundary (s.lane l).state = true) :
    boundaryWork l s = idleRecord l s := by
  unfold boundaryWork
  split
  case h_1 h' | h_2 h' | h_3 h' | h_4 h' => rw [h'] at h; cases h
  all_goals rfl

theorem takeHold_bare (l : LaneId) (h : HoldRecord) (s : State) :
    bare ((takeHold l h s).lane l) =
      bare { settleLane .held h.cause (s.lane l) with holdTimer := 0, holdLimit := laneHoldLimit (s.lane l) } :=
  changeState_bare l .held h.cause _ s

end Sys2Proof.Machine
end

section
/-! A presenting boundary as a function of the lane, and what every boundary keeps of the lane's sound
(R15, R65 to R69, R145 to R149). -/

namespace Sys2Proof.Machine

/-! ## The record of a boundary -/

theorem checkDrained_licences_open {l : LaneId} {s : State} (h : (s.lane l).tally.phase ≠ .closing) :
    (checkDrained l s).licences = s.licences := by
  unfold checkDrained
  rw [if_neg fun hh => h hh.1]

theorem linkBoundary_licences {l : LaneId} {s : State} (pic : Picture) (tiles : List TileUpdate) (map : List Nat)
    (h : (s.lane l).tally.phase ≠ .closing) : (linkBoundary l pic tiles map s).licences = s.licences := by
  unfold linkBoundary
  split
  · have hroom : ((s.modLane l makeRoom).lane l).tally.phase ≠ .closing := by
      obtain ⟨u, i, hr⟩ := makeRoom_list (s.lane l)
      rw [State.lane_modLane_self, hr]
      exact h
    exact checkDrained_licences_open hroom
  · unfold testBoundary
    dsimp only
    split
    · rfl
    · split
      · rw [completeTest, offerLink, offer_licences]
        rfl
      · rfl
  · rfl
  · rfl

theorem entered_open {l : LaneId} {s : State} (h : (s.lane l).tally.phase ≠ .closing) :
    entered l s = s.modLane l beginBoundary := by
  have hphase : ((s.modLane l beginBoundary).lane l).tally.phase ≠ .closing := by
    obtain ⟨i, hb, -⟩ := beginBoundary_sound (s.lane l)
    rw [State.lane_modLane_self, hb]
    exact h
  rw [entered, windowTick, if_neg hphase]

theorem enteredLane_open {x : Lane} (h : x.tally.phase ≠ .closing) : (enteredLane x).tally = x.tally := by
  obtain ⟨t, a, n, i, hx, hopen⟩ := enteredLane_eq x
  rw [hx]
  exact (hopen h).1

/-! ## What a presenting boundary makes of the lane, up to the scan of its cues -/

/-- The lane with the stores of its reel current and the active cues of P selected (R133, R134). -/
def markedLane (sh : Show) (x : Lane) : Lane := selectActive sh (storesAtReelStart x)

/-- The lane ahead of its record, CONCEALED set where no real frame is shown (R66). -/
def aheadLane (sh : Show) (x : Lane) : Lane :=
  setIndicatorIf (!decide ((presentPicture (markedLane sh x)).kind = .real)) .concealed (markedLane sh x)

/-- The tile map that the record of P leaves (R141). -/
def presentMap (sh : Show) (x : Lane) : List Nat :=
  if x.link.state = .locked then litTiles (presentTiles sh x) else x.overlay.tileMap

/-- The lane once the record of P has gone out. -/
def recordedLane (sh : Show) (x : Lane) : Lane :=
  linkedLane (presentPicture (markedLane sh x)) (presentTiles sh (aheadLane sh x)) (presentMap sh (aheadLane sh x))
    (aheadLane sh x)

/-- The lane once the sound of P is routed. -/
def routedLane (sh : Show) (x : Lane) : Lane :=
  presentSound (soundFor sh (markedLane sh x) .main (markedLane sh x).p)
    (soundFor sh (markedLane sh x) .aux (markedLane sh x).p) (recordedLane sh x)

/-- The state once the sound of P is routed. -/
def routed (l : LaneId) (sh : Show) (s : State) : State :=
  (presentRecord l sh (presentPicture (markedLane sh (s.lane l))) (presentAhead l sh s)).modLane l
    (presentSound (soundFor sh (markedLane sh (s.lane l)) .main (markedLane sh (s.lane l)).p)
      (soundFor sh (markedLane sh (s.lane l)) .aux (markedLane sh (s.lane l)).p))

theorem journalReelStart_lane (l : LaneId) (s : State) (m : LaneId) : (journalReelStart l s).lane m = s.lane m := by
  unfold journalReelStart
  dsimp only
  split
  · rfl
  · split
    · exact offer_lane _ _ _
    · rfl

theorem presentAhead_lane_self (l : LaneId) (sh : Show) (s : State) :
    (presentAhead l sh s).lane l = aheadLane sh (s.lane l) := by
  unfold presentAhead
  dsimp only
  rw [State.lane_modLane_self, State.lane_modLane_self, journalReelStart_lane]
  rfl

theorem routed_lane_self (l : LaneId) (sh : Show) (s : State) : (routed l sh s).lane l = routedLane sh (s.lane l) := by
  rw [routed, State.lane_modLane_self, presentRecord, linkBoundary_lane_self, presentAhead_lane_self]
  rfl

theorem presented_eq (l : LaneId) (sh : Show) (s : State) :
    presented l sh s = cueScan l (markedLane sh (s.lane l)).p sh.total (routed l sh s) := by
  have hm : ((journalReelStart l s).modLane l fun x => selectActive sh (storesAtReelStart x)).lane l =
      markedLane sh (s.lane l) := by
    rw [State.lane_modLane_self, journalReelStart_lane]
    rfl
  unfold presented
  dsimp only
  rw [hm]
  rfl

theorem presentFrame_parts (l : LaneId) (sh : Show) (s : State) :
    presentFrame l sh s =
      afterAdvance l sh
        ((presented l sh s).modLane l
          (advanceLane sh (decide ((presentPicture (markedLane sh (s.lane l))).kind = .real)))) := by
  have hm : ((journalReelStart l s).modLane l fun x => selectActive sh (storesAtReelStart x)).lane l =
      markedLane sh (s.lane l) := by
    rw [State.lane_modLane_self, journalReelStart_lane]
    rfl
  unfold presentFrame presented presentAhead
  dsimp only
  rw [hm]

theorem dropWanted_eq (t : Subtitle) (r : Nat) (x : Lane) : ∃ w, dropWanted t r x = { x with subWanted := w } := by
  unfold dropWanted
  split
  · exact ⟨_, rfl⟩
  · exact ⟨_, rfl⟩

theorem askStore_lane (reel : Nat) (x : Lane) (pl : Place) :
    ∃ o i, askStore reel x pl = { x with overlay := o, indicators := i } := by
  obtain ⟨i, hi⟩ := setIndicatorIf_eq (decide ((askedStore x.loaded reel (placeTrack pl)).state = .lost)) .subtitleLost
    (putStore pl (askedStore x.loaded reel (placeTrack pl)) x)
  exact ⟨_, i, by rw [askStore_eq, hi]; rfl⟩

theorem succession_eq (i : Nat) (x : Lane) :
    ∃ o w j, succession i x = { x with overlay := o, subWanted := w, indicators := j } := by
  obtain ⟨w, hw⟩ := dropWanted_eq .one (servedReel x) x
  obtain ⟨w', hw'⟩ := dropWanted_eq .two (servedReel x) (dropWanted .one (servedReel x) x)
  unfold succession
  dsimp only [List.foldl_cons, List.foldl_nil]
  obtain ⟨o, j, h1⟩ := askStore_lane (i + 1)
    { dropWanted .two (servedReel x) (dropWanted .one (servedReel x) x) with
      overlay :=
        { (dropWanted .two (servedReel x) (dropWanted .one (servedReel x) x)).overlay with
          current1 := (dropWanted .two (servedReel x) (dropWanted .one (servedReel x) x)).overlay.next1
          current2 := (dropWanted .two (servedReel x) (dropWanted .one (servedReel x) x)).overlay.next2 } } .next1
  rw [h1]
  obtain ⟨o', j', h2⟩ := askStore_lane (i + 1)
    { dropWanted .two (servedReel x) (dropWanted .one (servedReel x) x) with overlay := o, indicators := j } .next2
  refine ⟨{ o' with palettePending := ⟨true, true⟩ }, w', j', ?_⟩
  rw [h2, hw', hw]
  rfl

theorem lit_askStore (reel : Nat) (x : Lane) (pl : Place) : Lit x (askStore reel x pl) := by
  rw [askStore_eq]
  exact .after (.setIndicatorIf _ _ _) rfl

theorem lit_succession (i : Nat) (x : Lane) : Lit x (succession i x) := by
  obtain ⟨w, hw⟩ := dropWanted_eq .one (servedReel x) x
  obtain ⟨w', hw'⟩ := dropWanted_eq .two (servedReel x) (dropWanted .one (servedReel x) x)
  unfold succession
  refine Lit.after (.trans (lit_askStore (i + 1) _ .next1) (.trans (lit_askStore (i + 1) _ .next2) (.of_eq rfl))) ?_
  rw [hw', hw]

theorem storesAtReelStart_eq (x : Lane) :
    ∃ o w i, storesAtReelStart x = { x with overlay := o, subWanted := w, indicators := i } := by
  unfold storesAtReelStart
  split
  · exact ⟨_, _, _, rfl⟩
  · split
    · exact ⟨_, _, _, rfl⟩
    · split
      · exact succession_eq _ x
      · exact ⟨_, _, _, rfl⟩

theorem lit_storesAtReelStart (x : Lane) : Lit x (storesAtReelStart x) := by
  unfold storesAtReelStart
  split
  · exact .refl x
  · split
    · exact .refl x
    · split
      · exact lit_succession _ x
      · exact .of_eq rfl

theorem selectActive_eq (sh : Show) (x : Lane) :
    ∃ a i, selectActive sh x = { x with overlay := { x.overlay with active := a }, indicators := i } := by
  unfold selectActive
  split
  · exact ⟨_, _, rfl⟩
  · obtain ⟨i, hi⟩ := setIndicatorIf_eq _ _ _
    exact ⟨_, i, hi⟩

theorem lit_selectActive (sh : Show) (x : Lane) : Lit x (selectActive sh x) := by
  unfold selectActive
  split
  · exact .refl x
  · exact .after (.setIndicatorIf _ _ _) rfl

theorem markedLane_eq (sh : Show) (x : Lane) :
    ∃ o w i, markedLane sh x = { x with overlay := o, subWanted := w, indicators := i } := by
  obtain ⟨o, w, i, h⟩ := storesAtReelStart_eq x
  obtain ⟨a, j, hs⟩ := selectActive_eq sh (storesAtReelStart x)
  exact ⟨_, w, j, by rw [markedLane, hs, h]⟩

theorem aheadLane_eq (sh : Show) (x : Lane) : ∃ i, aheadLane sh x = { markedLane sh x with indicators := i } :=
  setIndicatorIf_eq _ _ _

theorem presentSound_eq (m a : SoundResult) (x : Lane) :
    ∃ i, presentSound m a x =
      { x with indicators := i, sound := { x.sound with period := x.sound.routing.map (sourceSamples m a) } } := by
  obtain ⟨i, hi⟩ := setIndicatorIf_eq (decide (m = .gap) || decide (a = .gap)) .soundGap
    { x with sound := { x.sound with period := x.sound.routing.map (sourceSamples m a) } }
  exact ⟨i, hi⟩

/-- All that a presenting boundary leaves of the lane up to the scan of its cues. -/
theorem routedLane_eq (sh : Show) (x : Lane) :
    ∃ t k o w i, routedLane sh x =
        { x with
          tally := t
          link := k
          overlay := o
          subWanted := w
          indicators := i
          sound :=
            { x.sound with
              period := x.sound.routing.map (sourceSamples (soundFor sh (markedLane sh x) .main (markedLane sh x).p)
                (soundFor sh (markedLane sh x) .aux (markedLane sh x).p)) } } ∧
      (x.tally.phase ≠ .closing → t = x.tally) := by
  obtain ⟨o, w, i, hm⟩ := markedLane_eq sh x
  obtain ⟨j, ha⟩ := aheadLane_eq sh x
  obtain ⟨t, k, i', hl, hopen⟩ := linkedLane_eq (presentPicture (markedLane sh x)) (presentTiles sh (aheadLane sh x))
    (presentMap sh (aheadLane sh x)) (aheadLane sh x)
  obtain ⟨i'', hs⟩ := presentSound_eq (soundFor sh (markedLane sh x) .main (markedLane sh x).p)
    (soundFor sh (markedLane sh x) .aux (markedLane sh x).p) (recordedLane sh x)
  have hrec : recordedLane sh x = _ := hl
  rw [hrec] at hs
  have hah : aheadLane sh x = { x with overlay := o, subWanted := w, indicators := j } := by rw [ha, hm]
  refine ⟨t, k, sentOverlay (presentMap sh (aheadLane sh x)) (aheadLane sh x), w, i'', ?_, fun h => ?_⟩
  · rw [routedLane, hrec, hs]
    generalize sentOverlay (presentMap sh (aheadLane sh x)) (aheadLane sh x) = q
    generalize soundFor sh (markedLane sh x) .main (markedLane sh x).p = m
    generalize soundFor sh (markedLane sh x) .aux (markedLane sh x).p = a
    rw [hah]
  · rw [hopen (by rw [hah]; exact h), hah]

theorem lit_routedLane (sh : Show) (x : Lane) : Lit x (routedLane sh x) := by
  have hmarked : Lit x (markedLane sh x) := (lit_storesAtReelStart x).trans (lit_selectActive sh _)
  have hahead : Lit x (aheadLane sh x) := hmarked.trans (.setIndicatorIf _ _ _)
  have hrec : Lit x (recordedLane sh x) := hahead.trans (lit_linkedLane _ _ _ _)
  exact hrec.trans (.after (.setIndicatorIf _ _ _) rfl)

/-! ## The scan of the cues, in outline (R157) -/

/-- The scan of the cues changes a lane's marks, contacts and indicators alone. -/
structure Scanned (x y : Lane) : Prop where
  lane : ∃ c b i, y = { x with scanner := c, contacts := b, indicators := i }
  lit : Lit x y

theorem Scanned.refl (x : Lane) : Scanned x x := ⟨⟨_, _, _, rfl⟩, .refl x⟩

theorem Scanned.trans {x y z : Lane} (h : Scanned x y) (k : Scanned y z) : Scanned x z := by
  obtain ⟨⟨c, b, i, hy⟩, hl⟩ := h
  obtain ⟨⟨c', b', i', hz⟩, kl⟩ := k
  exact ⟨⟨c', b', i', by rw [hz, hy]⟩, hl.trans kl⟩

theorem modScanner_scanned (l : LaneId) (f : CueScanner → CueScanner) (s : State) :
    Scanned (s.lane l) ((modScanner l f s).lane l) := by
  rw [modScanner, State.lane_modLane_self]
  exact ⟨⟨_, _, _, rfl⟩, .of_eq rfl⟩

theorem writePart_scanned (l : LaneId) (s : State) (i : Nat) : Scanned (s.lane l) ((writePart l s i).lane l) := by
  obtain ⟨w, h⟩ := (writePart_written l s i).lane
  rw [h]
  exact ⟨⟨_, _, _, rfl⟩, .of_eq rfl⟩

theorem judgeCue_scanned (l : LaneId) (p n : Nat) (s : State) (e : Nat × HostWord) :
    Scanned (s.lane l) ((judgeCue l p n s e).lane l) := by
  unfold judgeCue
  split
  · exact .refl _
  · split
    · exact .refl _
    · split
      · have hfire (f : Lane → Lane) (hf : Scanned (s.lane l) (f (s.lane l))) :
            Scanned (s.lane l) ((writePart l (s.modLane l f) e.1).lane l) := by
          have := writePart_scanned l (s.modLane l f) e.1
          rw [State.lane_modLane_self] at this
          exact hf.trans this
        rw [fireCue, offer_lane]
        exact hfire _ ⟨⟨_, _, _, rfl⟩, .of_eq rfl⟩
      · rw [missCue, offer_lane, raise, State.lane_modLane_self]
        refine ((modScanner_scanned l (setMark e.1 (.missed p e.2.position)) s).trans (writePart_scanned l _ e.1)).trans ?_
        exact ⟨⟨_, _, _, rfl⟩, .setIndicator _ _⟩

theorem foldl_scanned {α : Type} {l : LaneId} {f : State → α → State}
    (h : ∀ s a, Scanned (s.lane l) ((f s a).lane l)) (as : List α) (s : State) :
    Scanned (s.lane l) ((as.foldl f s).lane l) :=
  foldl_induction (R := fun s t : State => Scanned (s.lane l) (t.lane l)) (fun _ => .refl _)
    (fun _ _ _ => .trans) h as s

theorem cueScan_scanned (l : LaneId) (p n : Nat) (s : State) : Scanned (s.lane l) ((cueScan l p n s).lane l) := by
  unfold cueScan
  split
  · exact .refl _
  · split
    · exact modScanner_scanned l _ s
    · exact ((modScanner_scanned l _ s).trans (foldl_scanned (writePart_scanned l) _ _)).trans
        (foldl_scanned (judgeCue_scanned l p n) _ _)

theorem foldl_licences {α : Type} {f : State → α → State} (h : ∀ s a, (f s a).licences = s.licences) (as : List α)
    (s : State) : (as.foldl f s).licences = s.licences :=
  foldl_induction (R := fun s t : State => t.licences = s.licences) (fun _ => rfl)
    (fun _ _ _ h k => k.trans h) h as s

theorem judgeCue_licences (l : LaneId) (p n : Nat) (s : State) (e : Nat × HostWord) :
    (judgeCue l p n s e).licences = s.licences := by
  unfold judgeCue
  split
  · rfl
  · split
    · rfl
    · split
      · rw [fireCue, offer_licences]
        exact (writePart_written l _ e.1).licences
      · rw [missCue, offer_licences]
        exact (writePart_written l _ e.1).licences

theorem cueScan_licences (l : LaneId) (p n : Nat) (s : State) : (cueScan l p n s).licences = s.licences := by
  unfold cueScan
  split
  · rfl
  · split
    · rfl
    · exact (foldl_licences (judgeCue_licences l p n) _ _).trans (writeParts_written l _ _).licences

/-! ## The ends that a presentation can bring (R17, R24, R25) -/

/-- The lane of a presenting boundary once P has advanced. -/
def advancedLane (sh : Show) (x : Lane) : Lane :=
  if sh.total ≤ x.p then settleLane .ended .complete (runEndLane .complete x)
  else if x.options.linkGrace < x.linkGrace then stoppedLane .linkLost x
  else if x.options.starveLimit < x.starveRun then stoppedLane .starved x
  else x

theorem completeShow_bare (l : LaneId) (s : State) :
    bare ((completeShow l s).lane l) = bare (settleLane .ended .complete (runEndLane .complete (s.lane l))) := by
  unfold completeShow
  dsimp only
  rw [enterState_bare, runEnd_lane_self]
  split
  · split
    · rw [offer_lane]
    · rfl
  · rfl

theorem afterAdvance_bare (l : LaneId) (sh : Show) (s : State) :
    bare ((afterAdvance l sh s).lane l) = bare (advancedLane sh (s.lane l)) := by
  unfold afterAdvance advancedLane
  dsimp only
  split
  · exact completeShow_bare l s
  · split
    · exact stopLane_bare l .linkLost s
    · split
      · exact stopLane_bare l .starved s
      · rfl

theorem presentFrame_bare (l : LaneId) (sh : Show) (s : State) :
    ∃ c, Scanned (routedLane sh (s.lane l)) c ∧ c = (presented l sh s).lane l ∧
      bare ((presentFrame l sh s).lane l) =
        bare (advancedLane sh (advanceLane sh (decide ((presentPicture (markedLane sh (s.lane l))).kind = .real)) c)) := by
  refine ⟨(presented l sh s).lane l, ?_, rfl, ?_⟩
  · rw [presented_eq, ← routed_lane_self]
    exact cueScan_scanned l _ _ _
  · rw [presentFrame_parts, afterAdvance_bare, State.lane_modLane_self]

end Sys2Proof.Machine
end

section
/-! What the boundary's own work keeps of the lane's sound (R145 to R153). -/

namespace Sys2Proof.Machine

/-- What work of a boundary keeps of a lane's sound: the samples played, the map, the period's bounds; the lines
too, unless `cut` says that they are cleared. -/
structure SoundStep (cut : Bool) (x y : Lane) : Prop where
  sound : ∃ p t a m, y.sound = { x.sound with period := p, target := t, applied := a, silenced := m }
  level : y.level = x.level
  lit : Lit x y
  lines : cut = false → y.sound.silenced = x.sound.silenced
  aimed : aimedFor (decide (x.state = .playing)) x → aimedFor (decide (y.state = .playing)) y

namespace SoundStep

theorem trans {cut : Bool} {x y z : Lane} (h : SoundStep cut x y) (k : SoundStep cut y z) : SoundStep cut x z where
  sound := by
    obtain ⟨p, t, a, m, hy⟩ := h.sound
    obtain ⟨p', t', a', m', hz⟩ := k.sound
    exact ⟨p', t', a', m', by rw [hz, hy]⟩
  level := k.level.trans h.level
  lit := h.lit.trans k.lit
  lines hc := (k.lines hc).trans (h.lines hc)
  aimed := k.aimed ∘ h.aimed

/-- A change that leaves the sound, the level and the state. -/
theorem of_sound {cut : Bool} {x y : Lane} (hs : y.sound = x.sound) (hl : y.level = x.level) (hst : y.state = x.state)
    (hi : Lit x y) : SoundStep cut x y :=
  ⟨⟨x.sound.period, x.sound.target, x.sound.applied, x.sound.silenced, hs⟩, hl, hi, fun _ => by rw [hs], fun h => by
    rw [aimedFor, hs, hl, hst]
    exact h⟩

theorem refl (cut : Bool) (x : Lane) : SoundStep cut x x := .of_sound rfl rfl rfl (.refl x)

theorem of_bare {cut : Bool} {x y z : Lane} (h : SoundStep cut x y) (hz : bare z = bare y) : SoundStep cut x z := by
  obtain ⟨n, rfl⟩ := eq_of_bare hz
  exact h.trans (.of_sound rfl rfl rfl (.of_eq rfl))

theorem settle (cut : Bool) (st : LaneState) (c : Cause) (x : Lane) : SoundStep cut x (settleLane st c x) :=
  ⟨⟨_, _, _, _, rfl⟩, rfl, .of_eq rfl, fun _ => rfl, fun _ => rfl⟩

theorem runEnd (cut : Bool) (c : Cause) (x : Lane) : SoundStep cut x (runEndLane c x) := by
  have hlit := Lit.runEndLane c x
  obtain ⟨t, k, i, h⟩ := runEndLane_eq c x
  rw [h] at hlit ⊢
  exact .of_sound rfl rfl rfl hlit

theorem stopped (cut : Bool) (c : Cause) (x : Lane) : SoundStep cut x (stoppedLane c x) := by
  unfold stoppedLane
  dsimp only
  split
  · exact ((SoundStep.runEnd cut c x).trans (.settle cut _ _ _)).trans (.settle cut _ _ _)
  · exact (SoundStep.runEnd cut c x).trans (.settle cut _ _ _)

theorem linked (cut : Bool) (pic : Picture) (tiles : List TileUpdate) (map : List Nat) (x : Lane) :
    SoundStep cut x (linkedLane pic tiles map x) := by
  have hlit := lit_linkedLane pic tiles map x
  obtain ⟨t, k, i, h, -⟩ := linkedLane_eq pic tiles map x
  rw [h] at hlit ⊢
  exact .of_sound rfl rfl rfl hlit

theorem routed (cut : Bool) (sh : Show) (x : Lane) : SoundStep cut x (routedLane sh x) := by
  have hlit := lit_routedLane sh x
  obtain ⟨t, k, o, w, i, h, -⟩ := routedLane_eq sh x
  rw [h] at hlit ⊢
  exact ⟨⟨_, _, _, _, rfl⟩, rfl, hlit, fun _ => rfl, id⟩

theorem scanned (cut : Bool) {x y : Lane} (h : Scanned x y) : SoundStep cut x y := by
  obtain ⟨⟨c, b, i, rfl⟩, hlit⟩ := h
  exact .of_sound rfl rfl rfl hlit

theorem advanced (cut : Bool) (sh : Show) (real : Bool) (x : Lane) :
    SoundStep cut x (advancedLane sh (advanceLane sh real x)) := by
  have hstep : SoundStep cut x (advanceLane sh real x) := .of_sound rfl rfl rfl (.of_eq rfl)
  refine hstep.trans ?_
  unfold advancedLane
  split
  · exact (SoundStep.runEnd cut .complete _).trans (.settle cut _ _ _)
  · split
    · exact .stopped cut .linkLost _
    · split
      · exact .stopped cut .starved _
      · exact .refl cut _

end SoundStep

/-! ## The fault's lane (R29) -/

/-- The lane that a STRICT fault leaves (R29, R150). -/
def faultedLane (kind : PoisonKind) (track : TrackKind) (frame : Nat) (x : Lane) : Lane :=
  settleLane .fault .fault
    (runEndLane .fault
      (muteAtOnce
        { x with faultRecord := some ⟨kind, x.p, track, frame, x.indicators.held, reservedLicences x.tally⟩ }))

theorem faultLane_bare (l : LaneId) (kind : PoisonKind) (track : TrackKind) (frame : Nat) (s : State) :
    bare ((faultLane l kind track frame s).lane l) = bare (faultedLane kind track frame (s.lane l)) := by
  unfold faultLane
  dsimp only
  rw [enterState_bare, offer_lane, runEnd_lane_self, State.lane_modLane_self]
  rfl

theorem faultedLane_sound (kind : PoisonKind) (track : TrackKind) (frame : Nat) (x : Lane) :
    SoundStep true x (faultedLane kind track frame x) :=
  SoundStep.trans (y := muteAtOnce
      { x with faultRecord := some ⟨kind, x.p, track, frame, x.indicators.held, reservedLicences x.tally⟩ })
    ⟨⟨_, _, _, _, rfl⟩, rfl, .of_eq rfl, fun h => (nomatch h), id⟩
    ((SoundStep.runEnd true .fault _).trans (.settle true _ _ _))

theorem faultedLane_silenced (kind : PoisonKind) (track : TrackKind) (frame : Nat) (x : Lane) :
    (faultedLane kind track frame x).sound.silenced = true := by
  show (runEndLane .fault _).sound.silenced = true
  rw [runEndLane_sound]
  rfl

/-! ## The boundary's own work -/

/-- A boundary in PLAYING that meets a STRICT fault (R29). -/
def faults (x : Lane) : Bool :=
  decide (x.state = .playing) && !holdDue x && (presentFault x).isSome

theorem idleRecord_sound (cut : Bool) (l : LaneId) (s : State) :
    SoundStep cut (s.lane l) ((idleRecord l s).lane l) := by
  rw [idleRecord_lane_self]
  exact .linked cut _ _ _ _

theorem heldRecord_sound (cut : Bool) (l : LaneId) (s : State) :
    SoundStep cut (s.lane l) ((heldRecord l s).lane l) := by
  rw [heldRecord_lane_self]
  exact .linked cut _ _ _ _

theorem enterState_sound (cut : Bool) (l : LaneId) (st : LaneState) (c : Cause) (s : State) :
    SoundStep cut (s.lane l) ((enterState l st c s).lane l) :=
  (SoundStep.settle cut st c _).of_bare (enterState_bare l st c s)

theorem stopLane_sound (cut : Bool) (l : LaneId) (c : Cause) (s : State) :
    SoundStep cut (s.lane l) ((stopLane l c s).lane l) :=
  (SoundStep.stopped cut c _).of_bare (stopLane_bare l c s)

theorem takeHold_sound (cut : Bool) (l : LaneId) (h : HoldRecord) (s : State) :
    SoundStep cut (s.lane l) ((takeHold l h s).lane l) :=
  SoundStep.of_bare (y := { settleLane .held h.cause (s.lane l) with holdTimer := 0, holdLimit := laneHoldLimit (s.lane l) })
    ((SoundStep.settle cut .held h.cause _).trans (.of_sound rfl rfl rfl (.of_eq rfl))) (takeHold_bare l h s)

theorem presentFrame_sound (cut : Bool) (l : LaneId) (sh : Show) (s : State) :
    SoundStep cut (s.lane l) ((presentFrame l sh s).lane l) := by
  obtain ⟨c, hc, -, hbare⟩ := presentFrame_bare l sh s
  exact (((SoundStep.routed cut sh _).trans (.scanned cut hc)).trans (.advanced cut sh _ c)).of_bare hbare

theorem holdDue_iff {x : Lane} : holdDue x = true ↔ ∃ h, x.hold.filter (fun _ => holdDue x) = some h := by
  constructor
  · intro hd
    cases hh : x.hold with
    | none =>
      unfold holdDue at hd
      rw [hh] at hd
      cases hd
    | some h => exact ⟨h, by rw [hd]; rfl⟩
  · rintro ⟨h, hh⟩
    exact (Option.filter_eq_some_iff.1 hh).2

theorem playingBoundary_hold {l : LaneId} {s : State} {h : HoldRecord} (hh : (s.lane l).hold = some h)
    (hd : holdDue (s.lane l) = true) : playingBoundary l s = holdBoundary l h s := by
  unfold playingBoundary
  dsimp only
  rw [hh, hd]
  rfl

theorem filter_of_notDue {x : Lane} (hd : holdDue x = false) : x.hold.filter (fun _ => holdDue x) = none := by
  rw [hd]
  cases x.hold <;> rfl

theorem playingBoundary_fault {l : LaneId} {s : State} {q : PoisonKind × TrackKind × Nat}
    (hd : holdDue (s.lane l) = false) (hq : presentFault (s.lane l) = some q) :
    playingBoundary l s = faultLane l q.1 q.2.1 q.2.2 (heldRecord l s) := by
  unfold playingBoundary
  dsimp only
  rw [filter_of_notDue hd, hq]

theorem playingBoundary_presents {l : LaneId} {s : State} {sh : Show} (hd : holdDue (s.lane l) = false)
    (hq : presentFault (s.lane l) = none) (hl : (s.lane l).loaded = some sh) :
    playingBoundary l s = presentFrame l sh s := by
  unfold playingBoundary
  dsimp only
  rw [filter_of_notDue hd, hq, hl]

theorem playingBoundary_idle {l : LaneId} {s : State} (hd : holdDue (s.lane l) = false)
    (hq : presentFault (s.lane l) = none) (hl : (s.lane l).loaded = none) : playingBoundary l s = s := by
  unfold playingBoundary
  dsimp only
  rw [filter_of_notDue hd, hq, hl]

theorem boundaryWork_playing {l : LaneId} {s : State} (h : (s.lane l).state = .playing) :
    boundaryWork l s = playingBoundary l s := by
  unfold boundaryWork
  rw [h]

theorem playingBoundary_sound (l : LaneId) (s : State) (h : (s.lane l).state = .playing) :
    SoundStep (faults (s.lane l)) (s.lane l) ((playingBoundary l s).lane l) := by
  cases hd : holdDue (s.lane l) with
  | true =>
    obtain ⟨r, hr⟩ := holdDue_iff.1 hd
    have hrec := heldRecord_sound (faults (s.lane l)) l s
    rw [playingBoundary_hold (Option.filter_eq_some_iff.1 hr).1 hd, holdBoundary]
    split
    · exact hrec.trans (stopLane_sound _ l .linkLost _)
    · exact hrec.trans (takeHold_sound _ l r _)
  | false =>
    cases hq : presentFault (s.lane l) with
    | none =>
      cases hl : (s.lane l).loaded with
      | none =>
        rw [playingBoundary_idle hd hq hl]
        exact .refl _ _
      | some sh =>
        rw [playingBoundary_presents hd hq hl]
        exact presentFrame_sound _ l sh s
    | some q =>
      have hcut : faults (s.lane l) = true := by
        unfold faults
        rw [h, hd, hq]
        rfl
      rw [playingBoundary_fault hd hq, hcut]
      exact (heldRecord_sound true l s).trans ((faultedLane_sound q.1 q.2.1 q.2.2 _).of_bare (faultLane_bare l _ _ _ _))

theorem modLane_sound (cut : Bool) {l : LaneId} {f : Lane → Lane} {s : State}
    (h : SoundStep cut (s.lane l) (f (s.lane l))) : SoundStep cut (s.lane l) ((s.modLane l f).lane l) := by
  rw [State.lane_modLane_self]
  exact h

theorem advanceHold_sound (cut : Bool) (l : LaneId) (s : State) :
    SoundStep cut (s.lane l) (((idleRecord l s).modLane l advanceHold).lane l) :=
  (idleRecord_sound cut l s).trans (modLane_sound cut (.of_sound rfl rfl rfl (.of_eq rfl)))

theorem boundaryWork_sound (l : LaneId) (s : State) :
    SoundStep (faults (s.lane l)) (s.lane l) ((boundaryWork l s).lane l) := by
  unfold boundaryWork
  split
  case h_1 h => exact playingBoundary_sound l s h
  case h_2 =>
    have hflag := (idleRecord_sound (faults (s.lane l)) l s).trans
      (modLane_sound _ (f := fun x => { x with waitingLicence := waitsForLicence s x })
        (.of_sound rfl rfl rfl (.of_eq rfl)))
    unfold loadingBoundary
    dsimp only
    split
    · exact hflag.trans (enterState_sound _ l .ready .primed _)
    · exact hflag
  case h_3 =>
    unfold heldBoundary
    dsimp only
    split
    · exact (advanceHold_sound _ l s).trans (stopLane_sound _ l .holdExpired _)
    · exact advanceHold_sound _ l s
  case h_4 =>
    unfold seekingBoundary
    dsimp only
    split
    · exact (advanceHold_sound _ l s).trans (stopLane_sound _ l .holdExpired _)
    · split
      · exact (advanceHold_sound _ l s).trans (enterState_sound _ l .held .primed _)
      · exact advanceHold_sound _ l s
  all_goals exact idleRecord_sound _ l s

/-- A STRICT fault silences the lines (R150). -/
theorem faultBoundary_silenced {l : LaneId} {s : State} (hf : faults (s.lane l) = true) :
    ((boundaryWork l s).lane l).sound.silenced = true := by
  unfold faults at hf
  rw [Bool.and_eq_true, Bool.and_eq_true, decide_eq_true_eq, Bool.not_eq_true'] at hf
  obtain ⟨⟨hst, hd⟩, hq⟩ := hf
  obtain ⟨q, hq⟩ := Option.isSome_iff_exists.1 hq
  rw [boundaryWork_playing hst, playingBoundary_fault hd hq]
  obtain ⟨n, hn⟩ := eq_of_bare (faultLane_bare l q.1 q.2.1 q.2.2 (heldRecord l s))
  rw [hn]
  exact faultedLane_silenced _ _ _ _

/-! ## The lane as its boundary's own work finds it -/

theorem enteredLane_head (x : Lane) (e : Essence) (p : Nat) : headFor (enteredLane x) e p = headFor x e p := by
  obtain ⟨t, a, n, i, h, -⟩ := enteredLane_eq x
  rw [h]
  unfold headFor
  rw [(begunTracks_queue x e).1]

theorem enteredLane_fault (x : Lane) : presentFault (enteredLane x) = presentFault x := by
  have hhead (e : Essence) (p : Nat) : poisonedHead (enteredLane x) e p = poisonedHead x e p := by
    unfold poisonedHead
    rw [enteredLane_head]
  have hkept : (enteredLane x).options = x.options ∧ (enteredLane x).p = x.p := by
    obtain ⟨t, a, n, i, h, -⟩ := enteredLane_eq x
    rw [h]
    exact ⟨rfl, rfl⟩
  unfold presentFault
  simp only [hkept.1, hkept.2, hhead]

theorem enteredLane_holdDue (x : Lane) : holdDue (enteredLane x) = holdDue x := by
  obtain ⟨t, a, n, i, h, -⟩ := enteredLane_eq x
  rw [h]
  rfl

theorem enteredLane_faults (x : Lane) : faults (enteredLane x) = faults x := by
  have hst : (enteredLane x).state = x.state := by
    obtain ⟨t, a, n, i, h, -⟩ := enteredLane_eq x
    rw [h]
  unfold faults
  rw [hst, enteredLane_holdDue, enteredLane_fault]

/-- What a boundary leaves of the sound that it begins with, and what is lit by then. -/
theorem boundary_sound {l : LaneId} {s : State} (hc : s.clockUnit.source ≠ .acquiring) :
    ∃ u, exec (.frameBoundary l) s = .next (boundaryLook l false u) ∧ boundaryKept l s u ∧
      (∃ p t a m, (u.lane l).sound =
        { begunSound (s.lane l) with period := p, target := t, applied := a, silenced := m }) ∧
      aimedFor (decide ((u.lane l).state = .playing)) (u.lane l) ∧
      (faults (s.lane l) = false → (u.lane l).sound.silenced = (begunSound (s.lane l)).silenced) ∧
      (faults (s.lane l) = true → (u.lane l).sound.silenced = true) ∧
      (clipsAhead (s.lane l).sound ((s.lane l).sound.periodLen - (s.lane l).sound.periodPos) ≠ 0 →
        (u.lane l).indicators.held &&& indicatorBit .clip ≠ 0) := by
  obtain ⟨u, hu, hb⟩ := boundary_bounded (y := (boundaryWork l (entered l s)).lane l) hc rfl
  have hstep := boundaryWork_sound l (entered l s)
  have hcut := faultBoundary_silenced (l := l) (s := entered l s)
  have hclip := enteredLane_clip (x := s.lane l)
  obtain ⟨t, a, n, i, hx, -⟩ := enteredLane_eq (s.lane l)
  rw [entered_lane_self, enteredLane_faults] at hstep hcut
  obtain ⟨k, hk⟩ := hb.lane
  generalize (boundaryWork l (entered l s)).lane l = y at hstep hcut hk
  have haim := hstep.aimed
  have hlines := hstep.lines
  have hsound := hstep.sound
  rw [hx] at haim hlines hsound
  refine ⟨u, hu, hb.kept, ?_, ?_, ?_, ?_, fun h => ?_⟩
  · rw [hk]
    exact hsound
  · rw [hk]
    exact haim rfl
  · rw [hk]
    exact hlines
  · rw [hk]
    exact hcut
  · rw [hk]
    exact hstep.lit.bit (hclip h)

end Sys2Proof.Machine
end

section
/-! Write Sound Map, and the staged sections at the boundary (R143 to R145). -/

namespace Sys2Proof.Machine

theorem markTaken_lane (n : SlotId) (s : State) (l : LaneId) : (markTaken n s).lane l = s.lane l := rfl

/-- What an accepted section makes of a lane: staged in a run, and taken at once elsewhere (R145). -/
def sectionLane (now staged : Sound → Sound) (x : Lane) : Lane :=
  reformTargets { x with sound := if inRunStates x.state then staged x.sound else now x.sound }

theorem acceptSection_eq (l : LaneId) (now staged : Sound → Sound) (n : Nat) (s : State) :
    acceptSection l now staged n s =
      (s.modLane l (sectionLane now staged),
        okWords (soundMapWords (sectionLane now staged (s.lane l)) (inRunStates (s.lane l).state) n)) := by
  have hmod : (s.modLane l fun x => reformTargets
      { x with sound := if inRunStates (s.lane l).state then staged x.sound else now x.sound }) =
      s.modLane l (sectionLane now staged) := rfl
  unfold acceptSection
  dsimp only
  rw [hmod, State.lane_modLane_self]

/-- A Write Sound Map whose work is a change of the lane's fields. -/
theorem serveSection {l : LaneId} {rq : Req} {s : State} {b : List Byte} (hd : s.device = .running)
    (hb : blockCopy (.lane l) rq s = .ok b) {f : Lane → Lane} {a : Answer}
    (hw : doWriteSoundMap l rq b (markTaken (.lane l) s) = ((markTaken (.lane l) s).modLane l f, a)) :
    ∃ t n, exec (.writeSoundMap l rq) s = .next t ∧ t.lane l = { f (s.lane l) with statusCount := n } ∧
      t.licences = s.licences ∧ unreported s t ∧ laneServed l 6 rq a [] s t := by
  have hc : (6, Instr.writeSoundMap l rq) ∈ laneRequests l rq := by simp [laneRequests]
  have hwork := doWriteSoundMap_work l [slotArea s (.lane l)] rq b (markTaken (.lane l) s)
  rw [hw] at hwork
  obtain ⟨t, ht, h⟩ := serveLane hc hd hb (congrArg some hw) (more := []) hwork
  have hlane := h.lane
  rw [State.lane_modLane_self] at hlane
  obtain ⟨n, hn⟩ := eq_of_bare hlane
  exact ⟨t, n, ht, hn, h.licences, h.unreported, h.served⟩

/-- A Write Sound Map that is refused. -/
theorem refuseSection {l : LaneId} {rq : Req} {s : State} {b : List Byte} (hd : s.device = .running)
    (hb : blockCopy (.lane l) rq s = .ok b) {a : Answer}
    (hw : doWriteSoundMap l rq b (markTaken (.lane l) s) = (markTaken (.lane l) s, a)) :
    ∃ t, exec (.writeSoundMap l rq) s = .next t ∧ unreported s t ∧ laneRefused l 6 rq a s t := by
  have hc : (6, Instr.writeSoundMap l rq) ∈ laneRequests l rq := by simp [laneRequests]
  obtain ⟨t, ht, h, -, hun⟩ := serveLane_refused hc ⟨hd, b, hb⟩ (a := a) fun b' hb' => by
    cases hb.symm.trans hb'
    exact congrArg some hw
  exact ⟨t, ht, hun, h⟩

theorem doWriteSoundMap_routing {l : LaneId} {rq : Req} {s : State} {b : List Byte} {r : List Source}
    (ha : acceptedIn 6 (s.lane l) = true) (hw : rq.w0 = 0 ∧ b.length = 24) (hr : routingOf b = .ok r) :
    doWriteSoundMap l rq b s = acceptSection l (applyRouting r) (fun x => { x with stagedRouting := some r }) 0 s := by
  unfold doWriteSoundMap
  rw [acceptsSoundMap_eq, ha, Bool.not_true, if_neg Bool.false_ne_true, if_pos hw, hr]

theorem doWriteSoundMap_unnamed {l : LaneId} {rq : Req} {s : State} {b : List Byte} {i : Nat}
    (ha : acceptedIn 6 (s.lane l) = true) (hw : rq.w0 = 0 ∧ b.length = 24) (hr : routingOf b = .error i) :
    doWriteSoundMap l rq b s = (s, paramAt .source i) := by
  unfold doWriteSoundMap
  rw [acceptsSoundMap_eq, ha, Bool.not_true, if_neg Bool.false_ne_true, if_pos hw, hr]

theorem doWriteSoundMap_trims {l : LaneId} {rq : Req} {s : State} {b : List Byte}
    (ha : acceptedIn 6 (s.lane l) = true) (hw : rq.w0 = 1 ∧ b.length = 96)
    (hr : routingWritten (s.lane l).sound.stage = true) :
    doWriteSoundMap l rq b s =
      acceptSection l (applyTrims ((rawTrims b).map clampTrim))
        (fun x => { x with stagedTrims := some ((rawTrims b).map clampTrim) }) (trimsClamped (rawTrims b)) s := by
  have hw0 : ¬ (rq.w0 = 0 ∧ b.length = 24) := fun h => absurd (hw.2.symm.trans h.2) (by decide)
  unfold doWriteSoundMap
  rw [acceptsSoundMap_eq, ha, Bool.not_true, if_neg Bool.false_ne_true, if_neg hw0, if_pos hw, hr, Bool.not_true,
    if_neg Bool.false_ne_true]

theorem doWriteSoundMap_early {l : LaneId} {rq : Req} {s : State} {b : List Byte}
    (ha : acceptedIn 6 (s.lane l) = true) (hw : rq.w0 = 1 ∧ b.length = 96)
    (hr : routingWritten (s.lane l).sound.stage = false) :
    doWriteSoundMap l rq b s = (s, ⟨.sequence, .none, 0, []⟩) := by
  have hw0 : ¬ (rq.w0 = 0 ∧ b.length = 24) := fun h => absurd (hw.2.symm.trans h.2) (by decide)
  unfold doWriteSoundMap
  rw [acceptsSoundMap_eq, ha, Bool.not_true, if_neg Bool.false_ne_true, if_neg hw0, if_pos hw, hr, Bool.not_false,
    if_pos rfl]

theorem doWriteSoundMap_other {l : LaneId} {rq : Req} {s : State} {b : List Byte}
    (ha : acceptedIn 6 (s.lane l) = true) (h0 : ¬ (rq.w0 = 0 ∧ b.length = 24)) (h1 : ¬ (rq.w0 = 1 ∧ b.length = 96)) :
    doWriteSoundMap l rq b s = (s, paramAnswer .section_) := by
  unfold doWriteSoundMap
  rw [acceptsSoundMap_eq, ha, Bool.not_true, if_neg Bool.false_ne_true, if_neg h0, if_neg h1]

/-! ## ROUTING -/

theorem routingOf_named {b : List Byte} (h : ∀ i < 24, (sourceOf (field b i 1)).isSome = true) :
    routingOf b = .ok ((List.range 24).map fun i => (sourceOf (field b i 1)).getD .none) := by
  have hfind : ((List.range 24).find? fun i => (sourceOf (field b i 1)).isNone) = none :=
    List.find?_eq_none.2 fun i hi => by
      rw [Option.isNone_iff_eq_none]
      intro hn
      have := h i (List.mem_range.1 hi)
      rw [hn] at this
      cases this
  unfold routingOf
  rw [hfind]

theorem routingOf_unnamed {b : List Byte} {i : Nat} (hi : i < 24) (hn : sourceOf (field b i 1) = none)
    (hbefore : ∀ j < i, (sourceOf (field b j 1)).isSome = true) : routingOf b = .error (i + 1) := by
  have hfind : ((List.range 24).find? fun i => (sourceOf (field b i 1)).isNone) = some i := by
    rw [List.find?_range_eq_some]
    refine ⟨by rw [hn]; rfl, List.mem_range.2 hi, fun j hj => ?_⟩
    obtain ⟨v, hv⟩ := Option.isSome_iff_exists.1 (hbefore j hj)
    rw [hv]
    rfl
  unfold routingOf
  rw [hfind]

theorem getElem_routing {b : List Byte} (h : ∀ i < 24, (sourceOf (field b i 1)).isSome = true) {i : Nat} (hi : i < 24) :
    ((List.range 24).map fun i => (sourceOf (field b i 1)).getD .none)[i]? = sourceOf (field b i 1) := by
  obtain ⟨v, hv⟩ := Option.isSome_iff_exists.1 (h i hi)
  rw [List.getElem?_map, List.getElem?_range hi, Option.map_some, hv]
  rfl

theorem soundMapWords_eq (x : Lane) (run : Bool) (n : Nat) :
    soundMapWords x run n =
      [(if x.sound.stage = .complete then 1 else 0) + 2 ^ 8 * (if x.sound.stage = .noSection then 0 else 1),
        if run then 1 else 0, n] := by
  unfold soundMapWords
  cases x.sound.stage <;> cases run <;> rfl

theorem stageAfterRouting_eq (m : MapStage) : stageAfterRouting m = if m = .complete then .complete else .routing := by
  cases m <;> rfl

/-! ## TRIMS -/

theorem getElem_trims (b : List Byte) {i : Nat} (hi : i < 24) :
    ((rawTrims b).map clampTrim)[i]? =
      some ⟨max (-200) (min 60 (fieldInt b (4 * i) 2)), (b.getD (4 * i + 2) 0).getLsbD 0⟩ := by
  rw [List.getElem?_map, rawTrims, List.getElem?_map, List.getElem?_range hi]
  rfl

theorem clampTrim_moves (t : Trim) : clampTrim t ≠ t ↔ t.trim < -200 ∨ 60 < t.trim := by
  obtain ⟨v, m⟩ := t
  have hval : clampTrim ⟨v, m⟩ = ⟨v, m⟩ ↔ max (-200) (min 60 v) = v :=
    ⟨fun h => congrArg Trim.trim h, fun h => by simp only [clampTrim, clampInt, h]⟩
  rw [ne_eq, hval]
  dsimp only
  omega

theorem trimsClamped_rawTrims (b : List Byte) :
    trimsClamped (rawTrims b) =
      ((List.range 24).filter fun i =>
        decide (fieldInt b (4 * i) 2 < -200) || decide (60 < fieldInt b (4 * i) 2)).length := by
  unfold trimsClamped rawTrims
  rw [List.filter_map, List.length_map]
  congr 1
  refine List.filter_congr fun i _ => ?_
  rw [Function.comp_apply, ← Bool.decide_or]
  exact decide_eq_decide.2 (clampTrim_moves _)

/-- Settles O32. -/
theorem soundMapSectionsAreAppliedOrStaged : Obligations.SoundMapSectionsAreAppliedOrStaged := by
  unfold Obligations.SoundMapSectionsAreAppliedOrStaged
  refine ⟨fun l rq s b hd hb ha hw hlen => ⟨fun hnamed => ?_, fun i hi hn hbefore => ?_⟩,
    fun l rq s b hd hb ha hw hlen => ⟨fun hstage => ?_, fun hstage => ?_⟩, fun l rq s b hd hb ha h0 h1 => ?_,
    fun l s hc => ?_⟩
  · have hdo := doWriteSoundMap_routing (s := markTaken (.lane l) s) ha ⟨hw, hlen⟩ (routingOf_named hnamed)
    rw [acceptSection_eq] at hdo
    obtain ⟨t, n, ht, hlane, hlic, hun, hserved⟩ := serveSection hd hb hdo
    have hstage : (t.lane l).sound.stage = (sectionLane
        (applyRouting ((List.range 24).map fun i => (sourceOf (field b i 1)).getD .none))
        (fun x => { x with stagedRouting := some ((List.range 24).map fun i => (sourceOf (field b i 1)).getD .none) })
        (s.lane l)).sound.stage := by rw [hlane]
    rw [markTaken_lane, soundMapWords_eq, ← hstage] at hserved
    refine ⟨t, _, ht, by rw [List.length_map, List.length_range], fun i hi => getElem_routing hnamed hi, fun hr => ?_,
      fun hr => ?_, ?_, hlic, hun, hserved⟩
    · rw [hlane, sectionLane, hr, if_pos rfl]
      exact ⟨rfl, rfl, rfl⟩
    · rw [hlane, sectionLane, hr, if_neg Bool.false_ne_true]
      exact ⟨rfl, rfl, stageAfterRouting_eq _⟩
    · rw [hlane, sectionLane]
      cases inRunStates (s.lane l).state <;> rfl
  · have hdo := doWriteSoundMap_unnamed (s := markTaken (.lane l) s) ha ⟨hw, hlen⟩ (routingOf_unnamed hi hn hbefore)
    obtain ⟨t, ht, -, hbare, -, hserved⟩ := refuseSection hd hb hdo
    exact ⟨t, ht, hbare, hserved⟩
  · have hwritten : routingWritten ((markTaken (.lane l) s).lane l).sound.stage = true := by
      rw [markTaken_lane]
      revert hstage
      cases (s.lane l).sound.stage <;> decide
    have hdo := doWriteSoundMap_trims (s := markTaken (.lane l) s) ha ⟨hw, hlen⟩ hwritten
    rw [acceptSection_eq] at hdo
    obtain ⟨t, n, ht, hlane, hlic, hun, hserved⟩ := serveSection hd hb hdo
    have hst : (t.lane l).sound.stage = (sectionLane (applyTrims ((rawTrims b).map clampTrim))
        (fun x => { x with stagedTrims := some ((rawTrims b).map clampTrim) }) (s.lane l)).sound.stage := by rw [hlane]
    have hsome : (t.lane l).sound.stage ≠ .noSection := by
      rw [hst, sectionLane]
      revert hstage
      cases inRunStates (s.lane l).state
      · show _ → stageAfterTrims (s.lane l).sound.stage ≠ .noSection
        cases (s.lane l).sound.stage <;> decide
      · exact id
    rw [markTaken_lane, soundMapWords_eq, ← hst, if_neg hsome, trimsClamped_rawTrims] at hserved
    refine ⟨t, _, ht, by rw [List.length_map, rawTrims, List.length_map, List.length_range],
      fun i hi => getElem_trims b hi, fun hr => ?_, fun hr => ?_, ?_, ?_, ?_, ?_, ?_, ?_, hlic, hun, hserved⟩
    · rw [hlane, sectionLane, hr, if_pos rfl]
      exact ⟨rfl, rfl, rfl⟩
    · rw [hlane, sectionLane, hr, if_neg Bool.false_ne_true]
      refine ⟨rfl, rfl, ?_⟩
      show stageAfterTrims (s.lane l).sound.stage = .complete
      revert hstage
      cases (s.lane l).sound.stage <;> decide
    all_goals rw [hlane, sectionLane]
    all_goals cases inRunStates (s.lane l).state
    all_goals trivial
  · have hunwritten : routingWritten ((markTaken (.lane l) s).lane l).sound.stage = false := by
      rw [markTaken_lane, hstage]
      rfl
    have hdo := doWriteSoundMap_early (s := markTaken (.lane l) s) ha ⟨hw, hlen⟩ hunwritten
    obtain ⟨t, ht, -, hbare, -, hserved⟩ := refuseSection hd hb hdo
    exact ⟨t, ht, hbare, hserved⟩
  · exact refuseSection hd hb (doWriteSoundMap_other (s := markTaken (.lane l) s) ha h0 h1)
  · obtain ⟨u, hu, hkept, ⟨p, t, a, m, hs⟩, haim, -⟩ := boundary_sound (l := l) hc
    refine ⟨u, hu, ?_, ?_, ?_, ?_, ?_, haim, ?_, ?_, hkept⟩
    all_goals rw [hs]
    all_goals rfl

end Sys2Proof.Machine
end

section
/-! The millisecond tick of a lane, and the samples that a tick and a boundary play (R23, R147 to R153). -/

namespace Sys2Proof.Machine

/-! ## The samples played -/

theorem saturates_iff (v : Int) (m : Nat) : saturates v m = overRange v m := by
  unfold saturates overRange scaledSample
  rw [Int.fdiv_eq_ediv_of_nonneg _ (by decide)]
  rfl

theorem clipsAhead_eq (n : Nat) (x : Sound) : clipsAhead x n = saturatedIn n x := by
  have hclips (xs : List Int) (m : Nat) : clipsOf xs m = xs.countP fun v => overRange v m := by
    unfold clipsOf
    rw [List.countP_eq_length_filter]
    simp only [saturates_iff]
  unfold clipsAhead saturatedIn nextSamples
  rw [← List.map_uncurry_zip_eq_zipWith]
  congr 1
  exact List.map_congr_left fun e _ => hclips _ _

theorem outputSample_zero (m : Nat) : outputSample 0 m = 0 := by
  unfold outputSample scaledSample
  rw [Int.zero_mul]
  rfl

/-- An instant of an output's samples as the period's samples give it. -/
theorem renderOutput_getD (x : Sound) (xs : List Int) (m : Nat) {n j : Nat} (hj : j < n) :
    (renderOutput (nextSamples x n xs) m).getD j 0 = outputSample (xs.getD (x.periodPos + j) 0) m := by
  have htake : (nextSamples x n xs)[j]? = xs[x.periodPos + j]? := by
    rw [nextSamples, List.getElem?_take_of_lt hj, List.getElem?_drop]
  rw [renderOutput, List.getD_eq_getElem?_getD, List.getElem?_map, htake, List.getD_eq_getElem?_getD]
  cases xs[x.periodPos + j]? with
  | none => exact (outputSample_zero m).symm
  | some v => rfl

/-- A lane that holds the samples of a stretch has played it. -/
theorem samplesPlayed_of_out {n : Nat} {x y : Lane} (ho : y.sound.out = (advanceSound n x.sound).out)
    (hl : y.sound.outLen = (advanceSound n x.sound).outLen) : samplesPlayed n x y := by
  refine ⟨fun hn => hl.trans (if_neg hn), fun k j xs g hx hg hj => ?_⟩
  have hout : y.sound.out = samplesAhead x.sound n := ho.trans (if_neg (Nat.ne_of_gt (Nat.zero_lt_of_lt hj)))
  have hk : (k / 8 + 1 - 1) * 8 + k % 8 + 1 - 1 = k := by omega
  have hat : (samplesAhead x.sound n).getD k [] = renderOutput (nextSamples x.sound n xs) (multiplier g) := by
    rw [samplesAhead, List.getD_eq_getElem?_getD, List.getElem?_zipWith, hx, hg]
    rfl
  rw [playedSlot, sampleAt, hout, hk, hat, renderOutput_getD _ _ _ hj]
  rfl

theorem linesPlayed_of_sound {n : Nat} {x y : Lane} (ho : y.sound.out = (advanceSound n x.sound).out)
    (hl : y.sound.outLen = (advanceSound n x.sound).outLen)
    (hs : y.sound.silenced = (advanceSound n x.sound).silenced) : linesPlayed n x y :=
  ⟨samplesPlayed_of_out ho hl, fun hn line slot j => lineSlot_played (hs.trans (if_neg hn)) line slot j⟩

theorem clipsCounted_of_sound {n : Nat} {x y : Lane} (hc : y.sound.clipCount = (advanceSound n x.sound).clipCount)
    (hi : clipsAhead x.sound n ≠ 0 → y.indicators.held &&& indicatorBit .clip ≠ 0) : clipsCounted n x y := by
  refine ⟨hc.trans ?_, fun h => hi (by rw [clipsAhead_eq]; exact h)⟩
  show saturate16 (x.sound.clipCount + clipsAhead x.sound n) = _
  rw [clipsAhead_eq]
  rfl

/-! ## The gains of a tick -/

theorem stepGains_at {g : Nat} {applied target : List Gain} {i : Nat} {a w : Gain} (ha : applied[i]? = some a)
    (hw : target[i]? = some w) : (stepGains g applied target)[i]? = some (stepGain g a w) := by
  rw [stepGains, List.getElem?_zipWith, ha, hw]

theorem stepGain_eq (g : Nat) (a w : Gain) :
    stepGain g a w =
      match a, w with
      | .mute, .mute => .mute
      | .mute, .level w => .level (min w (-890 + g))
      | .level v, .mute => if v - g ≤ -890 then .mute else .level (v - g)
      | .level v, .level w => if v ≤ w then .level (min w (v + g)) else .level (max w (v - g)) := by
  match a, w with
  | .mute, .mute => rfl
  | .mute, .level w => rfl
  | .level v, .level w => rfl
  | .level v, .mute =>
    by_cases h : v - (g : Int) ≤ -890
    · have hmax : max (-890) (v - (g : Int)) = -890 := by omega
      simp only [stepGain]
      rw [if_pos hmax, if_pos h]
    · have hmax : max (-890) (v - (g : Int)) = v - g := by omega
      simp only [stepGain]
      rw [hmax, if_neg (by omega), if_neg h]

theorem everyMute_stepGains {g : Nat} {applied target : List Gain} (ht : ∀ w ∈ target, w = .mute)
    (ha : ∀ v, Gain.level v ∈ applied → v - (g : Int) ≤ -890) : everyMute (stepGains g applied target) = true := by
  refine List.all_eq_true.2 fun y hy => decide_eq_true ?_
  obtain ⟨a, w, hz, rfl⟩ : ∃ a w, (a, w) ∈ applied.zip target ∧ stepGain g a w = y := by
    rw [stepGains, ← List.map_uncurry_zip_eq_zipWith] at hy
    obtain ⟨⟨a, w⟩, hz, he⟩ := List.mem_map.1 hy
    exact ⟨a, w, hz, he⟩
  obtain ⟨hma, hmw⟩ := List.of_mem_zip hz
  rw [ht w hmw, stepGain_eq]
  cases a with
  | mute => rfl
  | level v => exact if_pos (ha v hma)

/-! ## The tick of a lane -/

/-- The lane after the tick's samples and its ramp. -/
def tickedLane (x : Lane) : Lane := rampGains (endTick x)

/-- The samples up to the tick, within the period. -/
def tickStretch (x : Sound) : Nat := min (x.tickLen - x.tickPos) (x.periodLen - x.periodPos)

/-- The sound of a lane after a tick. -/
def tickedSound (x : Lane) : Sound :=
  { advanceSound (tickStretch x.sound) x.sound with
    tickPos := 0
    tickLen := tickSamples (laneSampleRate x)
    applied := stepGains x.options.fadeRate x.sound.applied x.sound.target }

theorem tickedLane_eq (x : Lane) :
    ∃ i, tickedLane x = { x with indicators := i, sound := tickedSound x } ∧
      i = (setIndicatorIf (decide (clipsAhead x.sound (tickStretch x.sound) ≠ 0)) .clip x).indicators := by
  obtain ⟨i, hi⟩ := setIndicatorIf_eq (decide (clipsAhead x.sound (tickStretch x.sound) ≠ 0)) .clip x
  refine ⟨i, ?_, by rw [hi]⟩
  have hplay : playSamples (tickStretch x.sound) x =
      { x with indicators := i, sound := advanceSound (tickStretch x.sound) x.sound } := by rw [playSamples, hi]
  have hend : endTick x = { playSamples (tickStretch x.sound) x with
      sound :=
        { (playSamples (tickStretch x.sound) x).sound with
          tickPos := 0
          tickLen := tickSamples (laneSampleRate (playSamples (tickStretch x.sound) x)) } } := rfl
  rw [tickedLane, hend, hplay]
  rfl

theorem fadeDue_iff (l : LaneId) (s : State) :
    fadeDue l s = true ↔ ((tickedLane (s.lane l)).state = .stopping ∧ everyMute (tickedLane (s.lane l)).sound.applied = true) := by
  obtain ⟨i, h, -⟩ := tickedLane_eq (s.lane l)
  rw [h, fadeDue, Bool.and_eq_true, decide_eq_true_eq]
  rfl

theorem tickLane_ramps {l : LaneId} {s : State} (hc : s.clockUnit.source ≠ .acquiring) (hf : fadeDue l s = false) :
    tickLane l s = s.modLane l tickedLane := by
  have hno : ¬ (((s.modLane l tickedLane).lane l).state = .stopping ∧
      everyMute ((s.modLane l tickedLane).lane l).sound.applied = true) := by
    rw [State.lane_modLane_self, ← fadeDue_iff, hf]
    exact Bool.false_ne_true
  unfold tickLane
  rw [if_neg hc]
  exact if_neg hno

theorem tickLane_ends {l : LaneId} {s : State} (hc : s.clockUnit.source ≠ .acquiring) (hf : fadeDue l s = true) :
    tickLane l s = enterState l .ended ((s.modLane l tickedLane).lane l).lastCause (s.modLane l tickedLane) := by
  have hdue : ((s.modLane l tickedLane).lane l).state = .stopping ∧
      everyMute ((s.modLane l tickedLane).lane l).sound.applied = true := by
    rw [State.lane_modLane_self, ← fadeDue_iff, hf]
  unfold tickLane
  rw [if_neg hc]
  exact if_pos hdue

/-- What a tick tells of the lane's samples (R147, R151 to R153). -/
theorem tickedLane_played {x y : Lane} (hs : y.sound = { tickedSound x with target := y.sound.target })
    (hi : y.indicators = (tickedLane x).indicators) :
    linesPlayed (tickStretch x.sound) x y ∧ clipsCounted (tickStretch x.sound) x y := by
  obtain ⟨i, ht, hlit⟩ := tickedLane_eq x
  refine ⟨linesPlayed_of_sound (by rw [hs]; rfl) (by rw [hs]; rfl) (by rw [hs]; rfl),
    clipsCounted_of_sound (by rw [hs]; rfl) fun h => ?_⟩
  rw [hi, ht, hlit, decide_eq_true h]
  exact setIndicator_held .clip x

theorem tickedLane_unclipped {x : Lane} (h : saturatedIn (tickStretch x.sound) x.sound = 0) :
    (tickedLane x).indicators = x.indicators := by
  obtain ⟨i, ht, hi⟩ := tickedLane_eq x
  rw [ht, hi, clipsAhead_eq, h]
  rfl

/-- Settles O51. -/
theorem millisecondTicksRampTheGains : Obligations.MillisecondTicksRampTheGains := by
  unfold Obligations.MillisecondTicksRampTheGains
  refine ⟨fun l s hc hno => ?_, fun l s hc hst hlen hmute hlow => ?_, fun l s hc => ?_⟩
  · have hf : fadeDue l s = false := by
      by_cases h : (s.lane l).state = .stopping
      · exact hno h
      · rw [fadeDue, decide_eq_false h, Bool.false_and]
    have hexec : exec (.millisecondTick l) s = .next (noteChanges s (s.modLane l tickedLane)) := by
      rw [← tickLane_ramps hc hf]
      rfl
    have hrest := ((tickLane_work l [] s).trans (noteChanges_work l [] s _)).rest
    rw [tickLane_ramps hc hf] at hrest
    have hlane : (noteChanges s (s.modLane l tickedLane)).lane l = tickedLane (s.lane l) :=
      State.lane_modLane_self s l tickedLane
    obtain ⟨i, ht, -⟩ := tickedLane_eq (s.lane l)
    have hplayed := tickedLane_played (x := s.lane l) (y := tickedLane (s.lane l)) (by rw [ht]) rfl
    have hunclipped := tickedLane_unclipped (x := s.lane l)
    obtain ⟨hlanes, hregs, hunits, -⟩ := hrest
    refine ⟨_, hexec, fun j a w ha hw => ?_, ?_, ?_, hlanes, rfl, rfl, rfl, hregs, hunits, rfl⟩
    · rw [hlane, ht]
      exact (stepGains_at ha hw).trans (congrArg some (stepGain_eq _ a w))
    · rw [hlane, ht]
      rfl
    · dsimp only
      rw [hlane]
      refine ⟨hplayed.1, hplayed.2, fun hn => ?_, hunclipped, ?_, ?_⟩
      · rw [ht]
        exact ⟨if_pos hn, if_pos hn, if_pos hn⟩
      · rw [ht]
        rfl
      · rw [ht]
        rfl
  · have hgains := everyMute_stepGains (g := (s.lane l).options.fadeRate) hmute hlow
    have hf : fadeDue l s = true := by
      rw [fadeDue, decide_eq_true hst, hgains]
      rfl
    have hfade : exec (.fadeComplete l) s = .next (noteChanges s (tickLane l s)) :=
      congrArg (Host.Outcome.next ∘ noteChanges s) (if_pos hf)
    have hexec : exec (.millisecondTick l) s = .next (noteChanges s (tickLane l s)) := rfl
    have hwork := (tickLane_work l [] s).trans (noteChanges_work l [] s _)
    have hbare : bare ((tickLane l s).lane l) =
        bare (settleLane .ended (s.lane l).lastCause (tickedLane (s.lane l))) := by
      obtain ⟨i, ht, -⟩ := tickedLane_eq (s.lane l)
      rw [tickLane_ends hc hf, enterState_bare, State.lane_modLane_self, ht]
    have hlic : (tickLane l s).licences = s.licences := by
      rw [tickLane_ends hc hf, enterState_licences]
      rfl
    obtain ⟨n, hn⟩ := eq_of_bare hbare
    generalize tickLane l s = u at hfade hexec hwork hlic hn
    have hlane : (noteChanges s u).lane l = _ := hn
    obtain ⟨i, ht, -⟩ := tickedLane_eq (s.lane l)
    have hmem := hwork.mem
    rw [List.append_nil] at hmem
    refine ⟨noteChanges s u, hfade, hexec, ?_, ?_, ?_, ?_, ?_, ?_, ?_, hlic, ?_, hwork.rest, hmem⟩
    · rw [hlane]
      rfl
    · rw [hlane]
      rfl
    · rw [hlane, ht]
      exact hgains
    · rw [hlane, ht]
      exact ⟨rfl, rfl, rfl, rfl, rfl, rfl, rfl, rfl⟩
    · rw [hlane, ht]
      exact ⟨rfl, rfl, rfl, rfl⟩
    · rw [hlane, ht]
      rfl
    · rw [hlane, ht]
      rfl
    · have hsettled : (settleLane .ended (s.lane l).lastCause (tickedLane (s.lane l))).sound =
          { tickedSound (s.lane l) with
            target := (settleLane .ended (s.lane l).lastCause (tickedLane (s.lane l))).sound.target } := by
        rw [ht]
        rfl
      have hplayed := tickedLane_played hsettled rfl
      rw [hlane]
      exact hplayed
  · obtain ⟨u, hu, -, ⟨p, t, a, m, hs⟩, -, hlines, hcut, hclip⟩ := boundary_sound (l := l) hc
    have hsamples : samplesPlayed ((s.lane l).sound.periodLen - (s.lane l).sound.periodPos) (s.lane l) (u.lane l) :=
      samplesPlayed_of_out (by rw [hs]; rfl) (by rw [hs]; rfl)
    refine ⟨u, hu, samplesPlayed_of_held (heldSamples_boundaryLook l false u) hsamples,
      clipsCounted_of_sound (by rw [hs]; rfl) hclip, fun h => ?_, fun hst hd hq line slot j => ?_⟩
    · have hf : faults (s.lane l) = false := by
        unfold faults
        rcases h with h | h | h
        · rw [decide_eq_false h]; rfl
        · rw [h, Bool.not_true, Bool.and_false]; rfl
        · rw [h, Option.isSome_none, Bool.and_false]
      exact ⟨hsamples, fun hn line slot j => lineSlot_played ((hlines hf).trans (if_neg hn)) line slot j⟩
    · refine lineSlot_silenced (hcut ?_) line slot j
      unfold faults
      rw [decide_eq_true hst, hd]
      exact Option.isSome_iff_ne_none.2 hq

end Sys2Proof.Machine
end

section
/-! What a boundary sends and what it leaves of the overlay; the hold that is taken, and the end of priming
(R6, R20, R22, R138, R140). -/

namespace Sys2Proof.Machine

/-! ## What the end of a run, or a change of state, leaves of a boundary's work -/

/-- What an end of a run keeps of a boundary's work: what the record carries, the overlay, the sound of P, the
cues and their contacts. -/
structure WorkKept (x y : Lane) : Prop where
  overlay : y.overlay = x.overlay
  forward : y.link.forward = x.link.forward
  period : y.sound.period = x.sound.period
  scanner : y.scanner = x.scanner
  contacts : y.contacts = x.contacts
  wanted : y.subWanted = x.subWanted
  lit : Lit x y

namespace WorkKept

theorem refl (x : Lane) : WorkKept x x := ⟨rfl, rfl, rfl, rfl, rfl, rfl, .refl x⟩

theorem trans {x y z : Lane} (h : WorkKept x y) (k : WorkKept y z) : WorkKept x z :=
  ⟨k.overlay.trans h.overlay, k.forward.trans h.forward, k.period.trans h.period, k.scanner.trans h.scanner,
    k.contacts.trans h.contacts, k.wanted.trans h.wanted, h.lit.trans k.lit⟩

theorem settle (st : LaneState) (c : Cause) (x : Lane) : WorkKept x (settleLane st c x) :=
  ⟨rfl, rfl, rfl, rfl, rfl, rfl, .of_eq rfl⟩

theorem runEnd (c : Cause) (x : Lane) : WorkKept x (runEndLane c x) := by
  have hlit := Lit.runEndLane c x
  have hlink : (runEndLane c x).link.forward = x.link.forward := by rw [runEndLane_link]
  obtain ⟨t, k, i, h⟩ := runEndLane_eq c x
  rw [h] at hlit hlink ⊢
  exact ⟨rfl, hlink, rfl, rfl, rfl, rfl, hlit⟩

theorem stopped (c : Cause) (x : Lane) : WorkKept x (stoppedLane c x) := by
  unfold stoppedLane
  dsimp only
  split
  · exact ((WorkKept.runEnd c x).trans (.settle _ _ _)).trans (.settle _ _ _)
  · exact (WorkKept.runEnd c x).trans (.settle _ _ _)

theorem advanced (sh : Show) (real : Bool) (x : Lane) : WorkKept x (advancedLane sh (advanceLane sh real x)) := by
  have hstep : WorkKept x (advanceLane sh real x) := ⟨rfl, rfl, rfl, rfl, rfl, rfl, .of_eq rfl⟩
  refine hstep.trans ?_
  unfold advancedLane
  split
  · exact (WorkKept.runEnd .complete _).trans (.settle _ _ _)
  · split
    · exact .stopped .linkLost _
    · split
      · exact .stopped .starved _
      · exact .refl _

theorem faulted (kind : PoisonKind) (track : TrackKind) (frame : Nat) (x : Lane) :
    WorkKept x (faultedLane kind track frame x) :=
  WorkKept.trans (y := muteAtOnce
      { x with faultRecord := some ⟨kind, x.p, track, frame, x.indicators.held, reservedLicences x.tally⟩ })
    ⟨rfl, rfl, rfl, rfl, rfl, rfl, .of_eq rfl⟩ ((WorkKept.runEnd .fault _).trans (.settle _ _ _))

end WorkKept

/-! ## Palettes (R138) -/

theorem carriedPalettes_eq {o : Overlay} {due : Subtitle → Bool} (h : ∀ t, o.palettePending.get t = due t) :
    carriedPalettes o = palettesSent o due := by
  have h1 : o.palettePending.one = due .one := h .one
  have h2 : o.palettePending.two = due .two := h .two
  unfold carriedPalettes palettesSent
  rw [h1, h2]
  simp only [List.filterMap_cons, List.filterMap_nil, currentStore]
  cases due .one <;> cases due .two <;> by_cases hs1 : o.current1.state = .decoded <;>
    by_cases hs2 : o.current2.state = .decoded <;> simp [hs1, hs2]

theorem palettesSent_congr {o o' : Overlay} (due : Subtitle → Bool)
    (h : ∀ t, (currentStore o' t).state = (currentStore o t).state ∧ (currentStore o' t).palette = (currentStore o t).palette) :
    palettesSent o' due = palettesSent o due := by
  unfold palettesSent
  refine List.filterMap_congr fun t _ => ?_
  rw [(h t).1, (h t).2]

/-- The record of a boundary carries the palettes due, and leaves none due. -/
theorem palettesHandled_of_linked {due : Subtitle → Bool} {pic : Picture} {tiles : List TileUpdate} {map : List Nat}
    {x z y : Lane} (hk : z.link.state = x.link.state) (hdue : ∀ t, z.overlay.palettePending.get t = due t)
    (ho : y.overlay = (linkedLane pic tiles map z).overlay)
    (hf : y.link.forward = (linkedLane pic tiles map z).link.forward) : palettesHandled due x y := by
  refine ⟨fun hl => ?_, fun hl t => ?_⟩
  · have hlz := hk.trans hl
    obtain ⟨t, a, n, e, i, hr, -⟩ := recordLane_eq (pic := pic) (tiles := tiles) (map := map) hlz
    rw [linkedLane_locked hlz, hr] at ho hf
    rw [sentOverlay, if_pos hlz] at ho
    refine ⟨⟨_, hf, ?_⟩, by rw [ho]; rfl⟩
    show carriedPalettes z.overlay = _
    rw [carriedPalettes_eq hdue]
    exact (palettesSent_congr due fun t => by rw [ho]; cases t <;> exact ⟨rfl, rfl⟩).symm
  · obtain ⟨t', k, i, h, -⟩ := linkedLane_eq pic tiles map z
    rw [h, sentOverlay, if_neg (by rw [hk]; exact hl)] at ho
    rw [ho]
    exact hdue t

theorem enteredLane_palettes (x : Lane) (t : Subtitle) :
    (enteredLane x).overlay.palettePending.get t = x.overlay.palettePending.get t := by
  obtain ⟨t', a, n, i, h, -⟩ := enteredLane_eq x
  rw [h]
  unfold begunOverlay
  split <;> rfl

theorem enteredLane_map (x : Lane) : (enteredLane x).overlay.tileMap = x.overlay.tileMap := by
  obtain ⟨t', a, n, i, h, -⟩ := enteredLane_eq x
  rw [h]
  unfold begunOverlay
  split <;> rfl

theorem enteredLane_link (x : Lane) :
    (enteredLane x).link.state = x.link.state ∧ (enteredLane x).link.seq = x.link.seq ∧
      (enteredLane x).link.headStatus = x.link.headStatus := by
  obtain ⟨t', a, n, i, h, -⟩ := enteredLane_eq x
  rw [h]
  exact ⟨rfl, rfl, rfl⟩

theorem enteredLane_good (x : Lane) : linkGood (enteredLane x) = linkGood x := by
  obtain ⟨hs, -, hh⟩ := enteredLane_link x
  unfold linkGood
  rw [hs, hh]

/-- What a boundary's BLACK record is. -/
theorem linkedLane_black {tiles : List TileUpdate} {map : List Nat} {x y : Lane} (hk : x.link.state = .locked)
    (hf : y.link.forward = (linkedLane blackClosed tiles map x).link.forward) :
    ∃ r, y.link.forward = .frame r ∧ r.seq = x.link.seq ∧ r.kind = .black ∧ r.shutterOpen = false ∧ r.units = [] ∧
      r.tiles = tiles := by
  obtain ⟨t, a, n, e, i, hr, -⟩ := recordLane_eq (pic := blackClosed) (tiles := tiles) (map := map) hk
  rw [linkedLane_locked hk, hr] at hf
  exact ⟨_, hf, rfl, rfl, rfl, rfl, rfl⟩

theorem linkedLane_map {pic : Picture} {tiles : List TileUpdate} {map : List Nat} {x : Lane} :
    (linkedLane pic tiles map x).overlay.tileMap = if x.link.state = .locked then map else x.overlay.tileMap := by
  obtain ⟨t, k, i, h, -⟩ := linkedLane_eq pic tiles map x
  rw [h, sentOverlay]
  split <;> rfl

/-! ## The boundary of a lane that does not play (R140) -/

/-- The work of a boundary outside PLAYING is an idle record and what follows it. -/
theorem boundaryWork_idleKept {l : LaneId} {s : State} (h : (s.lane l).state ≠ .playing) :
    ∃ y, bare ((boundaryWork l s).lane l) = bare y ∧ WorkKept (idleLane (s.lane l)) y := by
  have hidle := idleRecord_lane_self l s
  have hadvance : ((idleRecord l s).modLane l advanceHold).lane l = advanceHold (idleLane (s.lane l)) := by
    rw [State.lane_modLane_self, hidle]
  have hhold : WorkKept (idleLane (s.lane l)) (advanceHold (idleLane (s.lane l))) :=
    ⟨rfl, rfl, rfl, rfl, rfl, rfl, .of_eq rfl⟩
  unfold boundaryWork
  split
  case h_1 h' => exact absurd h' h
  case h_2 =>
    have hflag : ((idleRecord l s).modLane l fun x => { x with waitingLicence := waitsForLicence s x }).lane l =
        { idleLane (s.lane l) with waitingLicence := waitsForLicence s (idleLane (s.lane l)) } := by
      rw [State.lane_modLane_self, hidle]
    have hkept : WorkKept (idleLane (s.lane l))
        { idleLane (s.lane l) with waitingLicence := waitsForLicence s (idleLane (s.lane l)) } :=
      ⟨rfl, rfl, rfl, rfl, rfl, rfl, .of_eq rfl⟩
    unfold loadingBoundary
    dsimp only
    split
    · exact ⟨_, enterState_bare l .ready .primed _, by rw [hflag]; exact hkept.trans (.settle _ _ _)⟩
    · exact ⟨_, congrArg bare hflag, hkept⟩
  case h_3 =>
    unfold heldBoundary
    dsimp only
    split
    · exact ⟨_, stopLane_bare l .holdExpired _, by rw [hadvance]; exact hhold.trans (.stopped _ _)⟩
    · exact ⟨_, congrArg bare hadvance, hhold⟩
  case h_4 =>
    unfold seekingBoundary
    dsimp only
    split
    · exact ⟨_, stopLane_bare l .holdExpired _, by rw [hadvance]; exact hhold.trans (.stopped _ _)⟩
    · split
      · exact ⟨_, enterState_bare l .held .primed _, by rw [hadvance]; exact hhold.trans (.settle _ _ _)⟩
      · exact ⟨_, congrArg bare hadvance, hhold⟩
  all_goals exact ⟨_, congrArg bare hidle, .refl _⟩

/-- A boundary outside PLAYING sends BLACK and CLEAR for every tile of the map (R140). -/
theorem idleBoundary_sends {l : LaneId} {s : State} (hc : s.clockUnit.source ≠ .acquiring)
    (hst : (s.lane l).state ≠ .playing) :
    ∃ u, exec (.frameBoundary l) s = .next (boundaryLook l false u) ∧
      ((s.lane l).link.state ≠ .locked → (u.lane l).overlay.tileMap = (s.lane l).overlay.tileMap) ∧
      ((s.lane l).link.state = .locked →
        (u.lane l).overlay.tileMap = [] ∧
          ∃ r, (u.lane l).link.forward = .frame r ∧ r.seq = (s.lane l).link.seq ∧
            r.kind = .black ∧ r.shutterOpen = false ∧ r.units = [] ∧
            r.tiles = (s.lane l).overlay.tileMap.map TileUpdate.clear) ∧
      palettesHandled (fun t => (s.lane l).overlay.palettePending.get t) (s.lane l) (u.lane l) := by
  have hplay : ((entered l s).lane l).state ≠ .playing := by
    rw [entered_state]
    exact hst
  obtain ⟨y, hy, hkept⟩ := boundaryWork_idleKept hplay
  obtain ⟨u, hu, hb⟩ := boundary_bounded hc hy
  obtain ⟨n, hn⟩ := hb.lane
  rw [entered_lane_self] at hkept
  obtain ⟨hlink, hseq, -⟩ := enteredLane_link (s.lane l)
  have ho : (u.lane l).overlay = (idleLane (enteredLane (s.lane l))).overlay := by
    rw [hn]
    exact hkept.overlay
  have hf : (u.lane l).link.forward = (idleLane (enteredLane (s.lane l))).link.forward := by
    rw [hn]
    exact hkept.forward
  have hmap : (u.lane l).overlay.tileMap =
      if (s.lane l).link.state = .locked then [] else (s.lane l).overlay.tileMap := by
    rw [ho, idleLane, linkedLane_map, hlink, enteredLane_map]
  refine ⟨u, hu, fun hl => by rw [hmap, if_neg hl], fun hl => ⟨by rw [hmap, if_pos hl], ?_⟩,
    palettesHandled_of_linked hlink (enteredLane_palettes _) ho hf⟩
  obtain ⟨r, hr, hrseq, hkind, hshut, hunits, htiles⟩ := linkedLane_black (hlink.trans hl) hf
  exact ⟨r, hr, hrseq.trans hseq, hkind, hshut, hunits, by rw [htiles, enteredLane_map]; rfl⟩

/-! ## Commands that are a whole boundary (log entry 9) -/

/-- A command that is due is the boundary itself. -/
theorem exec_whole {c : Instr} {due : Bool} {l : LaneId} {s : State} (h : exec c s = .next (boundaryIf due l s))
    (hdue : due = true) : exec c s = exec (.frameBoundary l) s := by
  rw [h, hdue]
  rfl

/-! ## The hold that is taken (R20, R47) -/

/-- A pending hold that is due, in the terms of R20. -/
theorem holdDue_of {x : Lane} {h : HoldRecord} (hh : x.hold = some h)
    (hw : h.when_ = .now ∨ ∃ r sh q, h.when_ = .reelEnd r ∧ x.loaded = some sh ∧ nthReel sh (r + 1) = some q ∧ x.p = q.start) :
    holdDue x = true := by
  unfold holdDue
  rw [hh]
  dsimp only
  rcases hw with hw | ⟨r, sh, q, hw, hl, hq, hp⟩
  · rw [hw]
  · rw [hw]
    dsimp only
    rw [hl, Option.bind_some, hq]
    exact decide_eq_true hp

theorem graceDue_false {x : Lane} (h : linkGood x = true ∨ x.linkGrace + 1 ≤ x.options.linkGrace) :
    graceDue x = false := by
  unfold graceDue
  rcases h with h | h
  · rw [h]
    rfl
  · rw [decide_eq_false (by omega), Bool.and_false]

theorem enteredLane_grace (x : Lane) : graceDue (enteredLane x) = graceDue x := by
  have hgood := enteredLane_good x
  obtain ⟨t, a, n, i, h, -⟩ := enteredLane_eq x
  unfold graceDue
  rw [hgood, h]

theorem enteredLane_hold (x : Lane) : (enteredLane x).hold = x.hold := by
  obtain ⟨t, a, n, i, h, -⟩ := enteredLane_eq x
  rw [h]

theorem entered_licences {l : LaneId} {s : State} (h : (s.lane l).tally.phase ≠ .closing) :
    (entered l s).licences = s.licences := by
  rw [entered_open h]
  rfl

/-- The lane once its hold is taken. -/
def heldHereLane (h : HoldRecord) (x : Lane) : Lane :=
  { settleLane .held h.cause (heldLane x) with holdTimer := 0, holdLimit := laneHoldLimit (heldLane x) }

theorem holdBoundary_takes {l : LaneId} {s : State} (h : HoldRecord) (hg : graceDue (s.lane l) = false) :
    bare ((holdBoundary l h s).lane l) = bare (heldHereLane h (s.lane l)) ∧
      ((s.lane l).tally.phase ≠ .closing → (holdBoundary l h s).licences = s.licences) := by
  unfold holdBoundary
  rw [hg, if_neg Bool.false_ne_true]
  refine ⟨?_, fun hp => ?_⟩
  · rw [takeHold_bare, heldRecord_lane_self]
    rfl
  · rw [takeHold, changeState_licences]
    exact linkBoundary_licences _ _ _ hp

theorem not_closing_of_running {t : Tally} (h : t.phase = .running) : t.phase ≠ .closing := by
  rw [h]
  decide

/-- The hold of a boundary in PLAYING is taken in place of a presentation (R20). -/
theorem holdTaken_boundary {l : LaneId} {s : State} {h : HoldRecord} (hc : s.clockUnit.source ≠ .acquiring)
    (hst : (s.lane l).state = .playing) (hh : (s.lane l).hold = some h) (hd : holdDue (s.lane l) = true)
    (hg : graceDue (s.lane l) = false) (hrun : (s.lane l).tally.phase = .running) :
    ∃ u, exec (.frameBoundary l) s = .next (boundaryLook l false u) ∧
      (∃ n, u.lane l = { rollPeriod (heldHereLane h (enteredLane (s.lane l))) with statusCount := n }) ∧
      u.licences = s.licences ∧ boundaryKept l s u := by
  have hwork : boundaryWork l (entered l s) = holdBoundary l h (entered l s) := by
    rw [boundaryWork_playing ((entered_state l s).trans hst)]
    refine playingBoundary_hold ?_ ?_
    · rw [entered_lane_self, enteredLane_hold, hh]
    · rw [entered_lane_self, enteredLane_holdDue, hd]
  have hgrace : graceDue ((entered l s).lane l) = false := by rw [entered_lane_self, enteredLane_grace, hg]
  obtain ⟨hbare, hlic⟩ := holdBoundary_takes h hgrace
  have hopen := not_closing_of_running hrun
  obtain ⟨u, hu, hb⟩ := boundary_bounded (y := heldHereLane h ((entered l s).lane l)) hc (by rw [hwork]; exact hbare)
  rw [entered_lane_self] at hb hlic
  refine ⟨u, hu, hb.lane, ?_, hb.kept⟩
  rw [hb.licences, hwork, hlic (by rw [enteredLane_open hopen]; exact hopen), entered_licences hopen]

/-! ## Priming (R6, R22, R50) -/

theorem queuePrimed_congr {sh : Show} {x y : Lane} (hp : y.p = x.p) (ho : y.options = x.options)
    (hq : ∀ e, (y.tracks.get e).queue = (x.tracks.get e).queue) (e : Essence) : queuePrimed sh y e = queuePrimed sh x e := by
  unfold queuePrimed primeRange
  rw [hp, ho]
  simp only [hq]

theorem essencePrimed_congr {x y : Lane} (hl : y.loaded = x.loaded) (hp : y.p = x.p) (ho : y.options = x.options)
    (hq : ∀ e, (y.tracks.get e).queue = (x.tracks.get e).queue) : essencePrimed y = essencePrimed x := by
  unfold essencePrimed
  rw [hl]
  simp only [queuePrimed_congr hp ho hq]

/-- The lane once the record of a boundary has gone out, in outline. -/
theorem linkedLane_outline (pic : Picture) (tiles : List TileUpdate) (map : List Nat) (x : Lane) :
    ∃ t k i o, linkedLane pic tiles map (enteredLane x) =
        { x with tally := t, link := k, indicators := i, sound := begunSound x, tracks := begunTracks x, overlay := o } ∧
      (x.tally.phase ≠ .closing → t = x.tally) ∧
      ∀ pl, (getStore o pl).state = (getStore x.overlay pl).state := by
  have hstores (pl : Place) : (getStore (begunOverlay x) pl).state = (getStore x.overlay pl).state := by
    unfold begunOverlay
    split <;> cases pl <;> rfl
  obtain ⟨t, a, n, i, hx, hopen⟩ := enteredLane_eq x
  obtain ⟨t', k, i', h, hopen'⟩ := linkedLane_eq pic tiles map (enteredLane x)
  refine ⟨t', k, i', sentOverlay map (enteredLane x), ?_, fun hp => ?_, fun pl => ?_⟩
  · rw [h]
    generalize sentOverlay map (enteredLane x) = o
    rw [hx]
  · rw [hopen' (by rw [enteredLane_open hp]; exact hp), enteredLane_open hp]
  · have hsent : getStore (sentOverlay map (enteredLane x)) pl = getStore (enteredLane x).overlay pl := by
      unfold sentOverlay
      split <;> cases pl <;> rfl
    rw [hsent, hx]
    exact hstores pl

theorem idleLane_outline (x : Lane) :
    ∃ t k i o, idleLane (enteredLane x) =
        { x with tally := t, link := k, indicators := i, sound := begunSound x, tracks := begunTracks x, overlay := o } ∧
      (x.tally.phase ≠ .closing → t = x.tally) ∧
      ∀ pl, (getStore o pl).state = (getStore x.overlay pl).state := linkedLane_outline _ _ _ x

theorem essencePrimed_idle (x : Lane) : essencePrimed (idleLane (enteredLane x)) = essencePrimed x := by
  obtain ⟨t, k, i, o, h, -⟩ := idleLane_outline x
  rw [h]
  exact essencePrimed_congr rfl rfl rfl fun e => (begunTracks_queue x e).1

theorem firstReelLicences_congr {x y : Lane} (h : y.loaded = x.loaded) : firstReelLicences y = firstReelLicences x := by
  unfold firstReelLicences
  rw [h]

theorem waitsForLicence_of_open {s : State} {x : Lane} (h : ∀ id ∈ firstReelLicences x, licenceOpen s id = true) :
    waitsForLicence s x = false :=
  List.any_eq_false.2 fun id hid => by rw [h id hid]; exact Bool.false_ne_true

theorem waitsForLicence_congr {s t : State} {x y : Lane} (ht : t.licences = s.licences) (h : y.loaded = x.loaded) :
    waitsForLicence t y = waitsForLicence s x := by
  unfold waitsForLicence licenceOpen
  rw [ht, firstReelLicences_congr h]

theorem lanePrimed_congr {s t : State} {l : LaneId} (hess : essencePrimed (t.lane l) = essencePrimed (s.lane l))
    (h1 : (t.lane l).overlay.current1.state = (s.lane l).overlay.current1.state)
    (h2 : (t.lane l).overlay.current2.state = (s.lane l).overlay.current2.state)
    (hw : waitsForLicence t (t.lane l) = waitsForLicence s (s.lane l)) : lanePrimed t l = lanePrimed s l := by
  unfold lanePrimed
  rw [hess, h1, h2, hw]

/-- A loading lane once its boundary's idle record has gone out. -/
def waitedLane (s : State) (x : Lane) : Lane := { idleLane x with waitingLicence := waitsForLicence s (idleLane x) }

theorem boundaryWork_loading {l : LaneId} {s : State} (h : (s.lane l).state = .loading) :
    boundaryWork l s = loadingBoundary l s := by
  unfold boundaryWork
  rw [h]

theorem boundaryWork_seeking {l : LaneId} {s : State} (h : (s.lane l).state = .seeking) :
    boundaryWork l s = seekingBoundary l s := by
  unfold boundaryWork
  rw [h]

theorem idleRecord_licences {l : LaneId} {s : State} (h : (s.lane l).tally.phase ≠ .closing) :
    (idleRecord l s).licences = s.licences := linkBoundary_licences _ _ _ h

/-- A loading lane that is primed becomes READY at its boundary (R6). -/
theorem loading_primes {l : LaneId} {s : State} (hst : (s.lane l).state = .loading)
    (hopen : (s.lane l).tally.phase ≠ .closing) (hp : lanePrimed s l = true) :
    bare ((boundaryWork l (entered l s)).lane l) =
        bare (settleLane .ready .primed (waitedLane (entered l s) (enteredLane (s.lane l)))) ∧
      (boundaryWork l (entered l s)).licences = s.licences := by
  have hlane : ((idleRecord l (entered l s)).modLane l fun x =>
      { x with waitingLicence := waitsForLicence (entered l s) x }).lane l =
      waitedLane (entered l s) (enteredLane (s.lane l)) := by
    rw [State.lane_modLane_self, idleRecord_lane_self, entered_lane_self]
    rfl
  have hopen' : ((entered l s).lane l).tally.phase ≠ .closing := by
    rw [entered_lane_self, enteredLane_open hopen]
    exact hopen
  have hlic : (idleRecord l (entered l s)).licences = s.licences :=
    (idleRecord_licences hopen').trans (entered_licences hopen)
  have hprimed : lanePrimed ((idleRecord l (entered l s)).modLane l fun x =>
      { x with waitingLicence := waitsForLicence (entered l s) x }) l = true := by
    obtain ⟨t, k, i, o, hout, -, hstores⟩ := idleLane_outline (s.lane l)
    have hstore (pl : Place) : (getStore (waitedLane (entered l s) (enteredLane (s.lane l))).overlay pl).state =
        (getStore (s.lane l).overlay pl).state := by
      rw [waitedLane, hout]
      exact hstores pl
    have hess : essencePrimed (waitedLane (entered l s) (enteredLane (s.lane l))) = essencePrimed (s.lane l) :=
      (essencePrimed_congr rfl rfl rfl fun _ => rfl).trans (essencePrimed_idle (s.lane l))
    have hloaded : (waitedLane (entered l s) (enteredLane (s.lane l))).loaded = (s.lane l).loaded := by
      rw [waitedLane, hout]
    rw [← hlane] at hstore hess hloaded
    rw [← hp]
    exact lanePrimed_congr hess (hstore .current1) (hstore .current2) (waitsForLicence_congr hlic hloaded)
  rw [boundaryWork_loading ((entered_state l s).trans hst), loadingBoundary]
  rw [if_pos hprimed, enterState_bare, hlane, enterState_licences]
  exact ⟨rfl, hlic⟩

/-- Settles O48. -/
theorem primingCompletes : Obligations.PrimingCompletes := by
  unfold Obligations.PrimingCompletes
  refine fun l s hc hopen => ⟨fun hst hess h1 h2 hids => ?_, fun hst hess hlim => ?_⟩
  · have hprimed : lanePrimed s l = true := by
      unfold lanePrimed
      rw [hess, decide_eq_true h1, decide_eq_true h2, waitsForLicence_of_open hids]
      rfl
    obtain ⟨hbare, hlic⟩ := loading_primes hst hopen hprimed
    obtain ⟨u, hu, hb⟩ := boundary_bounded hc hbare
    have hdue : primedDue l s = true := by
      rw [primedDue, decide_eq_true hst, hprimed]
      rfl
    have hexec : exec (.frameBoundary l) s = .next u := by rw [hu, hb.unlooked rfl]
    obtain ⟨n, hn⟩ := hb.lane
    obtain ⟨t, k, i, o, hout, htally, -⟩ := idleLane_outline (s.lane l)
    rw [waitedLane, hout] at hn
    refine ⟨u, (exec_whole (c := .primed l) rfl hdue).trans hexec, hexec, ?_, ?_, ?_, ?_, ?_, hb.licences.trans hlic, hb.kept⟩
    all_goals rw [hn]
    case refine_5 => exact htally hopen
    all_goals rfl
  · have hlimit : holdLimitDue (s.lane l) = false := decide_eq_false (by omega)
    have hlane : ((idleRecord l (entered l s)).modLane l advanceHold).lane l =
        advanceHold (idleLane (enteredLane (s.lane l))) := by
      rw [State.lane_modLane_self, idleRecord_lane_self, entered_lane_self]
    have hopen' : ((entered l s).lane l).tally.phase ≠ .closing := by
      rw [entered_lane_self, enteredLane_open hopen]
      exact hopen
    have hwork : boundaryWork l (entered l s) =
        enterState l .held .primed ((idleRecord l (entered l s)).modLane l advanceHold) := by
      have hlim' : holdLimitDue ((entered l s).lane l) = false := by
        obtain ⟨t, a, n, i, hx, -⟩ := enteredLane_eq (s.lane l)
        rw [entered_lane_self, hx]
        exact hlimit
      have hess' : essencePrimed (((idleRecord l (entered l s)).modLane l advanceHold).lane l) = true := by
        rw [hlane, ← hess, ← essencePrimed_idle (s.lane l)]
        exact essencePrimed_congr rfl rfl rfl fun _ => rfl
      rw [boundaryWork_seeking ((entered_state l s).trans hst), seekingBoundary]
      rw [hlim', if_neg Bool.false_ne_true, if_pos hess']
    have hlic : (boundaryWork l (entered l s)).licences = s.licences := by
      rw [hwork, enterState_licences]
      exact (idleRecord_licences hopen').trans (entered_licences hopen)
    obtain ⟨u, hu, hb⟩ := boundary_bounded hc
      (y := settleLane .held .primed (advanceHold (idleLane (enteredLane (s.lane l))))) (by
        rw [hwork, enterState_bare, hlane])
    have hdue : seekPrimedDue l s = true := by
      rw [seekPrimedDue, decide_eq_true hst, hess, hlimit]
      rfl
    obtain ⟨n, hn⟩ := hb.lane
    obtain ⟨t, k, i, o, hout, htally, -⟩ := idleLane_outline (s.lane l)
    rw [hout] at hn
    refine ⟨u, (exec_whole (c := .seekPrimed l) rfl hdue).trans hu, ?_, ?_, ?_, ?_, ?_, ?_, hb.licences.trans hlic, hb.kept⟩
    all_goals rw [hn]
    case refine_6 => exact htally hopen
    all_goals rfl

end Sys2Proof.Machine
end

section
/-! The boundaries that stop the lane, complete the show or meet a fault (R17, R24 to R26, R29). -/

namespace Sys2Proof.Machine

/-! ## A presenting boundary -/

/-- Whether a boundary shows a real frame of P. -/
def shownReal (sh : Show) (x : Lane) : Bool := decide ((presentPicture (markedLane sh x)).kind = .real)

theorem realUnits_congr {x y : Lane} (h : ∀ e p, headFor y e p = headFor x e p) (p : Nat) :
    realUnits y p = realUnits x p := by
  unfold realUnits
  rw [h]

theorem markedLane_head (sh : Show) (x : Lane) (e : Essence) (p : Nat) : headFor (markedLane sh x) e p = headFor x e p := by
  obtain ⟨o, w, i, h⟩ := markedLane_eq sh x
  rw [h]
  rfl

theorem markedLane_p (sh : Show) (x : Lane) : (markedLane sh x).p = x.p := by
  obtain ⟨o, w, i, h⟩ := markedLane_eq sh x
  rw [h]

theorem enteredLane_p (x : Lane) : (enteredLane x).p = x.p := by
  obtain ⟨t, a, n, i, h, -⟩ := enteredLane_eq x
  rw [h]

theorem presentPicture_real {x : Lane} {us : List (List Byte)} (h : realUnits x x.p = some us) :
    presentPicture x = ⟨.real, us, true⟩ := by
  unfold presentPicture
  rw [h]

theorem presentPicture_concealed {x : Lane} (h : realUnits x x.p = none) :
    presentPicture x = ⟨if x.lastReal.isSome && x.link.frameHeld then .repeated else .black, [], true⟩ := by
  unfold presentPicture
  rw [h]
  dsimp only
  split <;> rfl

theorem marked_units (sh : Show) (x : Lane) :
    realUnits (markedLane sh (enteredLane x)) (markedLane sh (enteredLane x)).p = realUnits x x.p := by
  rw [markedLane_p, enteredLane_p]
  exact realUnits_congr (fun e p => (markedLane_head sh _ e p).trans (enteredLane_head x e p)) x.p

theorem shownReal_eq (sh : Show) (x : Lane) : shownReal sh (enteredLane x) = (realUnits x x.p).isSome := by
  have hu := marked_units sh x
  unfold shownReal
  cases h : realUnits x x.p with
  | some us =>
    rw [presentPicture_real (hu.trans h)]
    rfl
  | none =>
    rw [presentPicture_concealed (hu.trans h)]
    dsimp only
    split <;> rfl

/-- The boundary of a lane that presents. -/
theorem presents_bounded {l : LaneId} {s : State} {sh : Show} (hc : s.clockUnit.source ≠ .acquiring)
    (hp : presents (s.lane l)) (hl : (s.lane l).loaded = some sh) :
    ∃ u c, exec (.frameBoundary l) s = .next (boundaryLook l false u) ∧
      Bounded l s (advancedLane sh (advanceLane sh (shownReal sh (enteredLane (s.lane l))) c))
        (presentFrame l sh (entered l s)) u ∧
      Scanned (routedLane sh (enteredLane (s.lane l))) c ∧ c = (presented l sh (entered l s)).lane l := by
  obtain ⟨hst, hd, hq⟩ := hp
  have hloaded : (enteredLane (s.lane l)).loaded = some sh := by
    obtain ⟨t, a, n, i, h, -⟩ := enteredLane_eq (s.lane l)
    rw [h]
    exact hl
  have hwork : boundaryWork l (entered l s) = presentFrame l sh (entered l s) := by
    rw [boundaryWork_playing ((entered_state l s).trans hst)]
    refine playingBoundary_presents ?_ ?_ ?_
    · rw [entered_lane_self, enteredLane_holdDue, hd]
    · rw [entered_lane_self, enteredLane_fault, hq]
    · rw [entered_lane_self, hloaded]
  obtain ⟨c, hscan, hcl, hbare⟩ := presentFrame_bare l sh (entered l s)
  rw [entered_lane_self] at hscan hbare
  obtain ⟨u, hu, hb⟩ := boundary_bounded
    (y := advancedLane sh (advanceLane sh (shownReal sh (enteredLane (s.lane l))) c)) hc (by rw [hwork]; exact hbare)
  rw [hwork] at hb
  exact ⟨u, c, hu, hb, hscan, hcl⟩

/-- The lane of a presenting boundary ahead of the advance of P, in outline. -/
theorem scanned_outline {sh : Show} {x c : Lane} (h : Scanned (routedLane sh (enteredLane x)) c) :
    ∃ t k o w i p b m, c =
        { x with
          tally := t
          link := k
          overlay := o
          subWanted := w
          indicators := i
          contacts := b
          scanner := m
          tracks := begunTracks x
          sound := { begunSound x with period := p } } ∧
      (x.tally.phase ≠ .closing → t = x.tally) ∧ linkGood c = linkGood x := by
  obtain ⟨⟨m, b, i, rfl⟩, -⟩ := h
  obtain ⟨t, k, o, w, i', hr, hopen⟩ := routedLane_eq sh (enteredLane x)
  have hgood : linkGood (routedLane sh (enteredLane x)) = linkGood x := by
    obtain ⟨j, hs⟩ := presentSound_eq (soundFor sh (markedLane sh (enteredLane x)) .main (markedLane sh (enteredLane x)).p)
      (soundFor sh (markedLane sh (enteredLane x)) .aux (markedLane sh (enteredLane x)).p) (recordedLane sh (enteredLane x))
    obtain ⟨j', ha⟩ := aheadLane_eq sh (enteredLane x)
    obtain ⟨o', w', j'', hm⟩ := markedLane_eq sh (enteredLane x)
    have hahead : linkGood (aheadLane sh (enteredLane x)) = linkGood (enteredLane x) := by rw [ha, hm]; rfl
    calc linkGood (routedLane sh (enteredLane x))
        = linkGood (recordedLane sh (enteredLane x)) := by rw [routedLane, hs]; rfl
      _ = linkGood (aheadLane sh (enteredLane x)) := linkedLane_good _ _ _ _
      _ = linkGood x := hahead.trans (enteredLane_good x)
  refine ⟨t, k, o, w, i,
    (begunSound x).routing.map (sourceSamples
      (soundFor sh (markedLane sh (enteredLane x)) .main (markedLane sh (enteredLane x)).p)
      (soundFor sh (markedLane sh (enteredLane x)) .aux (markedLane sh (enteredLane x)).p)), b, m, ?_, fun hp => ?_, hgood⟩
  · rw [hr]
    generalize soundFor sh (markedLane sh (enteredLane x)) .main (markedLane sh (enteredLane x)).p = p
    generalize soundFor sh (markedLane sh (enteredLane x)) .aux (markedLane sh (enteredLane x)).p = q
    obtain ⟨t', a, n, i'', hx, -⟩ := enteredLane_eq x
    rw [hx]
  · rw [hopen (by rw [enteredLane_open hp]; exact hp), enteredLane_open hp]

theorem Bounded.p {l : LaneId} {s w u : State} {y : Lane} (h : Bounded l s y w u) : (u.lane l).p = y.p := by
  obtain ⟨n, hn⟩ := h.lane
  rw [hn]
  rfl

theorem stoppedLane_p (c : Cause) (x : Lane) : (stoppedLane c x).p = x.p := (stoppedLane_rest c x).1.2.1

/-! ## Stops (R24 to R26) -/

/-- A stop tells the same of the lane that its boundary began with. -/
theorem stopsWith_of {c : Cause} {x z y : Lane} (ha : z.sound.applied = x.sound.applied)
    (ht : x.tally.phase = .running → z.tally.phase = .running) (hy : ∃ n, y = { rollPeriod (stoppedLane c z) with statusCount := n }) :
    stopsWith c x y := by
  obtain ⟨n, rfl⟩ := hy
  obtain ⟨hst, hcause, htimers, happ, haim, htally⟩ := stoppedLane_stops c z
  rw [ha] at hst happ
  exact ⟨hst, hcause, htimers, happ, haim, fun hp => htally (ht hp)⟩

/-- Both limits of a presentation, after the advance of P (R24, R25). -/
theorem presenting_stops {l : LaneId} {s : State} {sh : Show} (hc : s.clockUnit.source ≠ .acquiring)
    (hp : presents (s.lane l)) (hl : (s.lane l).loaded = some sh) (hn : (s.lane l).p + 1 < sh.total) {cause : Cause}
    (hstop : (graceDue (s.lane l) = true ∧ cause = .linkLost) ∨
      (graceDue (s.lane l) = false ∧ starveDue (s.lane l) = true ∧ cause = .starved)) :
    ∃ u, exec (.frameBoundary l) s = .next (boundaryLook l false u) ∧ stopsWith cause (s.lane l) (u.lane l) ∧
      (u.lane l).p = (s.lane l).p + 1 ∧ boundaryKept l s u := by
  obtain ⟨u, c, hu, hb, hscan, -⟩ := presents_bounded hc hp hl
  have hreal := shownReal_eq sh (s.lane l)
  obtain ⟨t, k, o, w, i, p, b, m, hcl, hopen, hgood⟩ := scanned_outline hscan
  have hadvanced : advancedLane sh (advanceLane sh (shownReal sh (enteredLane (s.lane l))) c) =
      stoppedLane cause (advanceLane sh (shownReal sh (enteredLane (s.lane l))) c) := by
    have htotal : ¬ sh.total ≤ (advanceLane sh (shownReal sh (enteredLane (s.lane l))) c).p := by
      rw [hcl]
      exact Nat.not_le.2 hn
    have hgrace : (advanceLane sh (shownReal sh (enteredLane (s.lane l))) c).linkGrace =
        if linkGood (s.lane l) then 0 else (s.lane l).linkGrace + 1 := by
      rw [← hgood]
      show (if linkGood c then 0 else c.linkGrace + 1) = _
      rw [hcl]
    have hopts : (advanceLane sh (shownReal sh (enteredLane (s.lane l))) c).options = (s.lane l).options := by
      rw [hcl]
      rfl
    unfold advancedLane
    rw [if_neg htotal, hgrace, hopts]
    rcases hstop with ⟨hg, rfl⟩ | ⟨hg, hs, rfl⟩
    · unfold graceDue at hg
      rw [Bool.and_eq_true, Bool.not_eq_true', decide_eq_true_eq] at hg
      rw [hg.1, if_neg Bool.false_ne_true, if_pos hg.2]
    · have hin : ¬ (s.lane l).options.linkGrace < if linkGood (s.lane l) then 0 else (s.lane l).linkGrace + 1 := by
        unfold graceDue at hg
        revert hg
        cases linkGood (s.lane l) with
        | true => exact fun _ => Nat.not_lt_zero _
        | false =>
          intro hg
          rw [if_neg Bool.false_ne_true]
          exact of_decide_eq_false (by rwa [Bool.not_false, Bool.true_and] at hg)
      unfold starveDue at hs
      rw [Bool.and_eq_true, Option.isNone_iff_eq_none, decide_eq_true_eq] at hs
      have hrun : (advanceLane sh (shownReal sh (enteredLane (s.lane l))) c).starveRun = (s.lane l).starveRun + 1 := by
        show (if shownReal sh (enteredLane (s.lane l)) then 0 else c.starveRun + 1) = _
        rw [hreal, hs.1, hcl]
        rfl
      rw [if_neg hin, hrun, if_pos hs.2]
  rw [hadvanced] at hb
  refine ⟨u, hu, stopsWith_of ?_ (fun hr => ?_) hb.lane, ?_, hb.kept⟩
  · rw [hcl]
    rfl
  · show c.tally.phase = .running
    rw [hcl]
    show t.phase = .running
    rw [hopen (not_closing_of_running hr)]
    exact hr
  · rw [hb.p, stoppedLane_p, hcl]
    rfl

/-- Link grace in place of a hold that is then not taken (R25). -/
theorem holdGrace_stops {l : LaneId} {s : State} (hc : s.clockUnit.source ≠ .acquiring) (hst : (s.lane l).state = .playing)
    (hd : holdDue (s.lane l) = true) (hg : graceDue (s.lane l) = true) :
    ∃ u, exec (.frameBoundary l) s = .next (boundaryLook l false u) ∧ stopsWith .linkLost (s.lane l) (u.lane l) ∧
      (u.lane l).p = (s.lane l).p ∧ boundaryKept l s u := by
  obtain ⟨h, hh⟩ := holdDue_iff.1 hd
  have hhold := (Option.filter_eq_some_iff.1 hh).1
  have hwork : boundaryWork l (entered l s) = stopLane l .linkLost (heldRecord l (entered l s)) := by
    rw [boundaryWork_playing ((entered_state l s).trans hst),
      playingBoundary_hold (h := h) (by rw [entered_lane_self, enteredLane_hold, hhold])
        (by rw [entered_lane_self, enteredLane_holdDue, hd]), holdBoundary]
    rw [entered_lane_self, enteredLane_grace, if_pos hg]
  obtain ⟨u, hu, hb⟩ := boundary_bounded (y := stoppedLane .linkLost (heldLane (enteredLane (s.lane l)))) hc (by
    rw [hwork, stopLane_bare, heldRecord_lane_self, entered_lane_self])
  obtain ⟨t, k, i, o, hout, hopen, -⟩ := linkedLane_outline blackClosed [] (enteredLane (s.lane l)).overlay.tileMap (s.lane l)
  have hheld : heldLane (enteredLane (s.lane l)) = _ := hout
  refine ⟨u, hu, stopsWith_of ?_ (fun hr => ?_) hb.lane, ?_, hb.kept⟩
  · rw [hheld]
    rfl
  · rw [hheld]
    show t.phase = .running
    rw [hopen (not_closing_of_running hr)]
    exact hr
  · rw [hb.p, stoppedLane_p, hheld]

theorem boundaryWork_held {l : LaneId} {s : State} (h : (s.lane l).state = .held) :
    boundaryWork l s = heldBoundary l s := by
  unfold boundaryWork
  rw [h]

/-- The hold limit timer at its limit (R26). -/
theorem holdLimit_stops {l : LaneId} {s : State} (hc : s.clockUnit.source ≠ .acquiring)
    (hst : (s.lane l).state = .held ∨ (s.lane l).state = .seeking) (hlim : holdLimitDue (s.lane l) = true) :
    ∃ u, exec (.frameBoundary l) s = .next (boundaryLook l false u) ∧ stopsWith .holdExpired (s.lane l) (u.lane l) ∧
      (u.lane l).p = (s.lane l).p ∧ boundaryKept l s u := by
  have hlim' : holdLimitDue ((entered l s).lane l) = true := by
    obtain ⟨t, a, n, i, hx, -⟩ := enteredLane_eq (s.lane l)
    rw [entered_lane_self, hx]
    exact hlim
  have hwork : boundaryWork l (entered l s) =
      stopLane l .holdExpired ((idleRecord l (entered l s)).modLane l advanceHold) := by
    rcases hst with hst | hst
    · rw [boundaryWork_held ((entered_state l s).trans hst), heldBoundary]
      exact if_pos hlim'
    · rw [boundaryWork_seeking ((entered_state l s).trans hst), seekingBoundary]
      exact if_pos hlim'
  obtain ⟨u, hu, hb⟩ := boundary_bounded
    (y := stoppedLane .holdExpired (advanceHold (idleLane (enteredLane (s.lane l))))) hc (by
    rw [hwork, stopLane_bare, State.lane_modLane_self, idleRecord_lane_self, entered_lane_self])
  obtain ⟨t, k, i, o, hout, hopen, -⟩ := idleLane_outline (s.lane l)
  refine ⟨u, hu, stopsWith_of ?_ (fun hr => ?_) hb.lane, ?_, hb.kept⟩
  · rw [hout]
    rfl
  · rw [hout]
    show t.phase = .running
    rw [hopen (not_closing_of_running hr)]
    exact hr
  · rw [hb.p, stoppedLane_p, hout]
    rfl

/-! ## The end of the show (R17) -/

theorem AsOffered.of_work {l : LaneId} {more : List (Nat × Nat)} {s t : State} (h : LaneWork l more s t)
    (hj : t.journal = s.journal) (hl : t.licences = s.licences) : AsOffered s t :=
  ⟨h.rest.2.1.1, h.rest.2.1.tableAddr, hj, hl, h.keeps.shapeOk⟩

theorem linkBoundary_journal {l : LaneId} {s : State} (pic : Picture) (tiles : List TileUpdate) (map : List Nat)
    (hp : (s.lane l).tally.phase ≠ .closing) (hk : (s.lane l).link.state ≠ .testing) :
    (linkBoundary l pic tiles map s).journal = s.journal := by
  unfold linkBoundary
  split
  · have hroom : ¬ (((s.modLane l makeRoom).lane l).tally.phase = .closing ∧
        hasMark ((s.modLane l makeRoom).lane l).link.awaiting = false) := by
      obtain ⟨u, i, hr⟩ := makeRoom_list (s.lane l)
      rw [State.lane_modLane_self, hr]
      exact fun h => hp h.1
    rw [sendRecord, checkDrained, if_neg hroom]
    rfl
  · next h => exact absurd h hk
  · rfl
  · rfl

theorem journalReelStart_licences (l : LaneId) (s : State) : (journalReelStart l s).licences = s.licences := by
  unfold journalReelStart
  dsimp only
  split
  · rfl
  · split
    · exact offer_licences _ _
    · rfl

theorem journalReelStart_silent {l : LaneId} {s : State} {sh : Show} (hl : (s.lane l).loaded = some sh)
    (hr : isReelStart sh (s.lane l).p = false) : journalReelStart l s = s := by
  unfold isReelStart at hr
  unfold journalReelStart
  dsimp only
  rw [hl, Option.bind_some]
  cases h : reelOf sh (s.lane l).p with
  | none => rfl
  | some r =>
    rw [h] at hr
    exact if_neg (of_decide_eq_false hr)

theorem presentAhead_licences (l : LaneId) (sh : Show) (s : State) : (presentAhead l sh s).licences = s.licences :=
  journalReelStart_licences l s

theorem aheadLane_kept (sh : Show) (x : Lane) :
    (aheadLane sh x).tally = x.tally ∧ (aheadLane sh x).link = x.link ∧ (aheadLane sh x).p = x.p := by
  obtain ⟨i, ha⟩ := aheadLane_eq sh x
  obtain ⟨o, w, j, hm⟩ := markedLane_eq sh x
  rw [ha, hm]
  exact ⟨rfl, rfl, rfl⟩

theorem presented_licences {l : LaneId} {sh : Show} {s : State} (hp : (s.lane l).tally.phase ≠ .closing) :
    (presented l sh s).licences = s.licences := by
  have hahead : ((presentAhead l sh s).lane l).tally.phase ≠ .closing := by
    rw [presentAhead_lane_self, (aheadLane_kept sh _).1]
    exact hp
  rw [presented_eq, cueScan_licences]
  exact (linkBoundary_licences _ _ _ hahead).trans (presentAhead_licences l sh s)

/-- A presentation that writes no entry. -/
theorem presented_silent {l : LaneId} {sh : Show} {s : State} (hp : (s.lane l).tally.phase ≠ .closing)
    (hk : (s.lane l).link.state ≠ .testing) (hl : (s.lane l).loaded = some sh)
    (hr : isReelStart sh (s.lane l).p = false) (hcue : cueTableOf (s.lane l) = none) :
    (presented l sh s).journal = s.journal := by
  have hahead : (presentAhead l sh s).journal = s.journal := by
    show (journalReelStart l s).journal = _
    rw [journalReelStart_silent hl hr]
  obtain ⟨htally, hlink, -⟩ := aheadLane_kept sh (s.lane l)
  have hroutedCue : cueTableOf ((routed l sh s).lane l) = none := by
    obtain ⟨t, k, o, w, i, hx, -⟩ := routedLane_eq sh (s.lane l)
    rw [routed_lane_self, hx]
    exact hcue
  rw [presented_eq, cueScan, hroutedCue]
  refine (linkBoundary_journal _ _ _ ?_ ?_).trans hahead
  · rw [presentAhead_lane_self, htally]
    exact hp
  · rw [presentAhead_lane_self, hlink]
    exact hk

theorem advancedLane_completes {sh : Show} {x : Lane} (h : sh.total ≤ x.p) :
    advancedLane sh x = settleLane .ended .complete (runEndLane .complete x) := if_pos h

/-- The end of a show whose REEL_END hold of the last reel is discarded (R17, R21). -/
theorem completeShow_discards {l : LaneId} {s : State} {sh : Show} {cause : Cause} {merged : Nat}
    (hh : (s.lane l).hold = some ⟨cause, .reelEnd sh.reels.length, merged⟩) (hl : (s.lane l).loaded = some sh) :
    completeShow l s =
      enterState l .ended .complete
        (runEnd l .complete (offer ⟨.holdDiscarded, some l, (s.lane l).p, [cause.ctorIdx, merged]⟩ s)) := by
  unfold completeShow
  dsimp only
  rw [hh, hl]
  dsimp only [Option.map_some]
  rw [if_pos rfl]

theorem enteredLane_loaded (x : Lane) : (enteredLane x).loaded = x.loaded := by
  obtain ⟨t, a, n, i, h, -⟩ := enteredLane_eq x
  rw [h]

theorem entered_asOffered {l : LaneId} {s : State} (h : (s.lane l).tally.phase ≠ .closing) : AsOffered s (entered l s) := by
  rw [entered_open h]
  exact .of_work (beginBoundary_work l [] s) rfl rfl

theorem presented_partsWork (l : LaneId) (sh : Show) (s : State) :
    LaneWork l (partAreas (s.lane l)) s (presented l sh s) := (presented_cueWork sh (List.Subset.refl _)).work

/-- The advance of P to N ends the show, and its last entry before the end stands (R17). -/
theorem completes_boundary {l : LaneId} {s : State} {sh : Show} (hc : s.clockUnit.source ≠ .acquiring)
    (hp : presents (s.lane l)) (hl : (s.lane l).loaded = some sh) (hn : sh.total ≤ (s.lane l).p + 1) :
    ∃ u z, exec (.frameBoundary l) s = .next u ∧
      Bounded l s (settleLane .ended .complete (runEndLane .complete z)) (presentFrame l sh (entered l s)) u ∧
      (∃ t k o w i b m q r, z =
        { s.lane l with
          tally := t
          link := k
          overlay := o
          subWanted := w
          indicators := i
          contacts := b
          scanner := m
          tracks := q
          sound := r
          p := (s.lane l).p + 1
          lastReal := z.lastReal
          starveRun := z.starveRun
          linkGrace := z.linkGrace } ∧ r.applied = (s.lane l).sound.applied ∧
        ((s.lane l).tally.phase ≠ .closing → t = (s.lane l).tally)) ∧
      presentFrame l sh (entered l s) =
        completeShow l ((presented l sh (entered l s)).modLane l (advanceLane sh (shownReal sh (enteredLane (s.lane l))))) ∧
      ((presented l sh (entered l s)).modLane l
        (advanceLane sh (shownReal sh (enteredLane (s.lane l))))).lane l = z := by
  obtain ⟨u, c, hu, hb, hscan, hcl⟩ := presents_bounded hc hp hl
  have hlane : ((presented l sh (entered l s)).modLane l
      (advanceLane sh (shownReal sh (enteredLane (s.lane l))))).lane l =
      advanceLane sh (shownReal sh (enteredLane (s.lane l))) c := by rw [State.lane_modLane_self, ← hcl]
  obtain ⟨t, k, o, w, i, q, b, m, hx, hopen, -⟩ := scanned_outline hscan
  have htotal : sh.total ≤ (advanceLane sh (shownReal sh (enteredLane (s.lane l))) c).p := by
    rw [hx]
    exact hn
  have hwork : presentFrame l sh (entered l s) =
      completeShow l ((presented l sh (entered l s)).modLane l (advanceLane sh (shownReal sh (enteredLane (s.lane l))))) := by
    rw [presentFrame_parts, afterAdvance, entered_lane_self]
    exact if_pos (by
      show sh.total ≤ (((presented l sh (entered l s)).modLane l
        (advanceLane sh (shownReal sh (enteredLane (s.lane l))))).lane l).p
      rw [hlane]
      exact htotal)
  rw [advancedLane_completes htotal] at hb
  refine ⟨u, _, by rw [hu, hb.unlooked rfl], hb, ?_, hwork, hlane⟩
  rw [hx]
  exact ⟨t, k, o, w, i, b, m, _, _, rfl, rfl, hopen⟩

/-- The discarded REEL_END hold of a show that ends is the boundary's first entry (R17). -/
theorem completes_journaled {l : LaneId} {s u : State} {sh : Show} {y z : Lane} {cause : Cause} {merged : Nat}
    (hb : Bounded l s y (presentFrame l sh (entered l s)) u)
    (hwork : presentFrame l sh (entered l s) =
      completeShow l ((presented l sh (entered l s)).modLane l (advanceLane sh (shownReal sh (enteredLane (s.lane l))))))
    (hz : ((presented l sh (entered l s)).modLane l
      (advanceLane sh (shownReal sh (enteredLane (s.lane l))))).lane l = z)
    (hzh : z.hold = (s.lane l).hold) (hzl : z.loaded = (s.lane l).loaded) (hzp : z.p = (s.lane l).p + 1)
    (hl : (s.lane l).loaded = some sh) (hh : (s.lane l).hold = some ⟨cause, .reelEnd sh.reels.length, merged⟩)
    (hopen : (s.lane l).tally.phase ≠ .closing) (hcue : cueTableOf (s.lane l) = none)
    (hr : isReelStart sh (s.lane l).p = false) (hk : (s.lane l).link.state ≠ .testing) (hs : shapeOk s)
    (hroom : ringRoom 1 s) :
    journaled 0 ⟨.holdDiscarded, some l, (s.lane l).p + 1, [cause.ctorIdx, merged]⟩ s u := by
  have hcueE : cueTableOf ((entered l s).lane l) = none := by
    unfold cueTableOf
    rw [entered_lane_self, enteredLane_loaded]
    exact hcue
  have hopenE : ((entered l s).lane l).tally.phase ≠ .closing := by
    rw [entered_lane_self, enteredLane_open hopen]
    exact hopen
  have hsilent : (presented l sh (entered l s)).journal = (entered l s).journal := by
    refine presented_silent hopenE ?_ ?_ ?_ hcueE
    · rw [entered_lane_self, (enteredLane_link _).1]
      exact hk
    · rw [entered_lane_self, enteredLane_loaded]
      exact hl
    · rw [entered_lane_self, enteredLane_p]
      exact hr
  have hpresented : AsOffered (entered l s) (presented l sh (entered l s)) :=
    .of_work (presented_partsWork l sh _) hsilent (presented_licences hopenE)
  have hadvance : AsOffered (presented l sh (entered l s)) ((presented l sh (entered l s)).modLane l
      (advanceLane sh (shownReal sh (enteredLane (s.lane l))))) := modLane_asOffered id
  have hall := ((entered_asOffered hopen).trans hpresented).trans hadvance
  generalize (presented l sh (entered l s)).modLane l (advanceLane sh (shownReal sh (enteredLane (s.lane l)))) = v at hall hz hwork
  rw [completeShow_discards (by rw [hz, hzh, hh]) (by rw [hz, hzl, hl]), hz, hzp] at hwork
  refine journaled_of_offer hall (k := 6) ?_ (by decide) hs hroom
  have hring := hb.ring
  rw [hwork] at hring
  exact ((runEnd_ring l .complete _).trans (enterState_ring l .ended .complete _)).trans hring

/-! ## A STRICT fault (R29) -/

theorem faultedLane_outline (kind : PoisonKind) (track : TrackKind) (frame : Nat) (x : Lane) :
    ∃ t k i, faultedLane kind track frame x =
        settleLane .fault .fault
          { x with
            tally := t
            link := k
            indicators := i
            faultRecord := some ⟨kind, x.p, track, frame, x.indicators.held, reservedLicences x.tally⟩
            sound := { clearLines x.sound with applied := allMute } } ∧
      (x.tally.phase = .running → (t.phase = .closing ∨ t.phase = .closed) ∧ t.endCause = .fault) := by
  obtain ⟨t, k, i, h⟩ := runEndLane_eq .fault (muteAtOnce
    { x with faultRecord := some ⟨kind, x.p, track, frame, x.indicators.held, reservedLicences x.tally⟩ })
  refine ⟨t, k, i, by rw [faultedLane, h]; rfl, fun hr => ?_⟩
  have htally := runEndLane_tally (c := .fault) (x := muteAtOnce
    { x with faultRecord := some ⟨kind, x.p, track, frame, x.indicators.held, reservedLicences x.tally⟩ }) hr
  rw [h] at htally
  exact htally

theorem Lit.snapshot {x y : Lane} (h : Lit x y) : y.indicators.held &&& x.indicators.held = x.indicators.held := by
  obtain ⟨⟨m, hm⟩, -⟩ := h
  rw [hm]
  refine BitVec.eq_of_getLsbD_eq fun i hi => ?_
  rw [BitVec.getLsbD_and, BitVec.getLsbD_or]
  cases x.indicators.held.getLsbD i <;> simp

/-- A boundary in PLAYING that meets a STRICT fault. -/
theorem faults_bounded {l : LaneId} {s : State} {q : PoisonKind × TrackKind × Nat}
    (hc : s.clockUnit.source ≠ .acquiring) (hst : (s.lane l).state = .playing) (hd : holdDue (s.lane l) = false)
    (hq : presentFault (s.lane l) = some q) :
    ∃ u w, exec (.frameBoundary l) s = .next (boundaryLook l false u) ∧
      Bounded l s (faultedLane q.1 q.2.1 q.2.2 (heldLane (enteredLane (s.lane l)))) w u := by
  have hwork : boundaryWork l (entered l s) = faultLane l q.1 q.2.1 q.2.2 (heldRecord l (entered l s)) := by
    rw [boundaryWork_playing ((entered_state l s).trans hst)]
    refine playingBoundary_fault ?_ ?_
    · rw [entered_lane_self, enteredLane_holdDue, hd]
    · rw [entered_lane_self, enteredLane_fault, hq]
  obtain ⟨u, hu, hb⟩ := boundary_bounded
    (y := faultedLane q.1 q.2.1 q.2.2 (heldLane (enteredLane (s.lane l)))) hc (by
      rw [hwork, faultLane_bare, heldRecord_lane_self, entered_lane_self])
  exact ⟨u, _, hu, hb⟩

/-- Settles O47. -/
theorem laneTimersStopTheLane : Obligations.LaneTimersStopTheLane := by
  unfold Obligations.LaneTimersStopTheLane
  refine ⟨fun l s hc => ⟨?starve, ?grace, ?hold, ?limit⟩, fun l s sh hc hp hl hn => ?_,
    fun l s kind track frame hc hst hd hq => ?_⟩
  case starve =>
    intro sh hst hl hd hq hn hgrace hnone hlim
    have hg := graceDue_false hgrace
    have hs : starveDue (s.lane l) = true := by
      rw [starveDue, hnone, decide_eq_true hlim]
      rfl
    have hcomplete : completeDue (s.lane l) = false := by
      rw [completeDue, hl]
      exact decide_eq_false (Nat.not_le.2 hn)
    have hdue : starveExpiryDue l s = true := by
      rw [starveExpiryDue, presentDue, decide_eq_true hst, hd, hq, hs, hg, hcomplete]
      rfl
    obtain ⟨u, hu, hstop⟩ := presenting_stops hc ⟨hst, hd, hq⟩ hl hn (.inr ⟨hg, hs, rfl⟩)
    exact ⟨u, (exec_whole (c := .starveLimitExpiry l) rfl hdue).trans hu, hstop⟩
  case grace =>
    intro sh hst hl hd hq hn hbad hlim
    have hg : graceDue (s.lane l) = true := by
      rw [graceDue, hbad, decide_eq_true hlim]
      rfl
    have hcomplete : completeDue (s.lane l) = false := by
      rw [completeDue, hl]
      exact decide_eq_false (Nat.not_le.2 hn)
    have hdue : graceExpiryDue l s = true := by
      rw [graceExpiryDue, presentDue, decide_eq_true hst, hd, hq, hg, hcomplete]
      rfl
    obtain ⟨u, hu, hstop⟩ := presenting_stops hc ⟨hst, hd, hq⟩ hl hn (.inl ⟨hg, rfl⟩)
    exact ⟨u, (exec_whole (c := .linkGraceExpiry l) rfl hdue).trans hu, hstop⟩
  case hold =>
    intro hst hd hbad hlim
    have hg : graceDue (s.lane l) = true := by
      rw [graceDue, hbad, decide_eq_true hlim]
      rfl
    have hdue : graceExpiryDue l s = true := by
      rw [graceExpiryDue, decide_eq_true hst, hd, hg]
      rfl
    obtain ⟨u, hu, hstop⟩ := holdGrace_stops hc hst hd hg
    exact ⟨u, (exec_whole (c := .linkGraceExpiry l) rfl hdue).trans hu, hstop⟩
  case limit =>
    intro hst hlim
    have hl : holdLimitDue (s.lane l) = true := decide_eq_true hlim
    have hdue : holdExpiryDue l s = true := by
      rw [holdExpiryDue, hl]
      rcases hst with h | h <;> rw [h] <;> rfl
    obtain ⟨u, hu, hstop⟩ := holdLimit_stops hc hst hl
    exact ⟨u, (exec_whole (c := .holdLimitExpiry l) rfl hdue).trans hu, hstop⟩
  · obtain ⟨u, z, hu, hb, ⟨t, k, o, w, i, b, m, q, r, hz, happ, hopen⟩, hwork, hv⟩ := completes_boundary hc hp hl hn
    have htally (hr : (s.lane l).tally.phase = .running) : z.tally.phase = .running := by
      rw [hz]
      show t.phase = .running
      rw [hopen (not_closing_of_running hr)]
      exact hr
    have hzp : z.p = (s.lane l).p + 1 := by rw [hz]
    have hzl : z.loaded = (s.lane l).loaded := by rw [hz]
    have hzh : z.hold = (s.lane l).hold := by rw [hz]
    have hza : z.sound.applied = (s.lane l).sound.applied := by
      rw [hz]
      exact happ
    obtain ⟨t', k', i', hend⟩ := runEndLane_eq .complete z
    have hendTally := runEndLane_tally (c := .complete) (x := z)
    obtain ⟨n', hn'⟩ := hb.lane
    rw [hend] at hn' hendTally
    refine ⟨u, hu, ?_, ?_, ?_, ?_, ?_, ?_, ?_, fun hr => ?_, fun cause merged hh hr hcue hreel hk hs hroom => ?_, hb.kept⟩
    case refine_9 =>
      exact completes_journaled hb hwork hv hzh hzl hzp hl hh (not_closing_of_running hr) hcue hreel hk hs hroom
    all_goals rw [hn']
    case refine_3 => exact hzp
    case refine_4 => exact hzl.trans hl
    case refine_5 => exact ⟨rfl, rfl, rfl, rfl⟩
    case refine_7 => exact hza
    case refine_8 => exact hendTally (htally hr)
    all_goals rfl
  · obtain ⟨u, w, hu, hb⟩ := faults_bounded hc hst hd hq
    have hkept := WorkKept.faulted kind track frame (heldLane (enteredLane (s.lane l)))
    have hlit := (lit_enteredLane (s.lane l)).trans
      (lit_linkedLane blackClosed [] (enteredLane (s.lane l)).overlay.tileMap (enteredLane (s.lane l)))
    obtain ⟨hlink, hseq, -⟩ := enteredLane_link (s.lane l)
    obtain ⟨t, k, i, o, hout, hopen, -⟩ := linkedLane_outline blackClosed [] (enteredLane (s.lane l)).overlay.tileMap (s.lane l)
    have hheld : heldLane (enteredLane (s.lane l)) = _ := hout
    obtain ⟨t', k', i', hf, htally⟩ := faultedLane_outline kind track frame (heldLane (enteredLane (s.lane l)))
    obtain ⟨n, hn⟩ := hb.lane
    have ho : (u.lane l).overlay = (heldLane (enteredLane (s.lane l))).overlay := by
      rw [hn]
      exact hkept.overlay
    have hfwd : (u.lane l).link.forward = (heldLane (enteredLane (s.lane l))).link.forward := by
      rw [hn]
      exact hkept.forward
    have hsent : (s.lane l).link.state = .locked → sentBlack (s.lane l) (u.lane l) := fun hk => by
      obtain ⟨r, hr, hrs, hkind, hshut, hunits, -⟩ := linkedLane_black (hlink.trans hk) hfwd
      exact ⟨r, hr, hrs.trans hseq, hkind, hshut, hunits⟩
    have hpal := palettesHandled_of_linked hlink (enteredLane_palettes (s.lane l)) ho hfwd
    dsimp only at hn
    rw [hf] at hn
    refine ⟨u, _, hu, ?_, ?_, ?_, ?_, ?_, ?_, ?_, by rw [hn]; rfl, rfl, ?_, rfl, rfl, ?_, fun hr => ⟨?_, ?_⟩, hsent, hpal, hb.kept⟩
    case refine_9 => exact hlit.snapshot
    case refine_10 =>
      show reservedLicences (heldLane (enteredLane (s.lane l))).tally = _
      rw [hheld]
      show reservedLicences t = _
      rw [hopen (not_closing_of_running hr)]
    case refine_11 =>
      rw [hn]
      refine htally ?_
      rw [hheld]
      show t.phase = .running
      rw [hopen (not_closing_of_running hr)]
      exact hr
    case refine_8 =>
      show (heldLane (enteredLane (s.lane l))).p = _
      rw [hheld]
    all_goals rw [hn]
    case refine_6 => exact ⟨rfl, rfl, rfl, rfl⟩
    case refine_5 =>
      intro e
      rw [hheld]
      exact (begunTracks_queue (s.lane l) e).1
    case refine_3 => rw [hheld]; rfl
    case refine_4 => rw [hheld]; rfl
    all_goals rfl

end Sys2Proof.Machine
end

section
/-! The closing window at its boundaries, and the link test at its own (R101, R102, R123, R124). -/

namespace Sys2Proof.Machine

/-! ## An idle boundary -/

theorem boundaryWork_idle_of {l : LaneId} {s : State} (h : (s.lane l).state = .empty ∨ (s.lane l).state = .ended) :
    boundaryWork l (entered l s) = idleRecord l (entered l s) := by
  refine boundaryWork_rests ?_
  rw [entered_state]
  rcases h with h | h <;> rw [h] <;> rfl

/-- The boundary of a lane that is EMPTY or ENDED, at which no slot is looked at. -/
theorem idle_bounded {l : LaneId} {s : State} (hc : s.clockUnit.source ≠ .acquiring)
    (h : (s.lane l).state = .empty ∨ (s.lane l).state = .ended) :
    ∃ u, exec (.frameBoundary l) s = .next u ∧
      Bounded l s (idleLane (enteredLane (s.lane l))) (idleRecord l (entered l s)) u := by
  obtain ⟨u, hu, hb⟩ := boundary_bounded (y := idleLane (enteredLane (s.lane l))) hc (by
    rw [boundaryWork_idle_of h, idleRecord_lane_self, entered_lane_self])
  rw [boundaryWork_idle_of h] at hb
  have hrest : looksAtSlot (idleLane (enteredLane (s.lane l))).state = false := by
    obtain ⟨t, k, i, o, hout, -⟩ := idleLane_outline (s.lane l)
    rw [hout]
    show looksAtSlot (s.lane l).state = false
    rcases h with h | h <;> rw [h] <;> rfl
  exact ⟨u, by rw [hu, hb.unlooked hrest], hb⟩

theorem linkBoundary_ring (l : LaneId) (pic : Picture) (tiles : List TileUpdate) (map : List Nat) (s : State) :
    RingWork 2 s (linkBoundary l pic tiles map s) := by
  have hmod (f : Link → Link) (u : State) : RingWork 0 u (modLink l f u) := modLane_ring_of_shape id
  unfold linkBoundary
  split
  · exact ((modLane_ring_of_shape (makeRoom_apart _).shape).trans (checkDrained_ring l _)).trans (modLane_ring_of_shape id)
  · unfold testBoundary
    dsimp only
    split
    · exact (hmod _ s).mono (Nat.zero_le 2)
    · split
      · exact ((hmod _ s).trans (hmod _ _)).trans (offer_ring _ _)
      · exact (hmod _ s).mono (Nat.zero_le 2)
  · exact (hmod _ s).mono (Nat.zero_le 2)
  · exact (hmod _ s).mono (Nat.zero_le 2)

/-! ## The closing window (R101, R102) -/

/-- A lane of a closing window once the boundary has counted. -/
def countedLane (x : Lane) : Lane := { x with tally := { x.tally with window := x.tally.window + 1 } }

theorem windowLane_expired {x : Lane} (hp : x.tally.phase = .closing) (hw : 8 ≤ x.tally.window + 1) :
    windowLane x = closedLane (countedLane x) := by
  unfold windowLane
  rw [if_pos hp]
  exact if_pos hw

theorem windowLane_counts {x : Lane} (hp : x.tally.phase = .closing) (hw : ¬ 8 ≤ x.tally.window + 1) :
    windowLane x = countedLane x := by
  unfold windowLane
  rw [if_pos hp]
  exact if_neg hw

theorem beginBoundary_kept (x : Lane) :
    (beginBoundary x).tally = x.tally ∧ (beginBoundary x).link = x.link ∧ (beginBoundary x).p = x.p := by
  obtain ⟨i, h, -⟩ := beginBoundary_sound x
  rw [h]
  exact ⟨rfl, rfl, rfl⟩

theorem hasMark_append (xs : List Awaiting) (e : Awaiting) : hasMark (xs ++ [e]) = (hasMark xs || e.runMark) := by
  simp [hasMark]

theorem hasMark_drop {xs : List Awaiting} {n : Nat} (h : hasMark xs = false) : hasMark (xs.drop n) = false :=
  List.any_eq_false.2 fun e he => List.any_eq_false.1 h e (List.mem_of_mem_drop he)

theorem hasMark_roomyList {x : Lane} (h : hasMark x.link.awaiting = false) : hasMark (roomyList x) = false := by
  unfold roomyList
  split
  · exact hasMark_drop h
  · exact h

theorem afterMarks_hasMark (xs : List Awaiting) : hasMark (afterMarks xs) = false :=
  List.any_eq_false.2 fun e he => by
    have := List.mem_takeWhile_imp (List.mem_reverse.1 he)
    rw [Bool.not_eq_true'] at this
    rw [this]
    exact Bool.false_ne_true

theorem closedLane_unmarked (x : Lane) : hasMark (closedLane x).link.awaiting = false := by
  obtain ⟨i, h⟩ := setIndicatorIf_eq
    (decide (x.link.awaiting.length - (afterMarks x.link.awaiting).length ≠ 0)) .unseen
    { x with link := { x.link with
      awaiting := afterMarks x.link.awaiting
      unseen := saturate16 (x.link.unseen + (x.link.awaiting.length - (afterMarks x.link.awaiting).length)) } }
  rw [closedLane, dropMarked, dropUnseen, h]
  exact afterMarks_hasMark _

theorem testedLink_awaiting (k : Link) : (testedLink k).awaiting = k.awaiting := by
  unfold testedLink
  dsimp only
  split
  · rfl
  · split <;> rfl

/-- A record of no run leaves the list without an entry of one. -/
theorem linkedLane_unmarked {pic : Picture} {tiles : List TileUpdate} {map : List Nat} {x : Lane}
    (hm : hasMark x.link.awaiting = false) (hr : x.tally.phase ≠ .running) (hc : x.tally.phase ≠ .closing) :
    hasMark (linkedLane pic tiles map x).link.awaiting = false := by
  unfold linkedLane
  split
  · next h =>
    obtain ⟨t, a, n, e, i, hrec, hopen⟩ := recordLane_eq (pic := pic) (tiles := tiles) (map := map) h
    obtain ⟨rfl, rfl⟩ := hopen hc
    rw [hrec]
    show hasMark (roomyList x ++ [_]) = false
    rw [hasMark_append, hasMark_roomyList hm, decide_eq_false hr]
    rfl
  · show hasMark (testedLink x.link).awaiting = false
    rw [testedLink_awaiting]
    exact hm
  · exact hm
  · exact hm

theorem idleLane_tally {x : Lane} (h : x.tally.phase ≠ .closing) : (idleLane x).tally = x.tally := by
  obtain ⟨t, k, i, hx, hopen⟩ := linkedLane_eq blackClosed (clearUpdates x.overlay.tileMap) [] x
  rw [idleLane, hx]
  exact hopen h

theorem closedTally_entries (t : Tally) :
    (closedTally t).entries = t.entries.map fun e => if e.status = .reserved then { e with status := .released } else e := by
  show t.entries.map releaseEntry = _
  refine List.map_congr_left fun e _ => ?_
  rfl

/-- The eighth boundary of a closing window closes the tally (R101, R102). -/
theorem entered_expires {l : LaneId} {s : State} (hp : (s.lane l).tally.phase = .closing)
    (hw : 8 ≤ (s.lane l).tally.window + 1) :
    entered l s = closeTally l .expired (modTally l (fun t => { t with window := t.window + 1 }) (s.modLane l beginBoundary)) := by
  obtain ⟨ht, -⟩ := beginBoundary_kept (s.lane l)
  have hphase : ((s.modLane l beginBoundary).lane l).tally.phase = .closing := by
    rw [State.lane_modLane_self, ht, hp]
  have hdue : Config.windowLength ≤ ((s.modLane l beginBoundary).lane l).tally.window + 1 := by
    rw [State.lane_modLane_self, ht]
    exact hw
  unfold entered windowTick
  rw [if_pos hphase]
  exact if_pos hdue

theorem entered_counts {l : LaneId} {s : State} (hp : (s.lane l).tally.phase = .closing)
    (hw : ¬ 8 ≤ (s.lane l).tally.window + 1) :
    entered l s = modTally l (fun t => { t with window := t.window + 1 }) (s.modLane l beginBoundary) := by
  obtain ⟨ht, -⟩ := beginBoundary_kept (s.lane l)
  have hphase : ((s.modLane l beginBoundary).lane l).tally.phase = .closing := by
    rw [State.lane_modLane_self, ht, hp]
  have hdue : ¬ Config.windowLength ≤ ((s.modLane l beginBoundary).lane l).tally.window + 1 := by
    rw [State.lane_modLane_self, ht]
    exact hw
  unfold entered windowTick
  rw [if_pos hphase]
  exact if_neg hdue

/-- The lane whose closing window expires, ahead of the boundary's record. -/
theorem enteredLane_expired {x : Lane} (hp : x.tally.phase = .closing) (hw : 8 ≤ x.tally.window + 1) :
    (enteredLane x).tally = closedTally { x.tally with window := x.tally.window + 1 } ∧
      hasMark (enteredLane x).link.awaiting = false := by
  obtain ⟨ht, -⟩ := beginBoundary_kept x
  rw [enteredLane, windowLane_expired (by rw [ht, hp]) (by rw [ht]; exact hw)]
  refine ⟨?_, closedLane_unmarked _⟩
  show closedTally { (beginBoundary x).tally with window := (beginBoundary x).tally.window + 1 } = _
  rw [ht]

theorem expiry_licences {l : LaneId} {s : State} (hp : (s.lane l).tally.phase = .closing)
    (hw : 8 ≤ (s.lane l).tally.window + 1) :
    (idleRecord l (entered l s)).licences =
      { s.licences with records := recordsReleased (s.lane l).tally s.licences.records } := by
  have hopen : ((entered l s).lane l).tally.phase ≠ .closing := by
    rw [entered_lane_self, (enteredLane_expired hp hw).1]
    exact fun h => nomatch h
  have htally : ((modTally l (fun t => { t with window := t.window + 1 }) (s.modLane l beginBoundary)).lane l).tally =
      { (s.lane l).tally with window := (s.lane l).tally.window + 1 } := by
    rw [modTally, State.lane_modLane_self, State.lane_modLane_self, (beginBoundary_kept _).1]
  rw [idleRecord_licences hopen, entered_expires hp hw, closeTally_licences, htally]
  rfl

/-- An entry that tells the same of two states. -/
theorem journaled_of_same {e : JournalEntry} {s w t : State} (hj : w.journal = s.journal) (ht : tableAddr w = tableAddr s)
    (hc : w.licences.clock = s.licences.clock) (hv : w.licences.clockValid = s.licences.clockValid)
    (h : journaled 0 e w t) : journaled 0 e s t := by
  unfold journaled journalAddr entryBytes entriesOn at h ⊢
  rw [hj, ht, hc, hv] at h
  exact h

theorem expiry_journaled {l : LaneId} {s u : State} {y : Lane} (hb : Bounded l s y (idleRecord l (entered l s)) u)
    (hp : (s.lane l).tally.phase = .closing) (hw : 8 ≤ (s.lane l).tally.window + 1)
    (he : (s.lane l).tally.entries ≠ []) (hs : shapeOk s) (hroom : ringRoom 1 s) :
    journaled 0
      ⟨.tallyClosed, some l, (s.lane l).p,
        [(s.lane l).tally.endCause.ctorIdx, WayClosed.expired.ctorIdx, countStatus .reserved (s.lane l).tally]⟩ s u := by
  have hlane : (modTally l (fun t => { t with window := t.window + 1 }) (s.modLane l beginBoundary)).lane l =
      countedLane (beginBoundary (s.lane l)) := by
    rw [modTally, State.lane_modLane_self, State.lane_modLane_self]
    rfl
  obtain ⟨ht, -, hpp⟩ := beginBoundary_kept (s.lane l)
  have hbegun : AsOffered s (s.modLane l beginBoundary) := .of_work (beginBoundary_work l [] s) rfl rfl
  have hcounted := hbegun.trans (modLane_asOffered (l := l)
    (f := fun x => { x with tally := { x.tally with window := x.tally.window + 1 } }) id)
  have hring := hb.ring
  rw [entered_expires hp hw] at hring
  unfold modTally at hlane hring
  generalize (s.modLane l beginBoundary).modLane l
    (fun x => { x with tally := { x.tally with window := x.tally.window + 1 } }) = v at hlane hcounted hring
  have hnonempty : (v.lane l).tally.entries.isEmpty = false := by
    rw [hlane]
    show (beginBoundary (s.lane l)).tally.entries.isEmpty = false
    rw [ht]
    cases hent : (s.lane l).tally.entries with
    | nil => exact absurd hent he
    | cons e es => rfl
  have hclose : closeTally l .expired v =
      offer (tallyClosedEntry l (v.lane l) .expired)
        ((releaseAll (reservedLicences (v.lane l).tally) v).modLane l closedLane) := by
    unfold closeTally
    dsimp only
    rw [hnonempty]
    rfl
  have hshape : shapeOk ((releaseAll (reservedLicences (v.lane l).tally) v).modLane l closedLane) :=
    (Keeps.modLane (closedLane_keeps _)).shapeOk ((modLicences_work _ l [] v).keeps.shapeOk (hcounted.shape hs))
  have hentry : tallyClosedEntry l (v.lane l) .expired =
      ⟨.tallyClosed, some l, (s.lane l).p,
        [(s.lane l).tally.endCause.ctorIdx, WayClosed.expired.ctorIdx, countStatus .reserved (s.lane l).tally,
          countStatus .counted (s.lane l).tally]⟩ := by
    have hcount (st : EntryStatus) : countStatus st (countedLane (beginBoundary (s.lane l))).tally =
        countStatus st (s.lane l).tally := by
      show countStatus st { (beginBoundary (s.lane l)).tally with window := _ } = _
      rw [ht]
      rfl
    have hcause : (countedLane (beginBoundary (s.lane l))).tally.endCause = (s.lane l).tally.endCause := by
      show (beginBoundary (s.lane l)).tally.endCause = _
      rw [ht]
    have hpl : (countedLane (beginBoundary (s.lane l))).p = (s.lane l).p := hpp
    rw [tallyClosedEntry, hlane, hcount, hcount, hcause, hpl]
  have hidle := linkBoundary_ring l blackClosed (clearUpdates ((closeTally l .expired v).lane l).overlay.tileMap) []
    (closeTally l .expired v)
  have hall : RingWork 2 (closeTally l .expired v) u := hidle.trans hring
  rw [hclose, hentry] at hall
  obtain ⟨hdev, hz, hfree⟩ := hroom
  have hjournal := journaled_of_offer (AsOffered.refl _) hall (by decide) hshape
    ⟨hcounted.device.trans hdev, (congrArg Journal.withheld hcounted.journal).trans hz, fun k hk => by
      have := hfree k hk
      rw [← hcounted.journal] at this
      exact this⟩
  refine journaled_words rfl (journaled_of_same hcounted.journal hcounted.table ?_ ?_ hjournal)
  · exact congrArg LicenceTable.clock hcounted.licences
  · exact congrArg LicenceTable.clockValid hcounted.licences

/-! ## A boundary of the window before its last -/

theorem counting_unclosed {x : Lane} (h : x.link.awaiting.length < 8 ∨ hasMark (x.link.awaiting.drop 1) = true)
    (hm : hasMark x.link.awaiting = true) : hasMark (roomyList x) = true := by
  unfold roomyList
  split
  · next h8 =>
    rcases h with h | h
    · omega
    · exact h
  · exact hm

theorem recordLane_marked {pic : Picture} {tiles : List TileUpdate} {map : List Nat} {x : Lane}
    (hm : hasMark (roomyList x) = true) : (recordLane pic tiles map x).tally = x.tally := by
  obtain ⟨u, i, hroom⟩ := makeRoom_list x
  have hno : ¬ ((makeRoom x).tally.phase = .closing ∧ hasMark (makeRoom x).link.awaiting = false) := by
    rw [hroom]
    exact fun h => absurd (hm.symm.trans h.2) (by decide)
  rw [recordLane, drainedLane, if_neg hno, hroom]
  rfl

theorem sendRecord_licences_marked {l : LaneId} {pic : Picture} {tiles : List TileUpdate} {map : List Nat} {s : State}
    (hm : hasMark (roomyList (s.lane l)) = true) : (sendRecord l pic tiles map s).licences = s.licences := by
  obtain ⟨u, i, hroom⟩ := makeRoom_list (s.lane l)
  have hno : ¬ (((s.modLane l makeRoom).lane l).tally.phase = .closing ∧
      hasMark ((s.modLane l makeRoom).lane l).link.awaiting = false) := by
    rw [State.lane_modLane_self, hroom]
    exact fun h => absurd (hm.symm.trans h.2) (by decide)
  rw [sendRecord, checkDrained, if_neg hno]
  rfl

/-- A boundary of a closing window before its eighth counts, and drains nothing while an entry of the run is left. -/
theorem window_counts {l : LaneId} {s : State} (hp : (s.lane l).tally.phase = .closing)
    (hw : (s.lane l).tally.window + 1 < 8) (hk : (s.lane l).link.state = .locked)
    (hm : hasMark (roomyList (s.lane l)) = true) :
    (idleLane (enteredLane (s.lane l))).tally = { (s.lane l).tally with window := (s.lane l).tally.window + 1 } ∧
      (idleRecord l (entered l s)).licences = s.licences := by
  obtain ⟨ht, hlink, -⟩ := beginBoundary_kept (s.lane l)
  have hentered : enteredLane (s.lane l) = countedLane (beginBoundary (s.lane l)) :=
    windowLane_counts (by rw [ht, hp]) (by rw [ht]; omega)
  have hlocked : (enteredLane (s.lane l)).link.state = .locked := (enteredLane_link _).1.trans hk
  have hroomy : roomyList (enteredLane (s.lane l)) = roomyList (s.lane l) := by
    rw [hentered]
    show roomyList { beginBoundary (s.lane l) with tally := _ } = _
    unfold roomyList
    dsimp only
    rw [hlink]
  have hmark : hasMark (roomyList (enteredLane (s.lane l))) = true := by rw [hroomy, hm]
  refine ⟨?_, ?_⟩
  · rw [idleLane, linkedLane_locked hlocked, recordLane_marked hmark, hentered]
    show { (beginBoundary (s.lane l)).tally with window := (beginBoundary (s.lane l)).tally.window + 1 } = _
    rw [ht]
  · have hlane := entered_lane_self l s
    have hlic : (entered l s).licences = s.licences := by
      rw [entered_counts hp (by omega)]
      rfl
    rw [← hlic]
    generalize entered l s = v at hlane
    rw [← hlane] at hlocked hmark
    unfold idleRecord linkBoundary
    rw [hlocked]
    exact sendRecord_licences_marked hmark

/-! ## The link test (R123, R124) -/

theorem testedLink_sends {k : Link} (h : 0 < k.test.left) : testedLink k = sendTest k := if_pos h

theorem testedLink_settles {k : Link} (h : k.test.left = 0) (hs : 1 < k.test.settle) :
    testedLink k = { idleLink k with test := { k.test with settle := k.test.settle - 1 } } := by
  unfold testedLink
  rw [if_neg (by omega)]
  exact if_neg (by omega)

theorem testedLink_ends {k : Link} (h : k.test.left = 0) (hs : k.test.settle = 1) :
    testedLink k =
      trainLink true (endTest true { idleLink k with test := { k.test with settle := k.test.settle - 1 } }) := by
  unfold testedLink
  rw [if_neg (by omega)]
  exact if_pos (by omega)

theorem testResult_ctorIdx (n : Nat) :
    (if n = 0 then TestResult.pass else TestResult.fail).ctorIdx = if n = 0 then 1 else 2 := by
  split <;> rfl

theorem idleLane_testing {x : Lane} (h : x.link.state = .testing) :
    idleLane (enteredLane x) = { enteredLane x with link := testedLink (enteredLane x).link } :=
  linkedLane_testing ((enteredLane_link x).1.trans h)

theorem enteredLane_link_eq (x : Lane) :
    (enteredLane x).link =
      { x.link with awaiting := (enteredLane x).link.awaiting, unseen := (enteredLane x).link.unseen } := by
  obtain ⟨t, a, n, i, h, -⟩ := enteredLane_eq x
  rw [h]

theorem enteredLane_link_open {x : Lane} (h : x.tally.phase ≠ .closing) : (enteredLane x).link = x.link := by
  obtain ⟨t, a, n, i, hx, hopen⟩ := enteredLane_eq x
  obtain ⟨-, rfl, rfl⟩ := hopen h
  rw [hx]

/-- The end of a test is the last thing that its boundary writes. -/
theorem testBoundary_ends {l : LaneId} {s : State} (h : (s.lane l).link.test.left = 0) (hs : (s.lane l).link.test.settle = 1) :
    ∃ v, testBoundary l s = offerLink l (resultWords (testedLink (s.lane l).link)) v ∧ AsOffered s v ∧
      (v.lane l).p = (s.lane l).p := by
  have hlane := testBoundary_lane_self l s
  have hsettle := modLink_asOffered l (fun k => { idleLink k with test := { k.test with settle := k.test.settle - 1 } }) s
  unfold testBoundary at hlane ⊢
  dsimp only at hlane ⊢
  rw [if_neg (by omega), if_pos (by omega), completeTest] at hlane ⊢
  refine ⟨_, ?_, hsettle.trans (modLink_asOffered l (fun k => trainLink true (endTest true k)) _), ?_⟩
  · rw [offerLink_lane] at hlane
    rw [hlane]
  · rw [modLink_lane, modLink_lane]

/-- The end of a link test (R123, R124). -/
theorem linkTest_ends {l : LaneId} {s : State} (hc : s.clockUnit.source ≠ .acquiring)
    (hst : (s.lane l).state = .empty ∨ (s.lane l).state = .ended) (hk : (s.lane l).link.state = .testing)
    (hleft : (s.lane l).link.test.left = 0) (hset : (s.lane l).link.test.settle = 1) :
    ∃ u, exec (.frameBoundary l) s = .next u ∧
      (u.lane l).link = testedLink (enteredLane (s.lane l)).link ∧ (u.lane l).state = (s.lane l).state ∧
      linkJournaled l (resultWords (testedLink (enteredLane (s.lane l)).link)) s u ∧ boundaryKept l s u := by
  obtain ⟨u, hu, hb⟩ := idle_bounded hc hst
  have hlink := enteredLane_link_eq (s.lane l)
  obtain ⟨n, hn⟩ := hb.lane
  have hlane : (u.lane l).link = testedLink (enteredLane (s.lane l)).link := by
    rw [hn, idleLane_testing hk]
    rfl
  have hstate : (u.lane l).state = (s.lane l).state := by
    obtain ⟨t, k, i, o, hout, -⟩ := idleLane_outline (s.lane l)
    rw [hn, hout]
    rfl
  refine ⟨u, hu, hlane, hstate, fun hs hroom hopen => ?_, hb.kept⟩
  obtain ⟨v, hv, hoff, hp⟩ := testBoundary_ends (l := l) (s := entered l s)
    (by rw [entered_lane_self, hlink]; exact hleft) (by rw [entered_lane_self, hlink]; exact hset)
  rw [entered_lane_self, enteredLane_p] at hp
  rw [entered_lane_self] at hv
  have hwork : idleRecord l (entered l s) = offerLink l (resultWords (testedLink (enteredLane (s.lane l)).link)) v := by
    rw [← hv]
    unfold idleRecord linkBoundary
    rw [entered_lane_self, (enteredLane_link _).1, hk]
  have hring := hb.ring
  rw [hwork, offerLink, hp] at hring
  exact journaled_of_offer ((entered_asOffered hopen).trans hoff) hring (by decide) hs hroom

/-- Settles O49. -/
theorem closingWindowAndLinkTestEnd : Obligations.ClosingWindowAndLinkTestEnd := by
  unfold Obligations.ClosingWindowAndLinkTestEnd
  refine ⟨fun l s hc hst hp hm => ⟨fun hw => ?_, fun hw hroom hk => ?_⟩, fun l s hc hst hk hleft hset => ?_,
    fun l s hc hst hk hlist hwin => ?_⟩
  · obtain ⟨u, hu, hb⟩ := idle_bounded hc (.inr hst)
    have hdue : windowDue l s = true := by
      rw [windowDue, decide_eq_true hp, hw]
      rfl
    obtain ⟨htally, hunmarked⟩ := enteredLane_expired hp (Nat.le_of_eq hw.symm)
    have hclosed : (enteredLane (s.lane l)).tally.phase = .closed := by rw [htally]; rfl
    have hopen : (enteredLane (s.lane l)).tally.phase ≠ .closing := by rw [hclosed]; decide
    have hnew : (u.lane l).tally = closedTally { (s.lane l).tally with window := (s.lane l).tally.window + 1 } := by
      obtain ⟨n, hn⟩ := hb.lane
      rw [hn, ← htally]
      exact idleLane_tally hopen
    have hmarks : hasMark (u.lane l).link.awaiting = false := by
      obtain ⟨n, hn⟩ := hb.lane
      rw [hn]
      exact linkedLane_unmarked hunmarked (by rw [hclosed]; decide) hopen
    obtain ⟨n, hn⟩ := hb.lane
    obtain ⟨t, k, i, o, hout, -⟩ := idleLane_outline (s.lane l)
    rw [hout] at hn
    refine ⟨u, (exec_whole (c := .closingWindowExpired l) rfl hdue).trans hu, hu, by rw [hnew]; rfl,
      by rw [hnew]; exact hw, expiry_journaled hb hp (Nat.le_of_eq hw.symm), by rw [hnew]; exact closedTally_entries _,
      hb.licences.trans (expiry_licences hp (Nat.le_of_eq hw.symm)), hmarks, ?_, ?_, hb.kept⟩
    · rw [hn]
      exact hst
    · rw [hn]
      rfl
  · obtain ⟨u, hu, hb⟩ := idle_bounded hc (.inr hst)
    obtain ⟨htally, hlic⟩ := window_counts hp hw hk (counting_unclosed hroom hm)
    refine ⟨u, hu, ?_, hb.licences.trans hlic, hb.kept⟩
    obtain ⟨n, hn⟩ := hb.lane
    rw [hn]
    exact htally
  · obtain ⟨u, hu, hlink, hstate, hj, hkept⟩ := linkTest_ends hc hst hk hleft hset
    have heq := enteredLane_link_eq (s.lane l)
    have hends := testedLink_ends (k := (enteredLane (s.lane l)).link) (by rw [heq]; exact hleft) (by rw [heq]; exact hset)
    have hdue : testDue (s.lane l) = true := by
      rw [testDue, hk, hleft, hset]
      rfl
    have hn : (testedLink (enteredLane (s.lane l)).link).heldTest =
        ⟨if min 65535 ((s.lane l).link.test.errors + ((s.lane l).link.test.sent.filter fun r => !r.2).length) = 0
          then .pass else .fail,
          min 65535 ((s.lane l).link.test.errors + ((s.lane l).link.test.sent.filter fun r => !r.2).length),
          (s.lane l).link.test.sent.length⟩ := by
      rw [hends, heq]
      rfl
    rw [resultWords, hn] at hj
    dsimp only at hj
    rw [testResult_ctorIdx] at hj
    refine ⟨u, _, (exec_whole (c := .linkTestComplete l) rfl hdue).trans hu, hu, ?_, ?_, ?_, rfl, ?_, ?_, ?_, hstate, hj, hkept⟩
    · rw [hlink, hends]; rfl
    · rw [hlink, hends]; rfl
    · rw [hlink, hn]
    · rw [hlink, hn]
    · rw [hlink, hn]
    · rw [hlink, hends]; rfl
  · obtain ⟨u, hu, hb⟩ := idle_bounded hc hst
    have hempty : (s.lane l).link.awaiting = [] := hlist.2.2 (by rw [hk]; decide)
    have hopen : (s.lane l).tally.phase ≠ .closing := fun hp => by
      have hmark := hwin hp
      rw [hempty] at hmark
      cases hmark
    have hlane : (u.lane l).link = testedLink (s.lane l).link := by
      obtain ⟨n, hn⟩ := hb.lane
      rw [hn, idleLane_testing hk, enteredLane_link_open hopen]
      rfl
    refine ⟨u, hu, fun hleft => ?_, fun hleft hset => ?_, hb.kept⟩
    · rw [hlane, testedLink_sends hleft]
      rfl
    · have hf : idleForward (s.lane l).link = .nothing := by
        unfold idleForward
        rw [hk]
      rw [hlane, testedLink_settles hleft hset, idleLink, hf]

end Sys2Proof.Machine
end

section
/-! The overlay of a presenting boundary: its stores, its tiles and what its record sends (R133 to R141). -/

namespace Sys2Proof.Machine

/-! ## The stores at the first frame of a reel (R133) -/

/-- The overlay once the stores have moved up at the first frame of a reel (R133, R138). -/
def movedOverlay (sh : Show) (i : Nat) (r : Reel) (p : Nat) (o : Overlay) : Overlay :=
  if r.start = p then
    if 2 ≤ i ∧ o.current1.reel + 1 = i then
      { o with
        current1 := o.next1
        current2 := o.next2
        next1 := freshStore sh (i + 1) .one
        next2 := freshStore sh (i + 1) .two
        palettePending := ⟨true, true⟩ }
    else { o with palettePending := ⟨true, true⟩ }
  else o

theorem storesAtReelStart_overlay {x : Lane} {sh : Show} {i : Nat} {r : Reel} (hl : x.loaded = some sh)
    (hr : reelOf sh x.p = some (i, r)) : (storesAtReelStart x).overlay = movedOverlay sh i r x.p x.overlay := by
  unfold storesAtReelStart movedOverlay
  rw [hl, Option.bind_some, hr]
  dsimp only
  by_cases hs : r.start = x.p
  · rw [if_neg (not_not.2 hs), if_pos hs]
    by_cases h2 : 2 ≤ i ∧ servedReel x + 1 = i
    · rw [if_pos h2, if_pos (show 2 ≤ i ∧ x.overlay.current1.reel + 1 = i from h2), succession_overlay, hl]
      rfl
    · rw [if_neg h2, if_neg (show ¬ (2 ≤ i ∧ x.overlay.current1.reel + 1 = i) from h2)]
      rfl
  · rw [if_pos hs, if_neg hs]

theorem storesAtReelStart_outside {x : Lane} {sh : Show} (hl : x.loaded = some sh) (hr : reelOf sh x.p = none) :
    storesAtReelStart x = x := by
  unfold storesAtReelStart
  rw [hl, Option.bind_some, hr]

theorem begunOverlay_playing {x : Lane} (h : x.state = .playing) :
    begunOverlay x =
      { x.overlay with
        current1 := unwaitedStore x.overlay.current1
        current2 := unwaitedStore x.overlay.current2
        next1 := unwaitedStore x.overlay.next1
        next2 := unwaitedStore x.overlay.next2 } := by
  unfold begunOverlay
  rw [h]
  rfl

theorem enteredLane_overlay (x : Lane) : (enteredLane x).overlay = begunOverlay x := by
  obtain ⟨t, a, n, i, h, -⟩ := enteredLane_eq x
  rw [h]

/-! ## The active cues (R134) -/

theorem activeCues_congr {st st' : Store} (hs : st'.state = st.state) (hc : st'.cues = st.cues) (r : Reel) (f : Nat) :
    activeCues st' r f = activeCues st r f := by
  unfold activeCues visibleCues
  rw [hs, hc]

/-- The current stores hold the same cues. -/
def sameCues (o o' : Overlay) : Prop :=
  ∀ t, (currentStore o' t).state = (currentStore o t).state ∧ (currentStore o' t).cues = (currentStore o t).cues

theorem presentCues_congr {sh : Show} {x y : Lane} (hp : y.p = x.p) (h : sameCues x.overlay y.overlay) :
    presentCues sh y = presentCues sh x := by
  obtain ⟨h1, c1⟩ := h .one
  obtain ⟨h2, c2⟩ := h .two
  unfold presentCues
  rw [hp]
  cases reelOf sh x.p with
  | none => rfl
  | some r =>
    dsimp only
    rw [activeCues_congr (st := x.overlay.current1) (st' := y.overlay.current1) h1 c1,
      activeCues_congr (st := x.overlay.current2) (st' := y.overlay.current2) h2 c2]

theorem aheadLane_overlay (sh : Show) (x : Lane) :
    ∃ a, (aheadLane sh x).overlay = { (storesAtReelStart x).overlay with active := a } := by
  obtain ⟨i, ha⟩ := aheadLane_eq sh x
  obtain ⟨a, j, hs⟩ := selectActive_eq sh (storesAtReelStart x)
  refine ⟨a, ?_⟩
  rw [ha]
  show (markedLane sh x).overlay = _
  rw [markedLane, hs]

theorem sameCues_moved {x : Lane} {sh : Show} (hl : x.loaded = some sh) (hst : x.state = .playing) :
    sameCues (storesAtReelStart x).overlay (storesAtReelStart (enteredLane x)).overlay := by
  have hl' : (enteredLane x).loaded = some sh := (enteredLane_loaded x).trans hl
  have hp := enteredLane_p x
  have ho := (enteredLane_overlay x).trans (begunOverlay_playing hst)
  cases hr : reelOf sh x.p with
  | none =>
    rw [storesAtReelStart_outside hl hr, storesAtReelStart_outside hl' (by rw [hp, hr]), ho]
    intro t
    cases t <;> exact ⟨rfl, rfl⟩
  | some q =>
    obtain ⟨i, r⟩ := q
    rw [storesAtReelStart_overlay hl hr, storesAtReelStart_overlay hl' (by rw [hp, hr]), ho, hp]
    intro t
    unfold movedOverlay
    by_cases hs : r.start = x.p
    · rw [if_pos hs, if_pos hs]
      by_cases h2 : 2 ≤ i ∧ x.overlay.current1.reel + 1 = i
      · rw [if_pos h2, if_pos (by exact h2)]
        cases t <;> exact ⟨rfl, rfl⟩
      · rw [if_neg h2, if_neg (by exact h2)]
        cases t <;> exact ⟨rfl, rfl⟩
    · rw [if_neg hs, if_neg hs]
      cases t <;> exact ⟨rfl, rfl⟩

theorem presentCues_ahead {x : Lane} {sh : Show} (hl : x.loaded = some sh) (hst : x.state = .playing) :
    presentCues sh (aheadLane sh (enteredLane x)) = presentCues sh (storesAtReelStart x) := by
  obtain ⟨a, ha⟩ := aheadLane_overlay sh (enteredLane x)
  have hp : (aheadLane sh (enteredLane x)).p = (storesAtReelStart x).p := by
    obtain ⟨o, w, i, hx⟩ := storesAtReelStart_eq x
    rw [(aheadLane_kept sh _).2.2, enteredLane_p, hx]
  refine presentCues_congr hp fun t => ?_
  obtain ⟨hs, hc⟩ := sameCues_moved hl hst t
  rw [ha, ← hs, ← hc]
  cases t <;> exact ⟨rfl, rfl⟩

/-! ## Tiles (R139 to R141) -/

theorem ditherAlpha_zero (b n : Nat) : ditherAlpha 0 b n = 0 := if_neg (Nat.not_lt_zero _)

theorem tileLit_iff (cues : List PlacedCue) (seq n : Nat) :
    tileLit cues seq n = true ↔ ∃ q ∈ tilePixels n, (sentPixel cues seq q.1 q.2).2 ≠ 0 := by
  have hany : ((tileContent cues seq n).any fun q => decide (q.2 ≠ 0)) = true ↔
      ∃ q ∈ tilePixels n, (sentPixel cues seq q.1 q.2).2 ≠ 0 := by
    rw [tileContent, List.any_map, List.any_eq_true]
    simp only [Function.comp_apply, decide_eq_true_eq]
  unfold tileLit
  cases cues with
  | nil =>
    refine ⟨fun h => by simp at h, fun ⟨q, _, hq⟩ => absurd ?_ hq⟩
    exact ditherAlpha_zero (ditherEntry q.1 q.2) seq
  | cons c cs =>
    rw [← hany]
    rfl

theorem mem_litTiles (us : List TileUpdate) (n : Nat) : n ∈ litTiles us ↔ ∃ c, TileUpdate.tile n c ∈ us := by
  induction us with
  | nil => simp [litTiles]
  | cons u us ih =>
    cases u with
    | tile t c =>
      rw [litTiles, List.mem_cons, ih]
      constructor
      · rintro (rfl | ⟨d, hd⟩)
        · exact ⟨c, List.mem_cons_self⟩
        · exact ⟨d, List.mem_cons_of_mem _ hd⟩
      · rintro ⟨d, hd⟩
        rcases List.mem_cons.1 hd with h | h
        · cases h
          exact .inl rfl
        · exact .inr ⟨d, h⟩
    | clear t =>
      rw [litTiles, ih]
      constructor
      · rintro ⟨d, hd⟩
        exact ⟨d, List.mem_cons_of_mem _ hd⟩
      · rintro ⟨d, hd⟩
        rcases List.mem_cons.1 hd with h | h
        · cases h
        · exact ⟨d, h⟩

theorem mem_litTiles_updates (cues : List PlacedCue) (seq : Nat) (map : List Nat) (n : Nat) :
    n ∈ litTiles (tileUpdates cues seq map) ↔ n < 544 ∧ tileLit cues seq n = true := by
  rw [mem_litTiles]
  unfold tileUpdates
  constructor
  · rintro ⟨c, hc⟩
    obtain ⟨t, ht, he⟩ := List.mem_filterMap.1 hc
    by_cases hlit : tileLit cues seq t = true
    · rw [if_pos hlit] at he
      cases he
      exact ⟨List.mem_range.1 ht, hlit⟩
    · rw [if_neg hlit] at he
      split at he <;> cases he
  · rintro ⟨hn, hlit⟩
    exact ⟨_, List.mem_filterMap.2 ⟨n, List.mem_range.2 hn, if_pos hlit⟩⟩

theorem tileUpdates_eq {cues : List PlacedCue} {seq : Nat} {map lit : List Nat}
    (h : ∀ n, n ∈ lit ↔ n < 544 ∧ tileLit cues seq n = true) :
    tileUpdates cues seq map =
      (List.range 544).filterMap fun n =>
        if n ∈ lit then some (.tile n (tileContent cues seq n))
        else if n ∈ map then some (.clear n) else none := by
  unfold tileUpdates
  refine List.filterMap_congr fun n hn => ?_
  have hlit : n ∈ lit ↔ tileLit cues seq n = true := (h n).trans (and_iff_right (List.mem_range.1 hn))
  simp only [hlit, List.contains_iff_mem]

/-! ## What a presenting boundary sends -/

theorem recorded_of_scanned {sh : Show} {x c : Lane} (h : Scanned (routedLane sh x) c) :
    c.overlay = (recordedLane sh x).overlay ∧ c.link = (recordedLane sh x).link ∧
      c.subWanted = (recordedLane sh x).subWanted ∧ c.tally = (recordedLane sh x).tally := by
  obtain ⟨⟨m, b, i, rfl⟩, -⟩ := h
  obtain ⟨j, hs⟩ := presentSound_eq (soundFor sh (markedLane sh x) .main (markedLane sh x).p)
    (soundFor sh (markedLane sh x) .aux (markedLane sh x).p) (recordedLane sh x)
  have hr : routedLane sh x = _ := hs
  rw [hr]
  exact ⟨rfl, rfl, rfl, rfl⟩

/-- What stays of a presenting boundary's record and overlay. -/
theorem presents_sent {l : LaneId} {s w u : State} {sh : Show} {c : Lane} {real : Bool}
    (hb : Bounded l s (advancedLane sh (advanceLane sh real c)) w u)
    (hscan : Scanned (routedLane sh (enteredLane (s.lane l))) c) :
    (u.lane l).overlay = (recordedLane sh (enteredLane (s.lane l))).overlay ∧
      (u.lane l).link.forward = (recordedLane sh (enteredLane (s.lane l))).link.forward ∧
      (u.lane l).subWanted = (recordedLane sh (enteredLane (s.lane l))).subWanted := by
  obtain ⟨ho, hk, hw, -⟩ := recorded_of_scanned hscan
  have hkept := WorkKept.advanced sh real c
  obtain ⟨n, hn⟩ := hb.lane
  rw [hn]
  exact ⟨hkept.overlay.trans ho, hkept.forward.trans (by rw [hk]), hkept.wanted.trans hw⟩

theorem aheadLane_link (sh : Show) (x : Lane) :
    (aheadLane sh (enteredLane x)).link.state = x.link.state ∧ (aheadLane sh (enteredLane x)).link.seq = x.link.seq := by
  rw [(aheadLane_kept sh _).2.1]
  exact ⟨(enteredLane_link x).1, (enteredLane_link x).2.1⟩

theorem aheadLane_map {sh : Show} {x : Lane} (hl : x.loaded = some sh) :
    (aheadLane sh (enteredLane x)).overlay.tileMap = x.overlay.tileMap := by
  obtain ⟨a, ha⟩ := aheadLane_overlay sh (enteredLane x)
  have hl' : (enteredLane x).loaded = some sh := (enteredLane_loaded x).trans hl
  rw [ha]
  show (storesAtReelStart (enteredLane x)).overlay.tileMap = _
  rw [← enteredLane_map x]
  cases hr : reelOf sh (enteredLane x).p with
  | none => rw [storesAtReelStart_outside hl' hr]
  | some q =>
    obtain ⟨i, r⟩ := q
    rw [storesAtReelStart_overlay hl' hr]
    unfold movedOverlay
    split
    · split <;> rfl
    · rfl

/-- The tiles that a presenting boundary sends, and the map that they leave (R139, R141). -/
theorem presents_tiles {l : LaneId} {s : State} {sh : Show} (hc : s.clockUnit.source ≠ .acquiring)
    (hp : presents (s.lane l)) (hl : (s.lane l).loaded = some sh) :
    ∃ u, exec (.frameBoundary l) s = .next (boundaryLook l false u) ∧
      ((s.lane l).link.state ≠ .locked → (u.lane l).overlay.tileMap = (s.lane l).overlay.tileMap) ∧
      ((s.lane l).link.state = .locked →
        (∀ n, n ∈ (u.lane l).overlay.tileMap ↔ n < 544 ∧
          ∃ q ∈ tilePixels n, (sentPixel (presentCues sh (storesAtReelStart (s.lane l))) (s.lane l).link.seq q.1 q.2).2 ≠ 0) ∧
        ∃ r, (u.lane l).link.forward = .frame r ∧
          r.tiles = (List.range 544).filterMap fun n =>
            if n ∈ (u.lane l).overlay.tileMap then
              some (.tile n (tileContent (presentCues sh (storesAtReelStart (s.lane l))) (s.lane l).link.seq n))
            else if n ∈ (s.lane l).overlay.tileMap then some (.clear n) else none) := by
  obtain ⟨u, c, hu, hb, hscan, -⟩ := presents_bounded hc hp hl
  obtain ⟨ho, hf, -⟩ := presents_sent hb hscan
  obtain ⟨hks, hseq⟩ := aheadLane_link sh (s.lane l)
  have hmap : (u.lane l).overlay.tileMap =
      if (s.lane l).link.state = .locked then litTiles (presentTiles sh (aheadLane sh (enteredLane (s.lane l))))
      else (s.lane l).overlay.tileMap := by
    rw [ho, recordedLane, linkedLane_map, presentMap, hks, aheadLane_map hl]
    split <;> rfl
  refine ⟨u, hu, fun hk => by rw [hmap, if_neg hk], fun hk => ?_⟩
  have htiles : presentTiles sh (aheadLane sh (enteredLane (s.lane l))) =
      tileUpdates (presentCues sh (storesAtReelStart (s.lane l))) (s.lane l).link.seq (s.lane l).overlay.tileMap := by
    rw [presentTiles, if_pos (hks.trans hk), presentCues_ahead hl hp.1, hseq, aheadLane_map hl]
  rw [if_pos hk, htiles] at hmap
  have hlit (n : Nat) : n ∈ (u.lane l).overlay.tileMap ↔ n < 544 ∧
      tileLit (presentCues sh (storesAtReelStart (s.lane l))) (s.lane l).link.seq n = true := by
    rw [hmap, mem_litTiles_updates]
  refine ⟨fun n => by rw [hlit, tileLit_iff], ?_⟩
  obtain ⟨t, a, n, e, i, hr, -⟩ := recordLane_eq (pic := presentPicture (markedLane sh (enteredLane (s.lane l))))
    (tiles := presentTiles sh (aheadLane sh (enteredLane (s.lane l))))
    (map := presentMap sh (aheadLane sh (enteredLane (s.lane l)))) (hks.trans hk)
  rw [recordedLane, linkedLane_locked (hks.trans hk), hr] at hf
  refine ⟨_, hf, ?_⟩
  show presentTiles sh (aheadLane sh (enteredLane (s.lane l))) = _
  rw [htiles]
  exact tileUpdates_eq hlit

/-- Settles O46. -/
theorem holdIsTakenBeforePresenting : Obligations.HoldIsTakenBeforePresenting := by
  unfold Obligations.HoldIsTakenBeforePresenting
  refine ⟨fun l s h hc hst hh hw hgood hrun => ?_, fun l s sh hc hp hl => presents_tiles hc hp hl,
    fun l s hc hst => idleBoundary_sends hc hst⟩
  have hd := holdDue_of hh hw
  have hg := graceDue_false hgood
  obtain ⟨u, hu, ⟨n, hn⟩, hlic, hkept⟩ := holdTaken_boundary hc hst hh hd hg hrun
  have hdue : holdTakenDue l s = true := by
    rw [holdTakenDue, decide_eq_true hst, hd, hg]
    rfl
  have hwhole := exec_whole (c := .holdTaken l) (l := l) rfl hdue
  obtain ⟨hlink, hseq, -⟩ := enteredLane_link (s.lane l)
  have ho : (u.lane l).overlay = (heldLane (enteredLane (s.lane l))).overlay := by
    rw [hn]
    rfl
  have hfwd : (u.lane l).link.forward = (heldLane (enteredLane (s.lane l))).link.forward := by
    rw [hn]
    rfl
  have hpal := palettesHandled_of_linked hlink (enteredLane_palettes (s.lane l)) ho hfwd
  have hsent : (s.lane l).link.state = .locked →
      sentBlack (s.lane l) (u.lane l) ∧ (u.lane l).overlay.tileMap = (s.lane l).overlay.tileMap := fun hk => by
    obtain ⟨r, hr, hrs, hkind, hshut, hunits, -⟩ := linkedLane_black (hlink.trans hk) hfwd
    refine ⟨⟨r, hr, hrs.trans hseq, hkind, hshut, hunits⟩, ?_⟩
    rw [ho, heldLane, linkedLane_map, hlink, if_pos hk, enteredLane_map]
  obtain ⟨t, k, i, o, hout, hopen, -⟩ := linkedLane_outline blackClosed [] (enteredLane (s.lane l)).overlay.tileMap (s.lane l)
  have hheld : heldLane (enteredLane (s.lane l)) = _ := hout
  rw [heldHereLane, hheld] at hn
  refine ⟨u, hwhole.trans hu, hwhole.symm, ?_, ?_, ?_, ?_, ?_, ?_, ?_, ?_, fun e => ?_, ?_, ?_, hlic, ?_, hsent, hpal, hkept⟩
  all_goals rw [hn]
  case refine_2 => exact ⟨rfl, rfl, rfl, rfl⟩
  case refine_6 => exact hopen (not_closing_of_running hrun)
  case refine_9 => exact begunTracks_queue (s.lane l) e
  case refine_12 => exact ⟨rfl, rfl, rfl, rfl⟩
  all_goals rfl

end Sys2Proof.Machine
end

section
/-! The scan of the cues at a presenting boundary, entry by entry (R157 to R161). -/

namespace Sys2Proof.Machine

/-! ## A lane whose cue table lies beside what the part reports -/

/-- The lane's cue table lies at `tb`, outside the areas that an event of the lane writes. -/
structure CueReady (l : LaneId) (tb : Nat) (s : State) : Prop where
  table : cueTableOf (s.lane l) = some tb
  shape : shapeOk s
  beside : ∀ a, tb ≤ a → a < tb + 512 → outside (eventAreas s l) a

theorem memReadBytes_of_outside {areas : List (Nat × Nat)} {s t : State} {a n : Nat} (h : memKept areas s t)
    (ho : ∀ j < n, outside areas (a + j)) : memReadBytes t.host.mem a n = memReadBytes s.host.mem a n :=
  List.map_congr_left fun j hj => h.1 _ (ho j (List.mem_range.1 hj))

theorem CueReady.part {l : LaneId} {tb i : Nat} {s : State} (h : CueReady l tb s) (hi : i < 32) :
    ∀ j < 8, outside (eventAreas s l) (partAddr tb i + j) := fun j hj =>
  h.beside _ (by rw [partAddr]; omega) (by rw [partAddr]; omega)

/-- What work of a boundary leaves of entry `i` of a lane's cue table and of the scanner's reading of it. -/
structure CueKept (l : LaneId) (tb i : Nat) (s t : State) : Prop where
  ready : CueReady l tb s → CueReady l tb t
  reads : t.host.readFails = s.host.readFails
  writes : t.host.writeFails = s.host.writeFails
  mark : (t.lane l).scanner.marks[i]? = (s.lane l).scanner.marks[i]?
  pending : (t.lane l).scanner.writePending[i]? = (s.lane l).scanner.writePending[i]?
  length : (t.lane l).scanner.writePending.length = (s.lane l).scanner.writePending.length
  error : (t.lane l).scanner.readError = (s.lane l).scanner.readError
  part : CueReady l tb s → i < 32 → memReadBytes t.host.mem (partAddr tb i) 8 = memReadBytes s.host.mem (partAddr tb i) 8
  lit : Lit (s.lane l) (t.lane l)

namespace CueKept

theorem refl (l : LaneId) (tb i : Nat) (s : State) : CueKept l tb i s s :=
  ⟨id, rfl, rfl, rfl, rfl, rfl, rfl, fun _ _ => rfl, .refl _⟩

theorem trans {l : LaneId} {tb i : Nat} {s t u : State} (h : CueKept l tb i s t) (k : CueKept l tb i t u) :
    CueKept l tb i s u :=
  ⟨k.ready ∘ h.ready, k.reads.trans h.reads, k.writes.trans h.writes, k.mark.trans h.mark, k.pending.trans h.pending,
    k.length.trans h.length, k.error.trans h.error, fun hr hi => (k.part (h.ready hr) hi).trans (h.part hr hi),
    h.lit.trans k.lit⟩

/-- Work that neither touches the scanner nor writes beside the report areas. -/
theorem of_work {l : LaneId} {tb i : Nat} {s t : State} (h : LaneWork l [] s t)
    (hl : (t.lane l).loaded = (s.lane l).loaded) (hsc : (t.lane l).scanner = (s.lane l).scanner)
    (hf : t.host.readFails = s.host.readFails ∧ t.host.writeFails = s.host.writeFails)
    (hi : Lit (s.lane l) (t.lane l)) : CueKept l tb i s t := by
  have hareas := eventAreas_of_registers h.rest.2.1 l
  have hmem (hs : shapeOk s) : memKept (eventAreas s l) s t := by
    have := h.mem hs
    rwa [List.append_nil] at this
  refine ⟨fun hr => ⟨?_, h.keeps.shapeOk hr.shape, by rw [hareas]; exact hr.beside⟩, hf.1, hf.2, by rw [hsc], by rw [hsc],
    by rw [hsc], by rw [hsc], fun hr hlt => memReadBytes_of_outside (hmem hr.shape) (hr.part hlt), hi⟩
  unfold cueTableOf
  rw [hl]
  exact hr.table

end CueKept

theorem offer_fails (e : JournalEntry) (s : State) :
    (offer e s).host.readFails = s.host.readFails ∧ (offer e s).host.writeFails = s.host.writeFails :=
  (offer_reported e s).host_fails

theorem offer_cueKept (l : LaneId) (tb i : Nat) (e : JournalEntry) (s : State) : CueKept l tb i s (offer e s) :=
  .of_work (((offer_told e s).cueWork l []).work) (by rw [offer_lane]) (by rw [offer_lane]) (offer_fails e s)
    (by rw [offer_lane]; exact .refl _)

theorem CueReady.modLane {l : LaneId} {tb : Nat} {f : Lane → Lane} {s : State} (h : CueReady l tb s)
    (hl : (f (s.lane l)).loaded = (s.lane l).loaded) (hsh : laneShapeOk (s.lane l) → laneShapeOk (f (s.lane l))) :
    CueReady l tb (s.modLane l f) := by
  refine ⟨?_, shapeOk_modLane hsh h.shape, h.beside⟩
  unfold cueTableOf
  rw [State.lane_modLane_self, hl]
  exact h.table

/-- A change of the lane's scanner elsewhere than at entry `i`. -/
theorem modLane_cueKept {l : LaneId} {tb i : Nat} {f : Lane → Lane} {s : State}
    (hl : (f (s.lane l)).loaded = (s.lane l).loaded) (hsh : laneShapeOk (s.lane l) → laneShapeOk (f (s.lane l)))
    (hm : (f (s.lane l)).scanner.marks[i]? = (s.lane l).scanner.marks[i]?)
    (hp : (f (s.lane l)).scanner.writePending[i]? = (s.lane l).scanner.writePending[i]?)
    (hlen : (f (s.lane l)).scanner.writePending.length = (s.lane l).scanner.writePending.length)
    (he : (f (s.lane l)).scanner.readError = (s.lane l).scanner.readError) (hlit : Lit (s.lane l) (f (s.lane l))) :
    CueKept l tb i s (s.modLane l f) := by
  refine ⟨fun h => h.modLane hl hsh, rfl, rfl, ?_, ?_, ?_, ?_, fun _ _ => rfl, ?_⟩
  all_goals rw [State.lane_modLane_self]
  · exact hm
  · exact hp
  · exact hlen
  · exact he
  · exact hlit

/-! ## The part word of an entry (R160) -/

/-- A part word written or left pending. -/
theorem writePart_eq {l : LaneId} {tb : Nat} {s : State} (h : cueTableOf (s.lane l) = some tb) (j : Nat) :
    writePart l s j =
      if accessFails s.host.writeFails (partAddr tb j) 8 then modScanner l (setPending j true) s
      else
        modScanner l (setPending j false)
          { s with
            host := { s.host with
              mem := memWrite s.host.mem (partAddr tb j) (partWord ((s.lane l).scanner.marks.getD j .clear)) } } := by
  unfold writePart
  rw [h]
  dsimp only
  rw [hostWrite, partWord_length]
  by_cases hf : accessFails s.host.writeFails (partAddr tb j) 8 = true
  · rw [hf]
    rfl
  · rw [Bool.eq_false_iff.2 hf]
    rfl

theorem writePart_lane_eq {l : LaneId} {tb : Nat} {s : State} (h : cueTableOf (s.lane l) = some tb) (j : Nat) :
    (writePart l s j).lane l =
      { s.lane l with scanner := setPending j (accessFails s.host.writeFails (partAddr tb j) 8) (s.lane l).scanner } := by
  rw [writePart_eq h]
  cases accessFails s.host.writeFails (partAddr tb j) 8
  · rw [if_neg Bool.false_ne_true]
    exact State.lane_modLane_self _ _ _
  · rw [if_pos rfl]
    exact State.lane_modLane_self _ _ _

theorem writePart_fails (l : LaneId) (s : State) (j : Nat) :
    (writePart l s j).host.readFails = s.host.readFails ∧ (writePart l s j).host.writeFails = s.host.writeFails := by
  unfold writePart
  split
  · exact ⟨rfl, rfl⟩
  · split
    · next h hw =>
      unfold hostWrite at hw
      split at hw
      · cases hw
      · cases hw
        exact ⟨rfl, rfl⟩
    · exact ⟨rfl, rfl⟩

theorem writePart_ready {l : LaneId} {tb : Nat} {s : State} {j : Nat} (hj : j < 32) (h : CueReady l tb s) :
    CueReady l tb (writePart l s j) := by
  have hwork := writePart_work (l := l) (more := partAreas (s.lane l)) (s := s) (i := j) (List.Subset.refl _) hj
  refine ⟨?_, hwork.work.keeps.shapeOk h.shape, by rw [eventAreas_of_registers hwork.work.rest.2.1 l]; exact h.beside⟩
  unfold cueTableOf
  rw [hwork.loaded]
  exact h.table

theorem getElem_set_other {α : Type} {xs : List α} {i j : Nat} (v : α) (h : j ≠ i) : (xs.set j v)[i]? = xs[i]? :=
  List.getElem?_set_ne h

/-- The write of one part word leaves every other entry. -/
theorem writePart_cueKept {l : LaneId} {tb i j : Nat} {s : State} (h : cueTableOf (s.lane l) = some tb) (hj : j < 32)
    (hne : j ≠ i) : CueKept l tb i s (writePart l s j) := by
  have hlane := writePart_lane_eq h j
  obtain ⟨hr, hw⟩ := writePart_fails l s j
  refine ⟨writePart_ready hj, hr, hw, ?_, ?_, ?_, ?_, fun _ _ => ?_, ?_⟩
  · rw [hlane]; rfl
  · rw [hlane]
    exact getElem_set_other _ hne
  · rw [hlane]
    exact List.length_set
  · rw [hlane]; rfl
  · rw [writePart_eq h]
    split
    · rfl
    · refine memReadBytes_memWrite_outside ?_
      rw [partWord_length, partAddr, partAddr]
      omega
  · rw [hlane]
    exact .of_eq rfl

/-- The write of an entry's part word. -/
structure PartSet (l : LaneId) (tb i : Nat) (m : Mark) (s t : State) : Prop where
  ready : CueReady l tb s → CueReady l tb t
  reads : t.host.readFails = s.host.readFails
  writes : t.host.writeFails = s.host.writeFails
  mark : (t.lane l).scanner.marks[i]? = some m
  pending : (t.lane l).scanner.writePending =
    (s.lane l).scanner.writePending.set i (accessFails s.host.writeFails (partAddr tb i) 8)
  error : (t.lane l).scanner.readError = (s.lane l).scanner.readError
  part : accessFails s.host.writeFails (partAddr tb i) 8 = false →
    memReadBytes t.host.mem (partAddr tb i) 8 = partWord m
  lit : Lit (s.lane l) (t.lane l)

theorem writePart_partSet {l : LaneId} {tb i : Nat} {s : State} {m : Mark} (h : cueTableOf (s.lane l) = some tb)
    (hi : i < 32) (hm : (s.lane l).scanner.marks[i]? = some m) : PartSet l tb i m s (writePart l s i) := by
  have hlane := writePart_lane_eq h i
  obtain ⟨hr, hw⟩ := writePart_fails l s i
  refine ⟨writePart_ready hi, hr, hw, ?_, ?_, ?_, fun hok => ?_, ?_⟩
  · rw [hlane]
    exact hm
  · rw [hlane]
    rfl
  · rw [hlane]
    rfl
  · have hmark : (s.lane l).scanner.marks.getD i .clear = m := by
      rw [List.getD_eq_getElem?_getD, hm]
      rfl
    rw [writePart_eq h, hok, if_neg Bool.false_ne_true, hmark]
    have hread := memReadBytes_memWrite_self s.host.mem (partAddr tb i) (partWord m)
    rw [partWord_length] at hread
    exact hread
  · rw [hlane]
    exact .of_eq rfl

/-- Work that leaves an entry stands between the write and what follows. -/
theorem PartSet.kept {l : LaneId} {tb i : Nat} {m : Mark} {s t u : State} (h : PartSet l tb i m s t)
    (k : CueKept l tb i t u) (hr : CueReady l tb s) (hi : i < 32) :
    (u.lane l).scanner.marks[i]? = some m ∧
      (accessFails s.host.writeFails (partAddr tb i) 8 = false → memReadBytes u.host.mem (partAddr tb i) 8 = partWord m) ∧
      ((s.lane l).scanner.writePending.length = 32 →
        (u.lane l).scanner.writePending[i]? = some (accessFails s.host.writeFails (partAddr tb i) 8)) := by
  refine ⟨k.mark.trans h.mark, fun hok => (k.part (h.ready hr) hi).trans (h.part hok), fun hlen => ?_⟩
  rw [k.pending, h.pending, List.getElem?_set_self (by rw [hlen]; exact hi)]

/-! ## The judgement of one entry (R158, R159) -/

theorem judgeCue_idle {l : LaneId} {p n : Nat} {s : State} {e : Nat × HostWord}
    (h : cueJudged p n e.2 ((s.lane l).scanner.marks.getD e.1 .clear) = false) : judgeCue l p n s e = s := by
  unfold judgeCue
  split
  · rfl
  · next h1 =>
    split
    · rfl
    · next h2 =>
      refine absurd h ?_
      simp only [Bool.or_eq_true, Bool.not_eq_true', not_or, Bool.not_eq_false, decide_eq_false_iff_not,
        not_not, Bool.not_eq_true] at h1
      obtain ⟨⟨ha, he⟩, hm⟩ := h1
      rw [not_or, Nat.not_lt, Nat.not_le] at h2
      rw [cueJudged, ha, he, hm, decide_eq_true h2.1, decide_eq_true h2.2]
      decide

theorem judgeCue_judged {l : LaneId} {p n : Nat} {s : State} {e : Nat × HostWord}
    (h : cueJudged p n e.2 ((s.lane l).scanner.marks.getD e.1 .clear) = true) :
    judgeCue l p n s e =
      if cueFires p n e.2 ((s.lane l).scanner.marks.getD e.1 .clear) then fireCue l p e.1 e.2 s
      else missCue l p e.1 e.2 s := by
  have hfires : cueFires p n e.2 ((s.lane l).scanner.marks.getD e.1 .clear) = true ↔
      e.2.position = p ∨ e.2.lateOk = true := by
    rw [cueFires, h, Bool.true_and, Bool.or_eq_true, decide_eq_true_eq]
  rw [cueJudged] at h
  simp only [Bool.and_eq_true, Bool.not_eq_true', decide_eq_true_eq] at h
  obtain ⟨⟨⟨⟨ha, he⟩, hm⟩, hp⟩, hn⟩ := h
  have h1 : ¬ (!e.2.armed || e.2.editing || !decide ((s.lane l).scanner.marks.getD e.1 .clear = .clear)) = true := by
    rw [ha, he, hm]
    decide
  unfold judgeCue
  rw [if_neg h1, if_neg (by omega)]
  by_cases hf : e.2.position = p ∨ e.2.lateOk = true
  · rw [if_pos hf, if_pos (hfires.2 hf)]
  · rw [if_neg hf, if_neg (mt hfires.1 hf)]

theorem fireCue_cueKept {l : LaneId} {tb i j p : Nat} {w : HostWord} {s : State} (h : CueReady l tb s) (hj : j < 32)
    (hne : j ≠ i) : CueKept l tb i s (fireCue l p j w s) := by
  have hmod : CueKept l tb i s (s.modLane l fun x =>
      { x with
        contacts := setContacts w.mask w.value x.contacts
        scanner := setMark j (.fired p w.position) x.scanner }) :=
    modLane_cueKept rfl id (getElem_set_other _ hne) rfl rfl rfl (.of_eq rfl)
  exact (hmod.trans (writePart_cueKept (hmod.ready h).table hj hne)).trans (offer_cueKept l tb i _ _)

theorem missCue_cueKept {l : LaneId} {tb i j p : Nat} {w : HostWord} {s : State} (h : CueReady l tb s) (hj : j < 32)
    (hne : j ≠ i) : CueKept l tb i s (missCue l p j w s) := by
  have hmod : CueKept l tb i s (modScanner l (setMark j (.missed p w.position)) s) :=
    modLane_cueKept rfl id (getElem_set_other _ hne) rfl rfl rfl (.of_eq rfl)
  have hraise (u : State) : CueKept l tb i u (raise l .cueMissed u) :=
    modLane_cueKept rfl id rfl rfl rfl rfl (.setIndicator _ _)
  exact ((hmod.trans (writePart_cueKept (hmod.ready h).table hj hne)).trans (hraise _)).trans (offer_cueKept l tb i _ _)

/-- The judgement of an entry leaves the others. -/
theorem judgeCue_cueKept {l : LaneId} {tb i p n : Nat} {e : Nat × HostWord} {s : State} (h : CueReady l tb s)
    (hj : e.1 < 32) (hne : e.1 ≠ i) : CueKept l tb i s (judgeCue l p n s e) := by
  cases hjudge : cueJudged p n e.2 ((s.lane l).scanner.marks.getD e.1 .clear) with
  | false =>
    rw [judgeCue_idle hjudge]
    exact .refl l tb i s
  | true =>
    rw [judgeCue_judged hjudge]
    split
    · exact fireCue_cueKept h hj hne
    · exact missCue_cueKept h hj hne

theorem judgeCue_ready {l : LaneId} {tb p n : Nat} {e : Nat × HostWord} {s : State} (h : CueReady l tb s) (hj : e.1 < 32) :
    CueReady l tb (judgeCue l p n s e) :=
  (judgeCue_cueKept (i := e.1 + 1) h hj (Nat.ne_of_lt (Nat.lt_succ_self _))).ready h

/-- What the judgement of an entry makes of it: its part word is written with the new mark. -/
theorem judgeCue_partSet {l : LaneId} {tb i p n : Nat} {w : HostWord} {m : Mark} {s : State} (h : CueReady l tb s)
    (hi : i < 32) (hm : (s.lane l).scanner.marks[i]? = some m) (hj : cueJudged p n w m = true) :
    PartSet l tb i (markAfter p n w m) s (judgeCue l p n s (i, w)) ∧
      (markAfter p n w m = .missed p w.position →
        ((judgeCue l p n s (i, w)).lane l).indicators.held &&& indicatorBit .cueMissed ≠ 0) := by
  have hget : (s.lane l).scanner.marks.getD i .clear = m := by
    rw [List.getD_eq_getElem?_getD, hm]
    rfl
  have hlen : i < (s.lane l).scanner.marks.length := (List.getElem?_eq_some_iff.1 hm).1
  have hset (v : Mark) : ((s.lane l).scanner.marks.set i v)[i]? = some v := List.getElem?_set_self hlen
  have hj' : cueJudged p n (i, w).2 ((s.lane l).scanner.marks.getD (i, w).1 .clear) = true := by
    rw [hget]
    exact hj
  rw [judgeCue_judged hj']
  dsimp only
  rw [hget]
  by_cases hf : cueFires p n w m = true
  · have hmark : markAfter p n w m = .fired p w.position := if_pos hf
    rw [if_pos hf, hmark]
    refine ⟨?_, fun hh => nomatch hh⟩
    have hready : CueReady l tb (s.modLane l fun x =>
        { x with
          contacts := setContacts w.mask w.value x.contacts
          scanner := setMark i (.fired p w.position) x.scanner }) := h.modLane rfl id
    have hlane : (s.modLane l fun x =>
        { x with
          contacts := setContacts w.mask w.value x.contacts
          scanner := setMark i (.fired p w.position) x.scanner }).lane l = _ := State.lane_modLane_self _ _ _
    have hpart := writePart_partSet hready.table hi (m := .fired p w.position) (by rw [hlane]; exact hset _)
    have hoff := offer_cueKept l tb i
      ⟨.cueFired, some l, p, [i, w.position, w.mask.toNat, w.value.toNat, flag (decide (w.position < p))]⟩
      (writePart l (s.modLane l fun x =>
        { x with
          contacts := setContacts w.mask w.value x.contacts
          scanner := setMark i (.fired p w.position) x.scanner }) i)
    refine ⟨fun _ => hoff.ready (hpart.ready hready), hoff.reads.trans hpart.reads, hoff.writes.trans hpart.writes,
      hoff.mark.trans hpart.mark, ?_, ?_, fun hok => (hoff.part (hpart.ready hready) hi).trans (hpart.part hok), ?_⟩
    · rw [fireCue, offer_lane, hpart.pending, hlane]
      rfl
    · rw [fireCue, offer_lane, hpart.error, hlane]
      rfl
    · refine Lit.trans ?_ (hpart.lit.trans hoff.lit)
      rw [hlane]
      exact .of_eq rfl
  · have hmark : markAfter p n w m = .missed p w.position := by
      rw [markAfter, if_neg hf, if_pos hj]
    rw [if_neg hf, hmark]
    have hready : CueReady l tb (modScanner l (setMark i (.missed p w.position)) s) := h.modLane rfl id
    have hlane : (modScanner l (setMark i (.missed p w.position)) s).lane l = _ := State.lane_modLane_self _ _ _
    have hpart := writePart_partSet hready.table hi (m := .missed p w.position) (by rw [hlane]; exact hset _)
    have hraise : CueKept l tb i (writePart l (modScanner l (setMark i (.missed p w.position)) s) i)
        (raise l .cueMissed (writePart l (modScanner l (setMark i (.missed p w.position)) s) i)) :=
      modLane_cueKept rfl id rfl rfl rfl rfl (.setIndicator _ _)
    have hoff := hraise.trans (offer_cueKept l tb i ⟨.cueMissed, some l, p, [i, w.position]⟩ _)
    refine ⟨⟨fun _ => hoff.ready (hpart.ready hready), hoff.reads.trans hpart.reads, hoff.writes.trans hpart.writes,
      hoff.mark.trans hpart.mark, ?_, ?_, fun hok => (hoff.part (hpart.ready hready) hi).trans (hpart.part hok), ?_⟩,
      fun _ => ?_⟩
    · rw [missCue, offer_lane, raise, State.lane_modLane_self]
      show ((writePart l (modScanner l (setMark i (.missed p w.position)) s) i).lane l).scanner.writePending = _
      rw [hpart.pending, hlane]
      rfl
    · rw [missCue, offer_lane, raise, State.lane_modLane_self]
      show ((writePart l (modScanner l (setMark i (.missed p w.position)) s) i).lane l).scanner.readError = _
      rw [hpart.error, hlane]
      rfl
    · refine Lit.trans ?_ (hpart.lit.trans hoff.lit)
      rw [hlane]
      exact .of_eq rfl
    · rw [missCue, offer_lane, raise, State.lane_modLane_self]
      exact setIndicator_held .cueMissed _

/-! ## The entries in order (R157) -/

theorem judgeCues_cueKept {l : LaneId} {tb i p n : Nat} {es : List (Nat × HostWord)} {s : State} (h : CueReady l tb s)
    (hes : ∀ e ∈ es, e.1 < 32 ∧ e.1 ≠ i) : CueKept l tb i s (es.foldl (judgeCue l p n) s) := by
  induction es generalizing s with
  | nil => exact .refl l tb i s
  | cons e es ih =>
    obtain ⟨hlt, hne⟩ := hes e List.mem_cons_self
    have hstep : CueKept l tb i s (judgeCue l p n s e) := judgeCue_cueKept h hlt hne
    exact hstep.trans (ih (hstep.ready h) fun f hf => hes f (List.mem_cons_of_mem _ hf))

theorem writeParts_cueKept {l : LaneId} {tb i : Nat} {is : List Nat} {s : State} (h : CueReady l tb s)
    (his : ∀ j ∈ is, j < 32 ∧ j ≠ i) : CueKept l tb i s (writeParts l is s) := by
  unfold writeParts
  induction is generalizing s with
  | nil => exact .refl l tb i s
  | cons j is ih =>
    obtain ⟨hlt, hne⟩ := his j List.mem_cons_self
    have hstep : CueKept l tb i s (writePart l s j) := writePart_cueKept h.table hlt hne
    exact hstep.trans (ih (hstep.ready h) fun f hf => his f (List.mem_cons_of_mem _ hf))

/-- The entry of the words read. -/
theorem zip_split {ws : List HostWord} {i : Nat} {w : HostWord} (hi : i < 32) (hw : ws[i]? = some w) :
    ∃ A B, (List.range 32).zip ws = A ++ (i, w) :: B ∧ (∀ e ∈ A, e.1 < 32 ∧ e.1 ≠ i) ∧ (∀ e ∈ B, e.1 < 32 ∧ e.1 ≠ i) := by
  have hz : ((List.range 32).zip ws)[i]? = some (i, w) := by
    rw [List.getElem?_zip_eq_some]
    exact ⟨List.getElem?_range hi, hw⟩
  obtain ⟨hlt, hget⟩ := List.getElem?_eq_some_iff.1 hz
  have hsplit := (List.take_append_drop i ((List.range 32).zip ws)).symm
  rw [List.drop_eq_getElem_cons hlt, hget] at hsplit
  have hindex (k : Nat) (e : Nat × HostWord) (hk : ((List.range 32).zip ws)[k]? = some e) : e.1 = k ∧ e.1 < 32 := by
    rw [List.getElem?_zip_eq_some] at hk
    obtain ⟨hlt', hke⟩ := List.getElem?_eq_some_iff.1 hk.1
    rw [List.getElem_range] at hke
    rw [List.length_range] at hlt'
    omega
  refine ⟨_, _, hsplit, fun e he => ?_, fun e he => ?_⟩
  · obtain ⟨k, hk⟩ := List.mem_iff_getElem?.1 he
    have hki : k < i := by
      by_contra hge
      rw [List.getElem?_take_eq_none (Nat.not_lt.1 hge)] at hk
      cases hk
    rw [List.getElem?_take_of_lt hki] at hk
    have := hindex k e hk
    omega
  · obtain ⟨k, hk⟩ := List.mem_iff_getElem?.1 he
    rw [List.getElem?_drop] at hk
    have := hindex _ e hk
    omega

end Sys2Proof.Machine
end

section
/-! A presenting boundary that shows P and plays on (R15, R65, R66, R115, R117). -/

namespace Sys2Proof.Machine

/-! ## The advance of P where nothing stops the lane -/

theorem advancedLane_plays {sh : Show} {x : Lane} (hn : x.p < sh.total) (hg : x.linkGrace ≤ x.options.linkGrace)
    (hs : x.starveRun ≤ x.options.starveLimit) : advancedLane sh x = x := by
  unfold advancedLane
  rw [if_neg (Nat.not_le.2 hn), if_neg (Nat.not_lt.2 hg), if_neg (Nat.not_lt.2 hs)]

theorem afterAdvance_plays {l : LaneId} {sh : Show} {s : State} (hn : (s.lane l).p < sh.total)
    (hg : (s.lane l).linkGrace ≤ (s.lane l).options.linkGrace)
    (hs : (s.lane l).starveRun ≤ (s.lane l).options.starveLimit) : afterAdvance l sh s = s := by
  unfold afterAdvance
  dsimp only
  rw [if_neg (Nat.not_le.2 hn), if_neg (Nat.not_lt.2 hg), if_neg (Nat.not_lt.2 hs)]

theorem consumeTrack_queue (sh : Show) (e : Essence) (p : Nat) (t : EssenceTrack) :
    (consumeTrack sh e p t).queue =
      if (t.queue.head?.filter fun n => decide (n.showFrame = p)).isSome then t.queue.drop 1 else t.queue := by
  have hhead : (t.queue.head?.any fun n => decide (n.showFrame = p)) =
      (t.queue.head?.filter fun n => decide (n.showFrame = p)).isSome := by
    cases t.queue.head? with
    | none => rfl
    | some n => by_cases h : n.showFrame = p <;> simp [h]
  unfold consumeTrack
  dsimp only
  rw [hhead]
  split
  · rfl
  · split <;> rfl

theorem advanceLane_queue (sh : Show) (real : Bool) (x : Lane) (e : Essence) :
    ((advanceLane sh real x).tracks.get e).queue =
      if (headFor x e x.p).isSome then (x.tracks.get e).queue.drop 1 else (x.tracks.get e).queue := by
  cases e <;> exact consumeTrack_queue sh _ x.p _

/-- What the boundary leaves of the lane, its status record's count apart, where nothing stops it. -/
theorem presents_on {l : LaneId} {s : State} {sh : Show} (hc : s.clockUnit.source ≠ .acquiring)
    (hp : presents (s.lane l)) (hl : (s.lane l).loaded = some sh) (hn : (s.lane l).p + 1 < sh.total)
    (hopen : (s.lane l).tally.phase ≠ .closing)
    (hgood : linkGood (s.lane l) = true ∨ (s.lane l).linkGrace + 1 ≤ (s.lane l).options.linkGrace)
    (hreal : realUnits (s.lane l) (s.lane l).p ≠ none ∨ (s.lane l).starveRun + 1 ≤ (s.lane l).options.starveLimit) :
    ∃ u c n, exec (.frameBoundary l) s = .next (boundaryLook l false u) ∧
      u.lane l = { rollPeriod (advanceLane sh (realUnits (s.lane l) (s.lane l).p).isSome c) with statusCount := n } ∧
      Scanned (routedLane sh (enteredLane (s.lane l))) c ∧ u.licences = s.licences ∧ boundaryKept l s u := by
  obtain ⟨u, c, hu, hb, hscan, hcl⟩ := presents_bounded hc hp hl
  rw [shownReal_eq] at hb
  obtain ⟨t, k, o, w, i, p, b, m, hx, -, hkeep⟩ := scanned_outline hscan
  have htotal : (advanceLane sh (realUnits (s.lane l) (s.lane l).p).isSome c).p < sh.total := by
    rw [hx]
    exact hn
  have hopts : (advanceLane sh (realUnits (s.lane l) (s.lane l).p).isSome c).options = (s.lane l).options := by
    rw [hx]
    rfl
  have hgrace : (advanceLane sh (realUnits (s.lane l) (s.lane l).p).isSome c).linkGrace ≤ (s.lane l).options.linkGrace := by
    show (if linkGood c then 0 else c.linkGrace + 1) ≤ _
    rw [hkeep]
    rcases hgood with h | h
    · rw [h, if_pos rfl]
      exact Nat.zero_le _
    · split
      · exact Nat.zero_le _
      · rw [hx]
        exact h
  have hstarve : (advanceLane sh (realUnits (s.lane l) (s.lane l).p).isSome c).starveRun ≤
      (s.lane l).options.starveLimit := by
    show (if (realUnits (s.lane l) (s.lane l).p).isSome then 0 else c.starveRun + 1) ≤ _
    rcases hreal with h | h
    · rw [Option.isSome_iff_ne_none.2 h, if_pos rfl]
      exact Nat.zero_le _
    · split
      · exact Nat.zero_le _
      · rw [hx]
        exact h
  have hlane : ((presented l sh (entered l s)).modLane l
      (advanceLane sh (realUnits (s.lane l) (s.lane l).p).isSome)).lane l =
      advanceLane sh (realUnits (s.lane l) (s.lane l).p).isSome c := by rw [State.lane_modLane_self, ← hcl]
  have hopenE : ((entered l s).lane l).tally.phase ≠ .closing := by
    rw [entered_lane_self, enteredLane_open hopen]
    exact hopen
  have hlic : (presentFrame l sh (entered l s)).licences = s.licences := by
    have hshown : decide ((presentPicture (markedLane sh ((entered l s).lane l))).kind = .real) =
        (realUnits (s.lane l) (s.lane l).p).isSome := by
      rw [entered_lane_self]
      exact shownReal_eq sh _
    rw [presentFrame_parts, hshown]
    refine Eq.trans (congrArg State.licences (afterAdvance_plays ?_ ?_ ?_)) ?_
    · rw [hlane]
      exact htotal
    · rw [hlane, hopts]
      exact hgrace
    · rw [hlane, hopts]
      exact hstarve
    · exact (presented_licences hopenE).trans (entered_licences hopen)
  rw [advancedLane_plays htotal (by rw [hopts]; exact hgrace) (by rw [hopts]; exact hstarve)] at hb
  obtain ⟨n, hn'⟩ := hb.lane
  exact ⟨u, c, n, hu, hn', hscan, hb.licences.trans hlic, hb.kept⟩

/-! ## The record of P (R65, R66, R115, R117) -/

theorem roomyList_length {x : Lane} (h : x.link.awaiting.length ≤ 8) :
    (roomyList x).length + 1 = min 8 (x.link.awaiting.length + 1) := by
  unfold roomyList
  split
  · rw [List.length_drop]
    omega
  · omega

theorem markedLane_lastReal (sh : Show) (x : Lane) :
    (markedLane sh (enteredLane x)).lastReal = x.lastReal ∧
      (markedLane sh (enteredLane x)).link.frameHeld = x.link.frameHeld := by
  obtain ⟨o, w, i, hm⟩ := markedLane_eq sh (enteredLane x)
  obtain ⟨t, a, n, j, hx, -⟩ := enteredLane_eq x
  rw [hm]
  constructor <;> (rw [hx])

/-- The record of P on a LOCKED link, and the entry that it leaves in the awaiting-confirmation list. -/
theorem recordedLane_locked {sh : Show} {x : Lane} (hk : x.link.state = .locked) (hrun : x.tally.phase = .running) :
    (recordedLane sh (enteredLane x)).link.seq = (x.link.seq + 1) % 65536 ∧
      ∃ r e, (recordedLane sh (enteredLane x)).link.forward = .frame r ∧ r.seq = x.link.seq ∧ r.shutterOpen = true ∧
        (∀ us, realUnits x x.p = some us → r.kind = .real ∧ r.units = us) ∧
        (realUnits x x.p = none →
          r.kind = (if x.lastReal.isSome && x.link.frameHeld then .repeated else .black) ∧ r.units = []) ∧
        (recordedLane sh (enteredLane x)).link.awaiting.getLast? = some e ∧ e.seq = x.link.seq ∧ e.showFrame = x.p ∧
        e.runMark = true ∧
        (x.link.awaiting.length ≤ 8 →
          (recordedLane sh (enteredLane x)).link.awaiting.length = min 8 (x.link.awaiting.length + 1)) := by
  have hopen := not_closing_of_running hrun
  obtain ⟨hks, hseq⟩ := aheadLane_link sh x
  obtain ⟨htally, hlink, hp⟩ := aheadLane_kept sh (enteredLane x)
  have htally' : (aheadLane sh (enteredLane x)).tally = x.tally := htally.trans (enteredLane_open hopen)
  have hlist : (aheadLane sh (enteredLane x)).link.awaiting = x.link.awaiting := by
    obtain ⟨t, a, n, j, hx, hin⟩ := enteredLane_eq x
    rw [hlink, hx]
    exact (hin hopen).2.1
  have hunits := marked_units sh x
  obtain ⟨hlast, hheld⟩ := markedLane_lastReal sh x
  obtain ⟨t, a, n, e, i, hr, hin⟩ := recordLane_eq (pic := presentPicture (markedLane sh (enteredLane x)))
    (tiles := presentTiles sh (aheadLane sh (enteredLane x)))
    (map := presentMap sh (aheadLane sh (enteredLane x))) (hks.trans hk)
  obtain ⟨ht, ha⟩ := hin (by rw [htally']; exact hopen)
  rw [recordedLane, linkedLane_locked (hks.trans hk), hr]
  refine ⟨congrArg (fun n => (n + 1) % 65536) hseq, _, _, rfl, hseq, ?_, fun us hus => ?_, fun hnone => ?_,
    List.getLast?_concat, hseq, hp.trans (enteredLane_p x), ?_, fun hlen => ?_⟩
  · show (presentPicture (markedLane sh (enteredLane x))).shutterOpen = true
    cases hus : realUnits x x.p with
    | some us => rw [presentPicture_real (hunits.trans hus)]
    | none => rw [presentPicture_concealed (hunits.trans hus)]
  · show (presentPicture (markedLane sh (enteredLane x))).kind = _ ∧
      (presentPicture (markedLane sh (enteredLane x))).units = _
    rw [presentPicture_real (hunits.trans hus)]
    exact ⟨rfl, rfl⟩
  · show (presentPicture (markedLane sh (enteredLane x))).kind = _ ∧
      (presentPicture (markedLane sh (enteredLane x))).units = _
    rw [presentPicture_concealed (hunits.trans hnone), hlast, hheld]
    exact ⟨rfl, rfl⟩
  · show decide (t.phase = .running) = true
    rw [ht, htally', hrun]
    rfl
  · show (a ++ [_]).length = _
    rw [List.length_append, ha, ← hlist]
    exact roomyList_length (by rw [hlist]; exact hlen)

theorem lit_routedAhead (sh : Show) (x : Lane) : Lit (aheadLane sh x) (routedLane sh x) :=
  (lit_linkedLane (presentPicture (markedLane sh x)) (presentTiles sh (aheadLane sh x))
    (presentMap sh (aheadLane sh x)) (aheadLane sh x)).trans (.after (.setIndicatorIf _ _ _) rfl)

/-- CONCEALED is set where no real frame of P is shown (R66). -/
theorem conceals {sh : Show} {x c : Lane} (h : Scanned (routedLane sh (enteredLane x)) c) (hnone : realUnits x x.p = none) :
    c.indicators.held &&& indicatorBit .concealed ≠ 0 ∧ c.indicators.period &&& indicatorBit .concealed ≠ 0 := by
  have hset : aheadLane sh (enteredLane x) = setIndicator .concealed (markedLane sh (enteredLane x)) := by
    have hreal := shownReal_eq sh x
    rw [hnone, shownReal] at hreal
    rw [aheadLane, hreal]
    rfl
  have hlit := (lit_routedAhead sh (enteredLane x)).trans h.lit
  rw [hset] at hlit
  refine ⟨hlit.bit (setIndicator_held .concealed _), ?_⟩
  exact hlit.shows (y := c) (setIndicator_held .concealed
    { markedLane sh (enteredLane x) with
      indicators := { (markedLane sh (enteredLane x)).indicators with
        held := (markedLane sh (enteredLane x)).indicators.period } })

/-- What the advance of P leaves of the lane's queues (R65). -/
theorem scanned_queue {sh : Show} {x c : Lane} (h : Scanned (routedLane sh (enteredLane x)) c) (real : Bool) (e : Essence) :
    ((advanceLane sh real c).tracks.get e).queue =
      if (headFor x e x.p).isSome then (x.tracks.get e).queue.drop 1 else (x.tracks.get e).queue := by
  obtain ⟨t, k, o, w, i, p, b, m, hx, -⟩ := scanned_outline h
  have hq : (c.tracks.get e).queue = (x.tracks.get e).queue := by
    rw [hx]
    exact (begunTracks_queue x e).1
  have hp : c.p = x.p := by rw [hx]
  have hhead : headFor c e c.p = headFor x e x.p := by
    unfold headFor
    rw [hq, hp]
  rw [advanceLane_queue, hhead, hq]

end Sys2Proof.Machine
end

section
/-! What a presenting boundary routes, and what its scan makes of each cue (R67, R146, R157 to R161). -/

namespace Sys2Proof.Machine

/-! ## The cue table as the scan reads it -/

theorem readHostWords_congr {h k : HostSide} {tb : Nat} (hf : k.readFails = h.readFails)
    (hm : ∀ i < 32, memReadBytes k.mem (tb + 16 * i) 8 = memReadBytes h.mem (tb + 16 * i) 8) :
    ∀ n i, i + n ≤ 32 → readHostWords k tb n i = readHostWords h tb n i
  | 0, _, _ => rfl
  | n + 1, i, hin => by
    unfold readHostWords hostRead
    rw [hf, hm i (by omega), readHostWords_congr hf hm n (i + 1) (by omega)]

theorem CueReady.word {l : LaneId} {tb i : Nat} {s : State} (h : CueReady l tb s) (hi : i < 32) :
    ∀ j < 8, outside (eventAreas s l) (tb + 16 * i + j) := fun j hj => h.beside _ (by omega) (by omega)

theorem CueReady.words {l : LaneId} {tb : Nat} {s t : State} (h : CueReady l tb s) (hm : memKept (eventAreas s l) s t) :
    readHostWords t.host tb 32 0 = readHostWords s.host tb 32 0 :=
  readHostWords_congr hm.2.1 (fun _ hi => memReadBytes_of_outside hm (h.word hi)) 32 0 (by decide)

theorem CueReady.events {l : LaneId} {tb : Nat} {s t : State} (h : CueReady l tb s) (hw : LaneWork l [] s t) :
    memKept (eventAreas s l) s t := by
  have := hw.mem h.shape
  rwa [List.append_nil] at this

/-! ## The part words that are due (R160) -/

theorem writeParts_ready {l : LaneId} {tb : Nat} {is : List Nat} {s : State} (h : CueReady l tb s)
    (his : ∀ j ∈ is, j < 32) : CueKept l tb 32 s (writeParts l is s) :=
  writeParts_cueKept h fun j hj => ⟨his j hj, Nat.ne_of_lt (his j hj)⟩

theorem pendingParts_lt (c : CueScanner) : ∀ j ∈ pendingParts c, j < 32 := fun _ hj =>
  List.mem_range.1 (List.mem_filter.1 hj).1

/-- The entry of a pending part word among those that the scan writes. -/
theorem pendingParts_split {c : CueScanner} {i : Nat} (hi : i < 32) (hp : c.writePending.getD i false = true) :
    ∃ A B, pendingParts c = A ++ i :: B ∧ (∀ j ∈ A, j < 32 ∧ j ≠ i) ∧ ∀ j ∈ B, j < 32 ∧ j ≠ i := by
  have hmem : i ∈ pendingParts c := List.mem_filter.2 ⟨List.mem_range.2 hi, hp⟩
  have hlt := pendingParts_lt c
  have hnd : (pendingParts c).Nodup := List.nodup_range.filter _
  obtain ⟨A, B, hAB⟩ := List.append_of_mem hmem
  rw [hAB] at hlt hnd
  obtain ⟨-, hB, hA⟩ := List.nodup_append.1 hnd
  refine ⟨A, B, hAB, fun j hj => ⟨hlt j (List.mem_append_left _ hj), hA j hj i List.mem_cons_self⟩, fun j hj => ?_⟩
  refine ⟨hlt j (List.mem_append_right _ (List.mem_cons_of_mem _ hj)), fun hji => ?_⟩
  subst hji
  exact (List.nodup_cons.1 hB).1 hj

/-! ## One entry of the scan -/

/-- Whether the scan writes the part word of entry `i`: its mark changes or its write is pending (R160). -/
def partDue (p n i : Nat) (w : HostWord) (m : Mark) (c : CueScanner) : Bool :=
  decide (markAfter p n w m ≠ m) || c.writePending.getD i false

theorem markAfter_idle {p n : Nat} {w : HostWord} {m : Mark} (h : cueJudged p n w m = false) : markAfter p n w m = m := by
  unfold markAfter cueFires
  rw [h]
  rfl

theorem markAfter_judged {p n : Nat} {w : HostWord} {m : Mark} (h : cueJudged p n w m = true) :
    markAfter p n w m ≠ m := by
  have hclear : m = .clear := by
    rw [cueJudged] at h
    simp only [Bool.and_eq_true, decide_eq_true_eq] at h
    exact h.1.1.2
  rw [hclear] at h ⊢
  unfold markAfter
  rw [if_pos h]
  split
  · exact fun hh => nomatch hh
  · exact fun hh => nomatch hh

/-- What a scan makes of the word `w` and the mark `m` of entry `i`. -/
structure EntryScanned (l : LaneId) (tb i p n : Nat) (w : HostWord) (m : Mark) (s t : State) : Prop where
  mark : (t.lane l).scanner.marks[i]? = some (markAfter p n w m)
  missed : markAfter p n w m = .missed p w.position → m = .clear →
    (t.lane l).indicators.held &&& indicatorBit .cueMissed ≠ 0
  written : partDue p n i w m (s.lane l).scanner = true → accessFails s.host.writeFails (partAddr tb i) 8 = false →
    memReadBytes t.host.mem (partAddr tb i) 8 = partWord (markAfter p n w m)
  pending : partDue p n i w m (s.lane l).scanner = true → (s.lane l).scanner.writePending.length = 32 →
    (t.lane l).scanner.writePending[i]? = some (accessFails s.host.writeFails (partAddr tb i) 8)
  left : partDue p n i w m (s.lane l).scanner = false →
    (t.lane l).scanner.writePending[i]? = (s.lane l).scanner.writePending[i]?

/-- The scan of the words `ws`, ahead of which the pending part words are written (R157, R160). -/
def scanWords (l : LaneId) (p n : Nat) (ws : List HostWord) (s : State) : State :=
  ((List.range 32).zip ws).foldl (judgeCue l p n) (writeParts l (pendingParts (s.lane l).scanner) s)

/-- An entry that the scan judges: it fires or is missed. -/
theorem scanWords_judged {l : LaneId} {tb i p n : Nat} {ws : List HostWord} {w : HostWord} {m : Mark} {s : State}
    (h : CueReady l tb s) (hi : i < 32) (hw : ws[i]? = some w) (hm : (s.lane l).scanner.marks[i]? = some m)
    (hj : cueJudged p n w m = true) : EntryScanned l tb i p n w m s (scanWords l p n ws s) := by
  have hdue : partDue p n i w m (s.lane l).scanner = true := by
    rw [partDue, decide_eq_true (markAfter_judged hj), Bool.true_or]
  have hparts := writeParts_ready h (pendingParts_lt (s.lane l).scanner)
  have hmarks : ((writeParts l (pendingParts (s.lane l).scanner) s).lane l).scanner.marks[i]? = some m := by
    obtain ⟨q, hq⟩ := (writeParts_written l (pendingParts (s.lane l).scanner) s).lane
    rw [hq]
    exact hm
  obtain ⟨A, B, hzip, hA, hB⟩ := zip_split hi hw
  unfold scanWords
  rw [hzip, List.foldl_append, List.foldl_cons]
  generalize writeParts l (pendingParts (s.lane l).scanner) s = t at hparts hmarks ⊢
  have hahead : CueKept l tb i t (A.foldl (judgeCue l p n) t) := judgeCues_cueKept (hparts.ready h) hA
  have hlengths : (t.lane l).scanner.writePending.length =
      ((A.foldl (judgeCue l p n) t).lane l).scanner.writePending.length := hahead.length.symm
  generalize A.foldl (judgeCue l p n) t = v at hahead hlengths ⊢
  have hready := hahead.ready (hparts.ready h)
  have hfails : v.host.writeFails = s.host.writeFails := hahead.writes.trans hparts.writes
  obtain ⟨hset, hmiss⟩ := judgeCue_partSet hready hi (hahead.mark.trans hmarks) hj
  have hrest : CueKept l tb i (judgeCue l p n v (i, w)) (B.foldl (judgeCue l p n) (judgeCue l p n v (i, w))) :=
    judgeCues_cueKept (hset.ready hready) hB
  obtain ⟨hmark, hwritten, hpend⟩ := hset.kept hrest hready hi
  rw [hfails] at hwritten hpend
  exact ⟨hmark, fun hmissed _ => hrest.lit.bit (hmiss hmissed), fun _ => hwritten, fun _ hlen =>
    hpend (hlengths.symm.trans (hparts.length.trans hlen)), fun hnot => absurd (hdue.symm.trans hnot) (by decide)⟩

/-- The judgement of the entries leaves one that it does not judge. -/
theorem judgeCues_idle {l : LaneId} {tb i p n : Nat} {ws : List HostWord} {w : HostWord} {m : Mark} {s : State}
    (h : CueReady l tb s) (hi : i < 32) (hw : ws[i]? = some w) (hm : (s.lane l).scanner.marks[i]? = some m)
    (hj : cueJudged p n w m = false) :
    CueKept l tb i s (((List.range 32).zip ws).foldl (judgeCue l p n) s) := by
  obtain ⟨A, B, hzip, hA, hB⟩ := zip_split hi hw
  rw [hzip, List.foldl_append, List.foldl_cons]
  have hahead : CueKept l tb i s (A.foldl (judgeCue l p n) s) := judgeCues_cueKept h hA
  generalize A.foldl (judgeCue l p n) s = v at hahead ⊢
  have hidle : judgeCue l p n v (i, w) = v := by
    refine judgeCue_idle ?_
    rw [List.getD_eq_getElem?_getD, hahead.mark, hm]
    exact hj
  rw [hidle]
  exact hahead.trans (judgeCues_cueKept (hahead.ready h) hB)

/-- An entry that the scan leaves as it is marked; its part word is written where a write of it is pending. -/
theorem scanWords_idle {l : LaneId} {tb i p n : Nat} {ws : List HostWord} {w : HostWord} {m : Mark} {s : State}
    (h : CueReady l tb s) (hi : i < 32) (hw : ws[i]? = some w) (hm : (s.lane l).scanner.marks[i]? = some m)
    (hj : cueJudged p n w m = false) : EntryScanned l tb i p n w m s (scanWords l p n ws s) := by
  have hsame := markAfter_idle hj
  have hdue : partDue p n i w m (s.lane l).scanner = (s.lane l).scanner.writePending.getD i false := by
    rw [partDue, hsame, decide_eq_false (fun hh => hh rfl), Bool.false_or]
  have hmissed : markAfter p n w m = .missed p w.position → m ≠ .clear := fun h1 h2 => by
    rw [hsame, h2] at h1
    cases h1
  have hmarks : ((writeParts l (pendingParts (s.lane l).scanner) s).lane l).scanner.marks[i]? = some m := by
    obtain ⟨q, hq⟩ := (writeParts_written l (pendingParts (s.lane l).scanner) s).lane
    rw [hq]
    exact hm
  unfold scanWords
  cases hp : (s.lane l).scanner.writePending.getD i false with
  | false =>
    have hnone : ∀ j ∈ pendingParts (s.lane l).scanner, j < 32 ∧ j ≠ i := fun j hjm => by
      obtain ⟨hr, hpj⟩ := List.mem_filter.1 hjm
      refine ⟨List.mem_range.1 hr, fun hji => ?_⟩
      rw [hji, hp] at hpj
      cases hpj
    have hparts := writeParts_cueKept h hnone
    have hall := hparts.trans (judgeCues_idle (p := p) (n := n) (hparts.ready h) hi hw hmarks hj)
    refine ⟨by rw [hall.mark, hm, hsame], fun h1 h2 => absurd h2 (hmissed h1), fun hd => ?_, fun hd => ?_,
      fun _ => hall.pending⟩
    all_goals
      rw [hdue, hp] at hd
      cases hd
  | true =>
    obtain ⟨A, B, hsplit, hA, hB⟩ := pendingParts_split hi hp
    have hready := (writeParts_ready h (pendingParts_lt (s.lane l).scanner)).ready h
    have hahead := writeParts_cueKept h hA
    have hset : PartSet l tb i m (writeParts l A s) (writePart l (writeParts l A s) i) :=
      writePart_partSet (hahead.ready h).table hi (hahead.mark.trans hm)
    have hrest := (writeParts_cueKept (hset.ready (hahead.ready h)) hB).trans
      (judgeCues_idle (p := p) (n := n) (s := writeParts l B (writePart l (writeParts l A s) i)) (by
        rw [hsplit, writeParts, List.foldl_append] at hready
        exact hready) hi hw (by
        rw [hsplit, writeParts, List.foldl_append] at hmarks
        exact hmarks) hj)
    obtain ⟨hmark, hwritten, hpend⟩ := hset.kept hrest (hahead.ready h) hi
    rw [hahead.writes] at hwritten hpend
    have hstate : writeParts l (pendingParts (s.lane l).scanner) s =
        writeParts l B (writePart l (writeParts l A s) i) := by
      rw [hsplit, writeParts, List.foldl_append]
      rfl
    rw [hstate]
    refine ⟨by rw [hmark, hsame], fun h1 h2 => absurd h2 (hmissed h1), fun _ hok => by rw [hwritten hok, hsame],
      fun _ hlen => hpend (hahead.length.trans hlen), fun hd => ?_⟩
    rw [hdue, hp] at hd
    cases hd

theorem scanWords_entry {l : LaneId} {tb i p n : Nat} {ws : List HostWord} {w : HostWord} {m : Mark} {s : State}
    (h : CueReady l tb s) (hi : i < 32) (hw : ws[i]? = some w) (hm : (s.lane l).scanner.marks[i]? = some m) :
    EntryScanned l tb i p n w m s (scanWords l p n ws s) := by
  cases hj : cueJudged p n w m with
  | true => exact scanWords_judged h hi hw hm hj
  | false => exact scanWords_idle h hi hw hm hj

/-! ## The contacts (R159) -/

theorem writePart_contacts (l : LaneId) (s : State) (i : Nat) :
    ((writePart l s i).lane l).contacts = (s.lane l).contacts ∧
      ((writePart l s i).lane l).scanner.marks = (s.lane l).scanner.marks := by
  obtain ⟨q, hq⟩ := (writePart_written l s i).lane
  rw [hq]
  exact ⟨rfl, rfl⟩

/-- The contacts after one entry. -/
theorem judgeCue_contacts {l : LaneId} {p n : Nat} {s : State} {e : Nat × HostWord} :
    ((judgeCue l p n s e).lane l).contacts =
      if cueFires p n e.2 ((s.lane l).scanner.marks.getD e.1 .clear) then
        setContacts e.2.mask e.2.value (s.lane l).contacts
      else (s.lane l).contacts := by
  cases hj : cueJudged p n e.2 ((s.lane l).scanner.marks.getD e.1 .clear) with
  | false =>
    rw [judgeCue_idle hj, if_neg (by rw [cueFires, hj]; exact Bool.false_ne_true)]
  | true =>
    rw [judgeCue_judged hj]
    split
    · rw [fireCue, offer_lane, (writePart_contacts l _ _).1, State.lane_modLane_self]
    · rw [missCue, offer_lane, raise, State.lane_modLane_self]
      show ((writePart l (modScanner l (setMark e.1 (.missed p e.2.position)) s) e.1).lane l).contacts = _
      rw [(writePart_contacts l _ _).1, modScanner, State.lane_modLane_self]

/-- The contacts once every entry is judged, by the marks that each had. -/
theorem judgeCues_contacts {l : LaneId} {tb p n : Nat} {marks : List Mark} {es : List (Nat × HostWord)} {s : State}
    (h : CueReady l tb s) (hes : ∀ e ∈ es, e.1 < 32) (hnd : (es.map Prod.fst).Nodup)
    (hm : ∀ e ∈ es, (s.lane l).scanner.marks[e.1]? = marks[e.1]?) :
    ((es.foldl (judgeCue l p n) s).lane l).contacts =
      es.foldl (fun c e => if cueFires p n e.2 (marks.getD e.1 .clear) then setContacts e.2.mask e.2.value c else c)
        (s.lane l).contacts := by
  induction es generalizing s with
  | nil => rfl
  | cons e es ih =>
    obtain ⟨hnot, hnd'⟩ := List.nodup_cons.1 hnd
    have hmark : (s.lane l).scanner.marks.getD e.1 .clear = marks.getD e.1 .clear := by
      rw [List.getD_eq_getElem?_getD, List.getD_eq_getElem?_getD, hm e List.mem_cons_self]
    have hrest : ∀ f ∈ es, ((judgeCue l p n s e).lane l).scanner.marks[f.1]? = marks[f.1]? := fun f hf => by
      have hne : e.1 ≠ f.1 := fun heq => hnot (List.mem_map.2 ⟨f, hf, heq.symm⟩)
      rw [(judgeCue_cueKept (i := f.1) h (hes e List.mem_cons_self) hne).mark, hm f (List.mem_cons_of_mem _ hf)]
    rw [List.foldl_cons, List.foldl_cons,
      ih (judgeCue_ready h (hes e List.mem_cons_self)) (fun f hf => hes f (List.mem_cons_of_mem _ hf)) hnd' hrest,
      judgeCue_contacts, hmark]

theorem mem_zip_range {ws : List HostWord} {e : Nat × HostWord} (h : e ∈ (List.range 32).zip ws) : e.1 < 32 :=
  List.mem_range.1 (List.of_mem_zip h).1

theorem map_fst_zip_sublist {α β : Type} : ∀ (as : List α) (bs : List β), ((as.zip bs).map Prod.fst).Sublist as
  | [], _ => List.nil_sublist _
  | _ :: _, [] => List.nil_sublist _
  | a :: as, _ :: bs => (map_fst_zip_sublist as bs).cons_cons a

theorem nodup_zip_range (ws : List HostWord) : (((List.range 32).zip ws).map Prod.fst).Nodup := (map_fst_zip_sublist _ ws).nodup List.nodup_range

theorem scanWords_contacts {l : LaneId} {tb p n : Nat} {ws : List HostWord} {s : State} (h : CueReady l tb s) :
    ((scanWords l p n ws s).lane l).contacts =
      contactsAfter p n (s.lane l).scanner.marks ws (s.lane l).contacts := by
  have hready := (writeParts_ready h (pendingParts_lt (s.lane l).scanner)).ready h
  obtain ⟨q, hq⟩ := (writeParts_written l (pendingParts (s.lane l).scanner) s).lane
  rw [scanWords, judgeCues_contacts (marks := (s.lane l).scanner.marks) hready (fun e he => mem_zip_range he)
    (nodup_zip_range ws) (fun e _ => by rw [hq]), hq]
  rfl

/-- The judgement of the entries and the writes of the part words leave what the scan has found of the reads. -/
theorem scanWords_error {l : LaneId} {tb p n : Nat} {ws : List HostWord} {s : State} (h : CueReady l tb s) :
    CueKept l tb 32 s (scanWords l p n ws s) := by
  have hparts := writeParts_ready h (pendingParts_lt (s.lane l).scanner)
  exact hparts.trans (judgeCues_cueKept (hparts.ready h) fun e he =>
    ⟨mem_zip_range he, Nat.ne_of_lt (mem_zip_range he)⟩)

/-! ## The scan by the reads of the table (R157) -/

theorem cueScan_none {l : LaneId} {p n : Nat} {s : State} (h : cueTableOf (s.lane l) = none) : cueScan l p n s = s := by
  unfold cueScan
  rw [h]

theorem cueScan_unread {l : LaneId} {tb p n : Nat} {s : State} (h : cueTableOf (s.lane l) = some tb)
    (hr : readHostWords s.host tb 32 0 = none) :
    cueScan l p n s = modScanner l (fun c => { c with readError := true }) s := by
  unfold cueScan
  rw [h]
  dsimp only
  rw [hr]

theorem cueScan_read {l : LaneId} {tb p n : Nat} {s : State} {ws : List HostWord} (h : cueTableOf (s.lane l) = some tb)
    (hr : readHostWords s.host tb 32 0 = some ws) :
    cueScan l p n s = scanWords l p n ws (modScanner l (fun c => { c with readError := false }) s) := by
  unfold cueScan
  rw [h]
  dsimp only
  rw [hr]
  rfl

end Sys2Proof.Machine
end

section
/-! The sound and the cues of a presenting boundary, from its start to the look at the slot (R67, R146, R157). -/

namespace Sys2Proof.Machine

/-! ## The sound of P (R67, R146) -/

theorem soundFor_congr {x y : Lane} {sh : Show} {e : Essence} {p : Nat} (h : headFor y e p = headFor x e p) :
    soundFor sh y e p = soundFor sh x e p := by
  unfold soundFor
  rw [h]

theorem soundFor_marked (sh : Show) (x : Lane) (e : Essence) :
    soundFor sh (markedLane sh (enteredLane x)) e (markedLane sh (enteredLane x)).p = soundFor sh x e x.p := by
  rw [markedLane_p, enteredLane_p]
  exact soundFor_congr ((markedLane_head sh _ e x.p).trans (enteredLane_head x e x.p))

theorem routedLane_sound (sh : Show) (x : Lane) :
    routedLane sh (enteredLane x) =
      presentSound (soundFor sh x .main x.p) (soundFor sh x .aux x.p) (recordedLane sh (enteredLane x)) := by
  rw [routedLane, soundFor_marked, soundFor_marked]

theorem recordedLane_routing (sh : Show) (x : Lane) :
    (recordedLane sh (enteredLane x)).sound.routing = x.sound.stagedRouting.getD x.sound.routing := by
  obtain ⟨i, ha⟩ := aheadLane_eq sh (enteredLane x)
  obtain ⟨o, w, j, hm⟩ := markedLane_eq sh (enteredLane x)
  obtain ⟨t, k, i', hl, -⟩ := linkedLane_eq (presentPicture (markedLane sh (enteredLane x)))
    (presentTiles sh (aheadLane sh (enteredLane x))) (presentMap sh (aheadLane sh (enteredLane x)))
    (aheadLane sh (enteredLane x))
  obtain ⟨t', a, n, j', hx, -⟩ := enteredLane_eq x
  have hahead : (aheadLane sh (enteredLane x)).sound = begunSound x := by
    rw [ha, hm]
    show (enteredLane x).sound = _
    rw [hx]
  rw [recordedLane, hl]
  show (aheadLane sh (enteredLane x)).sound.routing = _
  rw [hahead]
  rfl

/-- The samples that a presenting boundary routes, and the gaps that it tells of. -/
theorem scanned_sound {sh : Show} {x c : Lane} (h : Scanned (routedLane sh (enteredLane x)) c) :
    c.sound.period = (x.sound.stagedRouting.getD x.sound.routing).map
        (sourceSamples (soundFor sh x .main x.p) (soundFor sh x .aux x.p)) ∧
      (soundFor sh x .main x.p = .gap ∨ soundFor sh x .aux x.p = .gap →
        c.indicators.held &&& indicatorBit .soundGap ≠ 0 ∧ c.indicators.period &&& indicatorBit .soundGap ≠ 0) := by
  have hlit := h.lit
  have hsound : c.sound = (routedLane sh (enteredLane x)).sound := by
    obtain ⟨⟨m, b, i, rfl⟩, -⟩ := h
    rfl
  obtain ⟨j, hs⟩ := presentSound_eq (soundFor sh x .main x.p) (soundFor sh x .aux x.p) (recordedLane sh (enteredLane x))
  refine ⟨?_, fun hgap => ?_⟩
  · rw [hsound, routedLane_sound, hs]
    show ((recordedLane sh (enteredLane x)).sound.routing).map _ = _
    rw [recordedLane_routing]
  · have hdue : (decide (soundFor sh x .main x.p = .gap) || decide (soundFor sh x .aux x.p = .gap)) = true := by
      rw [Bool.or_eq_true, decide_eq_true_eq, decide_eq_true_eq]
      exact hgap
    rw [routedLane_sound, presentSound, hdue] at hlit
    exact ⟨hlit.bit (setIndicator_held .soundGap _), hlit.shows (y := c) (setIndicator_held .soundGap
      { recordedLane sh (enteredLane x) with
        indicators := { (recordedLane sh (enteredLane x)).indicators with
          held := (recordedLane sh (enteredLane x)).indicators.period } })⟩

/-! ## The cue table up to the scan, and after it -/

theorem routed_work (l : LaneId) (sh : Show) (s : State) : LaneWork l [] s (routed l sh s) := by
  have hsound (u : State) (m a) : LaneWork l [] u (u.modLane l (presentSound m a)) :=
    .modLane [] (presentSound_keeps _ _ _) (setIndicatorIf_state _ _ _)
  exact ((presentAhead_cueWork l [] sh s).work.trans (linkBoundary_work l [] _ _ _ _)).trans (hsound _ _ _)

theorem entered_work (l : LaneId) (s : State) : LaneWork l [] s (entered l s) :=
  (beginBoundary_work l [] s).trans (windowTick_work l [] _)

/-- The lane that the scan of the cues begins with. -/
theorem routed_scanner (sh : Show) (x : Lane) :
    (routedLane sh (enteredLane x)).scanner = x.scanner ∧ (routedLane sh (enteredLane x)).contacts = x.contacts ∧
      (routedLane sh (enteredLane x)).loaded = x.loaded := by
  obtain ⟨t, k, o, w, i, hr, -⟩ := routedLane_eq sh (enteredLane x)
  rw [hr]
  obtain ⟨t', a, n, j, hx, -⟩ := enteredLane_eq x
  refine ⟨?_, ?_, ?_⟩
  · show (enteredLane x).scanner = _
    rw [hx]
  · show (enteredLane x).contacts = _
    rw [hx]
  · show (enteredLane x).loaded = _
    rw [hx]

theorem routed_cueReady {l : LaneId} {tb : Nat} {sh : Show} {s : State} (h : CueReady l tb s) :
    CueReady l tb (routed l sh (entered l s)) ∧ memKept (eventAreas s l) s (routed l sh (entered l s)) := by
  have hwork := (entered_work l s).trans (routed_work l sh (entered l s))
  obtain ⟨-, -, hl⟩ := routed_scanner sh (s.lane l)
  refine ⟨⟨?_, hwork.keeps.shapeOk h.shape, by rw [eventAreas_of_registers hwork.rest.2.1 l]; exact h.beside⟩,
    h.events hwork⟩
  unfold cueTableOf
  rw [routed_lane_self, entered_lane_self, hl]
  exact h.table

/-- What follows the scan leaves the cue table. -/
theorem scanned_memKept {l : LaneId} {tb : Nat} {sh : Show} {s u : State} {y : Lane}
    (hst : (s.lane l).state = .playing) (hr : CueReady l tb (presented l sh (entered l s)))
    (hb : Bounded l s y (presentFrame l sh (entered l s)) u) :
    memKept (eventAreas (presented l sh (entered l s)) l) (presented l sh (entered l s)) u := by
  have hplays : ((presented l sh (entered l s)).lane l).state = .playing :=
    (presented_cueWork sh (List.Subset.refl _)).state.trans ((entered_state l s).trans hst)
  obtain ⟨real, heq⟩ := presentFrame_eq l sh (entered l s)
  have hrest : LaneWork l [] (presented l sh (entered l s)) (presentFrame l sh (entered l s)) := by
    rw [heq]
    exact (LaneWork.modLane [] (advanceLane_keeps sh real hplays) rfl).trans (afterAdvance_work l [] sh _)
  have hmem := hb.mem (hrest.keeps.shapeOk hr.shape)
  rw [eventAreas_of_registers hrest.rest.2.1 l] at hmem
  exact (hr.events hrest).trans hmem

/-! ## The scan of a presenting boundary -/

theorem modScanner_ready {l : LaneId} {tb : Nat} {b : Bool} {s : State} (h : CueReady l tb s) :
    CueReady l tb (modScanner l (fun c => { c with readError := b }) s) := h.modLane rfl id

/-- What a presenting boundary makes of the lane's cues. -/
theorem presents_cues {l : LaneId} {tb : Nat} {s u : State} {sh : Show} {c : Lane} {real : Bool}
    (hst : (s.lane l).state = .playing) (hr : CueReady l tb s)
    (hb : Bounded l s (advancedLane sh (advanceLane sh real c)) (presentFrame l sh (entered l s)) u)
    (hc : c = (presented l sh (entered l s)).lane l) :
    (readHostWords s.host tb 32 0 = none →
      (u.lane l).scanner = { (s.lane l).scanner with readError := true } ∧
        (u.lane l).contacts = (s.lane l).contacts) ∧
      ∀ ws, readHostWords s.host tb 32 0 = some ws →
        (u.lane l).scanner.readError = false ∧
          (u.lane l).contacts = contactsAfter (s.lane l).p sh.total (s.lane l).scanner.marks ws (s.lane l).contacts ∧
          ∀ i < 32, ∀ w m, ws[i]? = some w → (s.lane l).scanner.marks[i]? = some m →
            EntryScanned l tb i (s.lane l).p sh.total w m s u := by
  obtain ⟨hready, hmem⟩ := routed_cueReady (sh := sh) hr
  obtain ⟨hsc, hcont, -⟩ := routed_scanner sh (s.lane l)
  have hwords := hr.words hmem
  have hp : (markedLane sh ((entered l s).lane l)).p = (s.lane l).p := by
    rw [entered_lane_self, markedLane_p, enteredLane_p]
  have hscan := presented_eq l sh (entered l s)
  rw [hp] at hscan
  have hkept := WorkKept.advanced sh real c
  have hlane : (u.lane l).scanner = c.scanner ∧ (u.lane l).contacts = c.contacts := by
    obtain ⟨n, hn⟩ := hb.lane
    rw [hn]
    exact ⟨hkept.scanner, hkept.contacts⟩
  have hheld {b : BitVec 10} (hbit : c.indicators.held &&& b ≠ 0) : (u.lane l).indicators.held &&& b ≠ 0 := by
    obtain ⟨n, hn⟩ := hb.lane
    rw [hn]
    exact hkept.lit.bit hbit
  have hlaneR : (routed l sh (entered l s)).lane l = routedLane sh (enteredLane (s.lane l)) := by
    rw [routed_lane_self, entered_lane_self]
  have hafter := fun hv : CueReady l tb (presented l sh (entered l s)) => scanned_memKept hst hv hb
  rw [hscan] at hc hafter
  rw [← hlaneR] at hsc hcont
  clear hscan hb
  generalize routed l sh (entered l s) = t at *
  rw [hlane.1, hlane.2]
  refine ⟨fun hnone => ?_, fun ws hws => ?_⟩
  · rw [cueScan_unread hready.table (hwords.trans hnone)] at hc
    rw [hc, modScanner, State.lane_modLane_self]
    exact ⟨by rw [hsc], hcont⟩
  · rw [cueScan_read hready.table (hwords.trans hws)] at hc hafter
    have hready1 : CueReady l tb (modScanner l (fun c => { c with readError := false }) t) := modScanner_ready hready
    have hlane1 : (modScanner l (fun c => { c with readError := false }) t).lane l =
        { t.lane l with scanner := { (t.lane l).scanner with readError := false } } := State.lane_modLane_self _ _ _
    have hfails : (modScanner l (fun c => { c with readError := false }) t).host.writeFails = s.host.writeFails :=
      hmem.2.2
    have herror := scanWords_error (p := (s.lane l).p) (n := sh.total) (ws := ws) hready1
    have hcontacts := scanWords_contacts (p := (s.lane l).p) (n := sh.total) (ws := ws) hready1
    rw [hlane1] at hcontacts
    refine ⟨?_, ?_, fun i hi w m hw hm => ?_⟩
    · rw [hc, herror.error, hlane1]
    · rw [hc, hcontacts, hcont, hsc]
    · have hentry : EntryScanned l tb i (s.lane l).p sh.total w m
          (modScanner l (fun c => { c with readError := false }) t) _ :=
        scanWords_entry (ws := ws) hready1 hi hw (by rw [hlane1, hsc]; exact hm)
      have hpart : memReadBytes u.host.mem (partAddr tb i) 8 = _ :=
        memReadBytes_of_outside (hafter (herror.ready hready1)) ((herror.ready hready1).part hi)
      have hdue : partDue (s.lane l).p sh.total i w m
            ((modScanner l (fun c => { c with readError := false }) t).lane l).scanner =
          partDue (s.lane l).p sh.total i w m (s.lane l).scanner := by
        rw [hlane1, hsc]
        rfl
      have hpend : ((modScanner l (fun c => { c with readError := false }) t).lane l).scanner.writePending =
          (s.lane l).scanner.writePending := by rw [hlane1, hsc]
      obtain ⟨hmark, hmiss, hwritten, hpending, hleft⟩ := hentry
      rw [hdue, hfails] at hwritten hpending
      rw [hpend] at hpending hleft
      rw [hdue] at hleft
      rw [← hc] at hmark hmiss hpending hleft
      exact ⟨by rw [hlane.1]; exact hmark, fun h1 h2 => hheld (hmiss h1 h2), fun hd hok => hpart.trans (hwritten hd hok),
        fun hd hlen => by rw [hlane.1]; exact hpending hd hlen, fun hd => by rw [hlane.1]; exact hleft hd⟩

/-- A lane without a cue table scans nothing (R157). -/
theorem presents_uncued {l : LaneId} {s w u : State} {sh : Show} {c : Lane} {real : Bool}
    (hcue : cueTableOf (s.lane l) = none) (hb : Bounded l s (advancedLane sh (advanceLane sh real c)) w u)
    (hc : c = (presented l sh (entered l s)).lane l) :
    (u.lane l).scanner = (s.lane l).scanner ∧ (u.lane l).contacts = (s.lane l).contacts := by
  obtain ⟨hsc, hcont, hl⟩ := routed_scanner sh (s.lane l)
  have hkept := WorkKept.advanced sh real c
  have hnone : cueTableOf ((routed l sh (entered l s)).lane l) = none := by
    unfold cueTableOf
    rw [routed_lane_self, entered_lane_self, hl]
    exact hcue
  rw [presented_eq, cueScan_none hnone, routed_lane_self, entered_lane_self] at hc
  obtain ⟨n, hn⟩ := hb.lane
  rw [hn]
  exact ⟨hkept.scanner.trans (by rw [hc, hsc]), hkept.contacts.trans (by rw [hc, hcont])⟩

end Sys2Proof.Machine
end

section
/-! The entry, the stores and the active cues of a presenting boundary (R16, R133, R134, R138). -/

namespace Sys2Proof.Machine

/-! ## How much of the ring a presenting boundary can write -/

theorem writePart_ring {l : LaneId} {tb j : Nat} {s : State} (h : CueReady l tb s) (hj : j < 32) :
    RingWork 0 s (writePart l s j) := by
  have hwork := (writePart_work (l := l) (more := partAreas (s.lane l)) (s := s) (i := j) (List.Subset.refl _) hj).work
  have heq := writePart_eq h.table j
  have hmem : memKept [(partAddr tb j, 8)] s (writePart l s j) := by
    rw [heq]
    split
    · exact memKept_of_host rfl
    · have hput := putBytes_memKept (partAddr tb j) (partWord ((s.lane l).scanner.marks.getD j .clear)) s
      rw [partWord_length] at hput
      exact hput
  have hindex : (writePart l s j).journal = s.journal := by
    rw [heq]
    split <;> rfl
  refine .quiet hwork.rest.2.1.tableAddr hwork.keeps.shapeOk (by rw [hindex]) (fun _ => hmem) fun r hr => ?_
  rw [List.mem_singleton.1 hr]
  have hjournal : (journalAddr s 0, 8192) ∈ eventAreas s l := by simp [eventAreas, reportAreas]
  have hfirst := h.part hj 0 (by decide) _ hjournal
  have hlast := h.part hj 7 (by decide) _ hjournal
  simp only [journalAddr] at hfirst hlast ⊢
  omega

theorem writeParts_ring {l : LaneId} {tb : Nat} {is : List Nat} {s : State} (h : CueReady l tb s)
    (his : ∀ j ∈ is, j < 32) : RingWork 0 s (writeParts l is s) := by
  unfold writeParts
  induction is generalizing s with
  | nil => exact .refl s
  | cons j is ih =>
    have hj := his j List.mem_cons_self
    exact (writePart_ring h hj).trans (ih (writePart_ready hj h) fun i hi => his i (List.mem_cons_of_mem _ hi))

theorem judgeCue_ring {l : LaneId} {tb p n : Nat} {e : Nat × HostWord} {s : State} (h : CueReady l tb s) (he : e.1 < 32) :
    RingWork 2 s (judgeCue l p n s e) := by
  have hmod {f : Lane → Lane} (u : State) (hs : laneShapeOk (u.lane l) → laneShapeOk (f (u.lane l))) :
      RingWork 0 u (u.modLane l f) := modLane_ring_of_shape hs
  cases hj : cueJudged p n e.2 ((s.lane l).scanner.marks.getD e.1 .clear) with
  | false =>
    rw [judgeCue_idle hj]
    exact (RingWork.refl s).mono (Nat.zero_le 2)
  | true =>
    rw [judgeCue_judged hj]
    split
    · have hready := h.modLane (f := fun x =>
        { x with
          contacts := setContacts e.2.mask e.2.value x.contacts
          scanner := setMark e.1 (.fired p e.2.position) x.scanner }) rfl id
      exact ((hmod s id).trans (writePart_ring hready he)).trans (offer_ring _ _)
    · have hready := h.modLane (f := fun x => { x with scanner := setMark e.1 (.missed p e.2.position) x.scanner }) rfl id
      exact (((hmod s id).trans (writePart_ring hready he)).trans (hmod _ id)).trans (offer_ring _ _)

theorem judgeCues_ring {l : LaneId} {tb p n : Nat} {es : List (Nat × HostWord)} {s : State} (h : CueReady l tb s)
    (hes : ∀ e ∈ es, e.1 < 32) : RingWork (2 * es.length) s (es.foldl (judgeCue l p n) s) := by
  induction es generalizing s with
  | nil => exact .refl s
  | cons e es ih =>
    have he := hes e List.mem_cons_self
    refine ((judgeCue_ring h he).trans (ih (judgeCue_ready h he) fun f hf => hes f (List.mem_cons_of_mem _ hf))).mono ?_
    rw [List.length_cons]
    omega

theorem scanWords_ring {l : LaneId} {tb p n : Nat} {ws : List HostWord} {s : State} (h : CueReady l tb s) :
    RingWork 64 s (scanWords l p n ws s) := by
  have hparts := pendingParts_lt (s.lane l).scanner
  have hlen : ((List.range 32).zip ws).length ≤ 32 := by
    rw [List.length_zip, List.length_range]
    exact Nat.min_le_left _ _
  refine ((writeParts_ring h hparts).trans (judgeCues_ring ((writeParts_ready h hparts).ready h)
    fun e he => mem_zip_range he)).mono ?_
  omega

theorem cueScan_ring {l : LaneId} {p n : Nat} {s : State} (h : ∀ tb, cueTableOf (s.lane l) = some tb → CueReady l tb s) :
    RingWork 64 s (cueScan l p n s) := by
  have hmod (b : Bool) : RingWork 0 s (modScanner l (fun c => { c with readError := b }) s) := modLane_ring_of_shape id
  cases htab : cueTableOf (s.lane l) with
  | none =>
    rw [cueScan_none htab]
    exact (RingWork.refl s).mono (Nat.zero_le 64)
  | some tb =>
    cases hws : readHostWords s.host tb 32 0 with
    | none =>
      rw [cueScan_unread htab hws]
      exact (hmod true).mono (Nat.zero_le 64)
    | some ws =>
      rw [cueScan_read htab hws]
      exact ((hmod false).trans (scanWords_ring (modScanner_ready (h tb htab)))).mono (by decide)

theorem stopLane_ring (l : LaneId) (c : Cause) (s : State) : RingWork 10 s (stopLane l c s) := by
  have hstop := (runEnd_ring l c s).trans (enterState_ring l .stopping c _)
  unfold stopLane
  dsimp only
  split
  · exact hstop.trans (enterState_ring l .ended c _)
  · exact hstop.mono (by decide)

theorem completeShow_ring (l : LaneId) (s : State) : RingWork 8 s (completeShow l s) := by
  have hend {u : State} (h : RingWork 2 s u) : RingWork 8 s (enterState l .ended .complete (runEnd l .complete u)) :=
    (h.trans (runEnd_ring l .complete u)).trans (enterState_ring l .ended .complete _)
  have hidle : RingWork 2 s s := (RingWork.refl s).mono (Nat.zero_le 2)
  unfold completeShow
  dsimp only
  split
  · split
    · exact hend (offer_ring _ s)
    · exact hend hidle
  · exact hend hidle

theorem afterAdvance_ring (l : LaneId) (sh : Show) (s : State) : RingWork 10 s (afterAdvance l sh s) := by
  unfold afterAdvance
  dsimp only
  split
  · exact (completeShow_ring l s).mono (by decide)
  · split
    · exact stopLane_ring l .linkLost s
    · split
      · exact stopLane_ring l .starved s
      · exact (RingWork.refl s).mono (Nat.zero_le 10)

/-- A presenting boundary writes at most 76 entries after that of its reel start. -/
theorem presentFrame_ring {l : LaneId} {sh : Show} {s : State} (hst : (s.lane l).state = .playing)
    (h : ∀ tb, cueTableOf ((routed l sh s).lane l) = some tb → CueReady l tb (routed l sh s)) :
    RingWork 76 (journalReelStart l s) (presentFrame l sh s) := by
  have hmarked : RingWork 0 (journalReelStart l s)
      ((journalReelStart l s).modLane l fun x => selectActive sh (storesAtReelStart x)) :=
    modLane_ring ((storesAtReelStart_keeps _).trans (selectActive_keeps sh _))
  have hahead : RingWork 0 (journalReelStart l s) (presentAhead l sh s) :=
    hmarked.trans (modLane_ring (setIndicatorIf_keeps _ _ _))
  have hrouted : RingWork 2 (journalReelStart l s) (routed l sh s) :=
    (hahead.trans (linkBoundary_ring l _ _ _ _)).trans (modLane_ring (presentSound_keeps _ _ _))
  have hplays : ((presented l sh s).lane l).state = .playing :=
    (presented_cueWork sh (List.Subset.refl _)).state.trans hst
  have hscan := hrouted.trans (cueScan_ring (p := (markedLane sh (s.lane l)).p) (n := sh.total) h)
  rw [← presented_eq] at hscan
  obtain ⟨real, heq⟩ := presentFrame_eq l sh s
  rw [heq]
  exact (hscan.trans (modLane_ring (advanceLane_keeps sh real hplays))).trans (afterAdvance_ring l sh _)

theorem journalReelStart_first {l : LaneId} {s : State} {sh : Show} {i : Nat} {r : Reel} (hl : (s.lane l).loaded = some sh)
    (hr : reelOf sh (s.lane l).p = some (i, r)) (hs : r.start = (s.lane l).p) :
    journalReelStart l s = offer ⟨.reelStart, some l, (s.lane l).p, [i]⟩ s := by
  unfold journalReelStart
  dsimp only
  rw [hl, Option.bind_some, hr]
  exact if_pos hs

/-- REEL_START is the first entry of a boundary at the first frame of a reel (R16). -/
theorem presents_reelStart {l : LaneId} {s u : State} {sh : Show} {i : Nat} {r : Reel} {y : Lane}
    (hst : (s.lane l).state = .playing) (hl : (s.lane l).loaded = some sh) (hr : reelOf sh (s.lane l).p = some (i, r))
    (hfirst : r.start = (s.lane l).p) (hs : shapeOk s) (hroom : ringRoom 1 s) (hopen : (s.lane l).tally.phase ≠ .closing)
    (hcue : ∀ tb, cueTableOf (s.lane l) = some tb → ∀ a, tb ≤ a → a < tb + 512 → outside (eventAreas s l) a)
    (hb : Bounded l s y (presentFrame l sh (entered l s)) u) :
    journaled 0 ⟨.reelStart, some l, (s.lane l).p, [i]⟩ s u := by
  have hp : ((entered l s).lane l).p = (s.lane l).p := by rw [entered_lane_self, enteredLane_p]
  have hready : ∀ tb, cueTableOf ((routed l sh (entered l s)).lane l) = some tb →
      CueReady l tb (routed l sh (entered l s)) := fun tb htb => by
    obtain ⟨-, -, hloaded⟩ := routed_scanner sh (s.lane l)
    have htb' : cueTableOf (s.lane l) = some tb := by
      rw [← htb]
      unfold cueTableOf
      rw [routed_lane_self, entered_lane_self, hloaded]
    exact (routed_cueReady ⟨htb', hs, hcue tb htb'⟩).1
  have hring := (presentFrame_ring ((entered_state l s).trans hst) hready).trans hb.ring
  rw [journalReelStart_first (by rw [entered_lane_self, enteredLane_loaded, hl]) (by rw [hp, hr]) (hfirst.trans hp.symm),
    hp] at hring
  exact journaled_of_offer (entered_asOffered hopen) hring (by decide) hs hroom

/-! ## The wanted records of the reel before (R133) -/

theorem dropWanted_get (t : Subtitle) (reel : Nat) (x : Lane) :
    (dropWanted t reel x).subWanted = x.subWanted.set t (wantedAfter reel (x.subWanted.get t)) := by
  have hkeep : x.subWanted.set t (x.subWanted.get t) = x.subWanted := by cases t <;> rfl
  unfold dropWanted wantedAfter
  cases hw : x.subWanted.get t with
  | none =>
    rw [hw] at hkeep
    exact hkeep.symm
  | some w =>
    rw [hw] at hkeep
    by_cases h : w.reel = reel
    · simp [Option.filter, h]
    · simpa [Option.filter, h] using hkeep.symm

theorem succession_wanted (i : Nat) (x : Lane) :
    (succession i x).subWanted =
      ⟨wantedAfter (servedReel x) x.subWanted.one, wantedAfter (servedReel x) x.subWanted.two⟩ := by
  have hask (reel : Nat) (y : Lane) (pl : Place) : (askStore reel y pl).subWanted = y.subWanted := by
    obtain ⟨o, j, h⟩ := askStore_lane reel y pl
    rw [h]
  unfold succession
  dsimp only [List.foldl_cons, List.foldl_nil]
  rw [pendPalettes]
  show (askStore (i + 1) (askStore (i + 1) _ .next1) .next2).subWanted = _
  rw [hask, hask]
  show (dropWanted .two (servedReel x) (dropWanted .one (servedReel x) x)).subWanted = _
  rw [dropWanted_get, dropWanted_get]
  rfl

/-- A store that the reel after cannot have sets SUBTITLE_LOST (R127). -/
theorem askStore_lost {reel : Nat} {x : Lane} {pl : Place} (h : (askedStore x.loaded reel (placeTrack pl)).state = .lost) :
    (askStore reel x pl).indicators.held &&& indicatorBit .subtitleLost ≠ 0 := by
  rw [askStore_eq, decide_eq_true h]
  exact setIndicator_held .subtitleLost _

theorem succession_lost {i : Nat} {x : Lane}
    (h : (askedStore x.loaded (i + 1) .one).state = .lost ∨ (askedStore x.loaded (i + 1) .two).state = .lost) :
    (succession i x).indicators.held &&& indicatorBit .subtitleLost ≠ 0 := by
  have hload : (dropWanted .two (servedReel x) (dropWanted .one (servedReel x) x)).loaded = x.loaded := by simp
  unfold succession
  dsimp only [List.foldl_cons, List.foldl_nil]
  rcases h with h | h
  · exact ((lit_askStore (i + 1) _ .next2).trans (.of_eq rfl)).bit (askStore_lost (pl := .next1) (by rw [← h, hload]; rfl))
  · exact Lit.bit (.of_eq rfl) (askStore_lost (pl := .next2) (by rw [askStore_loaded, ← h]; exact congrArg (fun q => (askedStore q (i + 1) .two).state) hload))

theorem storesAtReelStart_succession {x : Lane} {sh : Show} {i : Nat} {r : Reel} (hl : x.loaded = some sh)
    (hr : reelOf sh x.p = some (i, r)) (hf : r.start = x.p) (hi : 2 ≤ i ∧ servedReel x + 1 = i) :
    storesAtReelStart x = succession i x := by
  unfold storesAtReelStart
  rw [hl, Option.bind_some, hr]
  dsimp only
  rw [if_neg (not_not.2 hf), if_pos hi]

theorem storesAtReelStart_wanted {x : Lane} {sh : Show} {i : Nat} {r : Reel} (hl : x.loaded = some sh)
    (hr : reelOf sh x.p = some (i, r)) (hn : ¬ (r.start = x.p ∧ 2 ≤ i ∧ servedReel x + 1 = i)) :
    (storesAtReelStart x).subWanted = x.subWanted := by
  unfold storesAtReelStart
  rw [hl, Option.bind_some, hr]
  dsimp only
  by_cases hf : r.start = x.p
  · rw [if_neg (not_not.2 hf), if_neg fun h => hn ⟨hf, h⟩]
    rfl
  · rw [if_pos hf]

/-! ## What a presenting boundary leaves of the overlay -/

theorem enteredLane_wanted (x : Lane) : (enteredLane x).subWanted = x.subWanted := by
  obtain ⟨t, a, n, i, h, -⟩ := enteredLane_eq x
  rw [h]

theorem aheadLane_wanted (sh : Show) (x : Lane) : (aheadLane sh x).subWanted = (storesAtReelStart x).subWanted := by
  obtain ⟨i, ha⟩ := aheadLane_eq sh x
  obtain ⟨a, j, hs⟩ := selectActive_eq sh (storesAtReelStart x)
  rw [ha]
  show (markedLane sh x).subWanted = _
  rw [markedLane, hs]

/-- The record leaves the overlay but for its palettes due and its tile map. -/
theorem recordedLane_overlay (sh : Show) (x : Lane) :
    (∀ pl, getStore (recordedLane sh x).overlay pl = getStore (storesAtReelStart x).overlay pl) ∧
      (recordedLane sh x).overlay.active = (aheadLane sh x).overlay.active ∧
      (recordedLane sh x).subWanted = (storesAtReelStart x).subWanted := by
  obtain ⟨t, k, i, hl, -⟩ := linkedLane_eq (presentPicture (markedLane sh x)) (presentTiles sh (aheadLane sh x))
    (presentMap sh (aheadLane sh x)) (aheadLane sh x)
  obtain ⟨a, ha⟩ := aheadLane_overlay sh x
  have hsent (m : List Nat) : (∀ pl, getStore (sentOverlay m (aheadLane sh x)) pl = getStore (aheadLane sh x).overlay pl) ∧
      (sentOverlay m (aheadLane sh x)).active = (aheadLane sh x).overlay.active := by
    unfold sentOverlay
    split
    · exact ⟨fun pl => by cases pl <;> rfl, rfl⟩
    · exact ⟨fun _ => rfl, rfl⟩
  obtain ⟨hstores, hactive⟩ := hsent (presentMap sh (aheadLane sh x))
  rw [recordedLane, hl]
  refine ⟨fun pl => (hstores pl).trans ?_, hactive, aheadLane_wanted sh x⟩
  rw [ha]
  cases pl <;> rfl

/-! ## The active cues (R134) -/

theorem insertCue_length (f : Cue → Cue → Bool) (c : Cue) (cs : List Cue) : (insertCue f c cs).length = cs.length + 1 := by
  induction cs with
  | nil => rfl
  | cons d cs ih =>
    unfold insertCue
    split
    · rfl
    · rw [List.length_cons, ih, List.length_cons]

theorem sortCues_length (f : Cue → Cue → Bool) (cs : List Cue) : (sortCues f cs).length = cs.length := by
  unfold sortCues
  induction cs with
  | nil => rfl
  | cons c cs ih => rw [List.foldr_cons, insertCue_length, ih, List.length_cons]

theorem cueVisible_eq (r : Reel) (f a b : Nat) :
    cueVisible r a b f =
      (decide (r.entry ≤ f) && decide (f < r.entry + r.duration) && decide (a ≤ f) && decide (f < b)) := by
  rw [cueVisible, Bool.eq_iff_iff]
  simp only [Bool.and_eq_true, decide_eq_true_eq]
  omega

theorem visibleCues_length (st : Store) (r : Reel) (f : Nat) : (visibleCues st r f).length = visibleCount st r f := by
  unfold visibleCues visibleCount
  cases hs : st.state with
  | decoded =>
    rw [if_pos rfl, List.countP_eq_length_filter]
    simp only [cueVisible_eq]
  | none => rfl
  | fetching => rfl
  | lost => rfl

theorem activeCues_length (st : Store) (r : Reel) (f : Nat) : (activeCues st r f).length = min 4 (visibleCount st r f) := by
  rw [activeCues, List.length_take, sortCues_length, visibleCues_length]

theorem overlaySaturated_iff (st : Store) (r : Reel) (f : Nat) : overlaySaturated st r f = true ↔ 4 < visibleCount st r f := by
  rw [overlaySaturated, visibleCues_length, decide_eq_true_eq]

theorem selectActive_in {sh : Show} {x : Lane} {i : Nat} {r : Reel} (hr : reelOf sh x.p = some (i, r)) :
    (selectActive sh x).overlay.active =
        ⟨min 4 (visibleCount x.overlay.current1 r (trackFrame r x.p)),
          min 4 (visibleCount x.overlay.current2 r (trackFrame r x.p))⟩ ∧
      (4 < visibleCount x.overlay.current1 r (trackFrame r x.p) ∨ 4 < visibleCount x.overlay.current2 r (trackFrame r x.p) →
        (selectActive sh x).indicators.held &&& indicatorBit .overlaySaturated ≠ 0 ∧
          (selectActive sh x).indicators.period &&& indicatorBit .overlaySaturated ≠ 0) := by
  have hbit (m : BitVec 10) : (m ||| indicatorBit .overlaySaturated) &&& indicatorBit .overlaySaturated ≠ 0 :=
    setIndicator_held .overlaySaturated { x with indicators := { x.indicators with held := m } }
  unfold selectActive
  rw [hr]
  dsimp only
  refine ⟨?_, fun h => ?_⟩
  · rw [setIndicatorIf_overlay, activeCues_length, activeCues_length]
  · have hsat : (overlaySaturated x.overlay.current1 r (trackFrame r x.p) ||
        overlaySaturated x.overlay.current2 r (trackFrame r x.p)) = true := by
      rw [Bool.or_eq_true, overlaySaturated_iff, overlaySaturated_iff]
      exact h
    rw [hsat]
    exact ⟨hbit _, hbit _⟩

end Sys2Proof.Machine
end

section
/-! A presenting boundary shows P (R15 to R17, R65 to R69, R115 to R117, R133, R134, R157). -/

namespace Sys2Proof.Machine

/-! ## The stores and the active cues that the boundary leaves -/

/-- The stores, the palettes and the active cues of the lane at its presenting boundary. -/
theorem recordedLane_moved {sh : Show} {x : Lane} {i : Nat} {r : Reel} (hst : x.state = .playing) (hl : x.loaded = some sh)
    (hr : reelOf sh x.p = some (i, r)) :
    (storesAtReelStart (enteredLane x)).overlay = movedOverlay sh i r x.p (begunOverlay x) ∧
      (∀ t, (aheadLane sh (enteredLane x)).overlay.palettePending.get t =
        (x.overlay.palettePending.get t || decide (r.start = x.p))) := by
  have hp := enteredLane_p x
  have hmoved := storesAtReelStart_overlay ((enteredLane_loaded x).trans hl) (by rw [hp]; exact hr)
  rw [hp, enteredLane_overlay] at hmoved
  refine ⟨hmoved, fun t => ?_⟩
  obtain ⟨a, ha⟩ := aheadLane_overlay sh (enteredLane x)
  rw [ha]
  show (storesAtReelStart (enteredLane x)).overlay.palettePending.get t = _
  rw [hmoved, begunOverlay_playing hst, movedOverlay]
  by_cases hf : r.start = x.p
  · rw [if_pos hf, decide_eq_true hf, Bool.or_true]
    split <;> cases t <;> rfl
  · rw [if_neg hf, decide_eq_false hf, Bool.or_false]

/-- The stores move with P at the first frame of a reel (R133). -/
theorem presents_stores {sh : Show} {x y : Lane} {i : Nat} {r : Reel} (hst : x.state = .playing)
    (hl : x.loaded = some sh) (hr : reelOf sh x.p = some (i, r))
    (ho : y.overlay = (recordedLane sh (enteredLane x)).overlay)
    (hw : y.subWanted = (recordedLane sh (enteredLane x)).subWanted)
    (hlit : ∀ b, (storesAtReelStart (enteredLane x)).indicators.held &&& b ≠ 0 → y.indicators.held &&& b ≠ 0) :
    storesMoved sh i (r.start = x.p) x y := by
  have hp := enteredLane_p x
  obtain ⟨hmoved, -⟩ := recordedLane_moved hst hl hr
  obtain ⟨hstores, -, hwanted⟩ := recordedLane_overlay sh (enteredLane x)
  have hload : (enteredLane x).loaded = some sh := (enteredLane_loaded x).trans hl
  have hreel : reelOf sh (enteredLane x).p = some (i, r) := by rw [hp]; exact hr
  have hbegun := begunOverlay_playing hst
  have hserved : servedReel (enteredLane x) = x.overlay.current1.reel := by
    rw [servedReel, enteredLane_overlay, hbegun]
    rfl
  have hplace (pl : Place) : getStore y.overlay pl = getStore (movedOverlay sh i r x.p (begunOverlay x)) pl := by
    rw [ho, hstores, hmoved]
  rw [hwanted] at hw
  refine ⟨fun ⟨hf, hi, hs⟩ => ?_, fun hn => ?_⟩
  · have hmv : movedOverlay sh i r x.p (begunOverlay x) = _ :=
      (if_pos hf).trans (if_pos ⟨hi, by rw [hbegun]; exact hs⟩)
    have hsucc := storesAtReelStart_succession hload hreel (hf.trans hp.symm) ⟨hi, by rw [hserved, hs]⟩
    rw [hmv, hbegun] at hplace
    have h1 : y.overlay.next1 = freshStore sh (i + 1) .one := hplace .next1
    have h2 : y.overlay.next2 = freshStore sh (i + 1) .two := hplace .next2
    refine ⟨hplace .current1, hplace .current2, h1, h2, ?_, fun hlost => hlit _ ?_⟩
    · rw [hw, hsucc, succession_wanted, hserved, enteredLane_wanted]
    · rw [h1, h2] at hlost
      rw [hsucc]
      refine succession_lost ?_
      rw [hload]
      exact hlost
  · refine ⟨fun pl => ?_, ?_⟩
    · rw [hplace, movedOverlay, hbegun]
      by_cases hf : r.start = x.p
      · rw [if_pos hf, if_neg (by exact fun h => hn ⟨hf, h⟩)]
        cases pl <;> rfl
      · rw [if_neg hf]
        cases pl <;> rfl
    · rw [hw, storesAtReelStart_wanted hload hreel (by rw [hp, hserved]; exact hn), enteredLane_wanted]

theorem markedLane_period (sh : Show) (x : Lane) : Lit (markedLane sh x) (routedLane sh x) :=
  (Lit.setIndicatorIf _ _ _).trans (lit_routedAhead sh x)

/-- The active cues of P, and what they set where more than four of a track are visible (R134). -/
theorem presents_active {sh : Show} {x c : Lane} {i : Nat} {r : Reel} (hr : reelOf sh x.p = some (i, r))
    (h : Scanned (routedLane sh (enteredLane x)) c) :
    c.overlay.active =
        ⟨min 4 (visibleCount c.overlay.current1 r (trackFrame r x.p)),
          min 4 (visibleCount c.overlay.current2 r (trackFrame r x.p))⟩ ∧
      (4 < visibleCount c.overlay.current1 r (trackFrame r x.p) ∨ 4 < visibleCount c.overlay.current2 r (trackFrame r x.p) →
        c.indicators.held &&& indicatorBit .overlaySaturated ≠ 0 ∧
          c.indicators.period &&& indicatorBit .overlaySaturated ≠ 0) := by
  have hp : (storesAtReelStart (enteredLane x)).p = x.p := by
    obtain ⟨o, w, j, hx⟩ := storesAtReelStart_eq (enteredLane x)
    rw [hx]
    exact enteredLane_p x
  obtain ⟨hstores, hactive, -⟩ := recordedLane_overlay sh (enteredLane x)
  have ho := (recorded_of_scanned h).1
  have h1 : c.overlay.current1 = (storesAtReelStart (enteredLane x)).overlay.current1 := by rw [ho]; exact hstores .current1
  have h2 : c.overlay.current2 = (storesAtReelStart (enteredLane x)).overlay.current2 := by rw [ho]; exact hstores .current2
  have hselected : c.overlay.active = (selectActive sh (storesAtReelStart (enteredLane x))).overlay.active := by
    obtain ⟨j, ha⟩ := aheadLane_eq sh (enteredLane x)
    rw [ho, hactive, ha]
    rfl
  obtain ⟨hin, hsat⟩ := selectActive_in (sh := sh) (x := storesAtReelStart (enteredLane x)) (i := i) (r := r) (by rw [hp]; exact hr)
  rw [hp] at hin hsat
  have hlit : Lit (markedLane sh (enteredLane x)) c := (markedLane_period sh (enteredLane x)).trans h.lit
  rw [h1, h2]
  refine ⟨hselected.trans hin, fun hmore => ?_⟩
  obtain ⟨hheld, hperiod⟩ := hsat hmore
  exact ⟨hlit.bit hheld, hlit.shows (y := c) hperiod⟩

/-- What the advance of P and the end of the period keep of the boundary's indicators. -/
theorem advanced_indicators {l : LaneId} {s w u : State} {sh : Show} {c : Lane} {real : Bool}
    (hb : Bounded l s (advancedLane sh (advanceLane sh real c)) w u) {b : BitVec 10} :
    (c.indicators.held &&& b ≠ 0 → (u.lane l).indicators.held &&& b ≠ 0) ∧
      (c.indicators.period &&& b ≠ 0 → (u.lane l).indicators.current &&& b ≠ 0) := by
  have hkept := WorkKept.advanced sh real c
  obtain ⟨n, hn⟩ := hb.lane
  rw [hn]
  exact ⟨fun h => hkept.lit.bit h, fun h => hkept.lit.shows h⟩

/-- The sound that a presenting boundary routes stands at its end. -/
theorem advanced_period {l : LaneId} {s w u : State} {sh : Show} {c : Lane} {real : Bool}
    (hb : Bounded l s (advancedLane sh (advanceLane sh real c)) w u) : (u.lane l).sound.period = c.sound.period := by
  obtain ⟨n, hn⟩ := hb.lane
  rw [hn]
  exact (WorkKept.advanced sh real c).period

/-- Settles O45. -/
theorem presentingBoundaryShowsP : Obligations.PresentingBoundaryShowsP := by
  unfold Obligations.PresentingBoundaryShowsP
  refine ⟨fun l s sh hc hst hl hd hf hn hrun hgood hreal => ?_, fun l s sh hc hp hl => ?_,
    fun l s sh i r hc hp hl hr => ?_⟩
  · have hopen := not_closing_of_running hrun
    obtain ⟨u, c, n, hu, hn', hscan, hlic, hkept⟩ := presents_on hc ⟨hst, hd, hf⟩ hl hn hopen hgood hreal
    have hlink : (u.lane l).link = (recordedLane sh (enteredLane (s.lane l))).link := by
      rw [hn', ← (recorded_of_scanned hscan).2.1]
      rfl
    have hqueue (e : Essence) : ((u.lane l).tracks.get e).queue =
        if (headFor (s.lane l) e (s.lane l).p).isSome then ((s.lane l).tracks.get e).queue.drop 1
        else ((s.lane l).tracks.get e).queue := by
      rw [hn']
      exact scanned_queue hscan (realUnits (s.lane l) (s.lane l).p).isSome e
    have hconceal : realUnits (s.lane l) (s.lane l).p = none →
        c.indicators.held &&& indicatorBit .concealed ≠ 0 ∧ c.indicators.period &&& indicatorBit .concealed ≠ 0 :=
      conceals hscan
    have hgrace : (advanceLane sh (realUnits (s.lane l) (s.lane l).p).isSome c).linkGrace =
        if linkGood c then 0 else c.linkGrace + 1 := rfl
    obtain ⟨t, k, o, w, i, p, b, m, hx, ht, hkeep⟩ := scanned_outline hscan
    rw [hkeep] at hgrace
    refine ⟨u, hu, ?_, ?_, ?_, ?_, ?_, ?_, hlic, ?_, hqueue, fun us hus => ?_, fun hnone => ?_, fun hk => ?_, ?_, hkept⟩
    · rw [hn', hx]
      exact hst
    · rw [hn', hx]
      rfl
    · rw [hn', hx]
      exact hl
    · rw [hn', hx]
      rfl
    · rw [hn', hx]
      rfl
    · rw [hn', hx]
      exact ht hopen
    · rw [hn']
      exact hgrace.trans (by rw [hx])
    · rw [hn', hus, hx]
      exact ⟨rfl, rfl⟩
    · obtain ⟨hheld, hperiod⟩ := hconceal hnone
      have hind : (u.lane l).indicators.held = c.indicators.held ∧ (u.lane l).indicators.current = c.indicators.period := by
        rw [hn']
        exact ⟨rfl, rfl⟩
      refine ⟨?_, ?_, by rw [hind.1]; exact hheld, by rw [hind.2]; exact hperiod⟩
      · rw [hn', hnone, hx]
        rfl
      · rw [hn', hnone, hx]
        rfl
    · rw [hlink]
      exact recordedLane_locked hk hrun
    · rw [hn', hx]
      exact ⟨rfl, rfl, rfl, rfl⟩
  · obtain ⟨u, c, hu, hb, hscan, hcl⟩ := presents_bounded hc hp hl
    obtain ⟨hperiod, hgap⟩ := scanned_sound hscan
    refine ⟨u, hu, (advanced_period hb).trans hperiod, fun hg => ?_, fun hcue => presents_uncued hcue hb hcl,
      fun tb hcue hs hbeside => ?_⟩
    · obtain ⟨hheld, hper⟩ := hgap hg
      exact ⟨(advanced_indicators hb).1 hheld, (advanced_indicators hb).2 hper⟩
    · obtain ⟨hunread, hread⟩ := presents_cues hp.1 ⟨hcue, hs, hbeside⟩ hb hcl
      refine ⟨hunread, fun ws hws => ?_⟩
      obtain ⟨herror, hcont, hentries⟩ := hread ws hws
      refine ⟨herror, hcont, fun i hi w m hw hm => ?_⟩
      obtain ⟨hmark, hmissed, hwritten, hpending, hleft⟩ := hentries i hi w m hw hm
      exact ⟨hmark, hmissed, fun hdue => ⟨hwritten hdue, hpending hdue⟩, hleft⟩
  · obtain ⟨u, c, hu, hb, hscan, -⟩ := presents_bounded hc hp hl
    obtain ⟨ho, hfwd, hw⟩ := presents_sent hb hscan
    obtain ⟨-, hpal⟩ := recordedLane_moved hp.1 hl hr
    obtain ⟨hactive, hsat⟩ := presents_active hr hscan
    have hoc : (u.lane l).overlay = c.overlay := ho.trans (recorded_of_scanned hscan).1.symm
    refine ⟨u, hu, fun hf hs hroom hopen hcue => presents_reelStart hp.1 hl hr hf hs hroom hopen hcue hb,
      presents_stores hp.1 hl hr ho hw fun b hbit => ?_,
      palettesHandled_of_linked (aheadLane_link sh (s.lane l)).1 hpal ho hfwd, ?_, fun hmore => ?_⟩
    · have hlit : Lit (storesAtReelStart (enteredLane (s.lane l))) c :=
        ((lit_selectActive sh _).trans (markedLane_period sh _)).trans hscan.lit
      exact (advanced_indicators hb).1 (hlit.bit hbit)
    · rw [hoc]
      exact hactive
    · rw [hoc] at hmore
      obtain ⟨hheld, hper⟩ := hsat hmore
      exact ⟨(advanced_indicators hb).1 hheld, (advanced_indicators hb).2 hper⟩

end Sys2Proof.Machine
end

section
/-! The grant of the fetch engine (R53 to R57, R60, R61, R70, R71). -/

namespace Sys2Proof.Machine

/-! ## Work of the fetch engine for a lane -/

/-- Work of the fetch engine for lane `l`: of the rest of the part it reports at most. -/
structure FetchWork (l : LaneId) (s t : State) : Prop extends ReportsOnly s t where
  lanes : lanesKept l s t
  licences : t.licences = s.licences
  inputs : t.inputs = s.inputs
  registers : registersKept s t
  pending : t.pending = s.pending

namespace FetchWork

theorem refl (l : LaneId) (s : State) : FetchWork l s s := ⟨.refl s, fun _ _ => rfl, rfl, rfl, .refl s, rfl⟩

theorem trans {l : LaneId} {s t u : State} (h : FetchWork l s t) (k : FetchWork l t u) : FetchWork l s u :=
  ⟨h.toReportsOnly.trans k.toReportsOnly, fun m hm => (k.lanes m hm).trans (h.lanes m hm), k.licences.trans h.licences,
    k.inputs.trans h.inputs, h.registers.trans k.registers, k.pending.trans h.pending⟩

theorem modLane {l : LaneId} {f : Lane → Lane} {s : State} (h : laneShapeOk (s.lane l) → laneShapeOk (f (s.lane l))) :
    FetchWork l s (s.modLane l f) :=
  ⟨.modLane h, fun _ hm => State.lane_modLane_ne _ _ hm, rfl, rfl, .refl s, rfl⟩

theorem engine (l : LaneId) (e : Engine) (s : State) : FetchWork l s { s with engine := e } :=
  ⟨⟨id, rfl, fun _ => .refl _ s⟩, fun _ _ => rfl, rfl, rfl, .refl s, rfl⟩

theorem offerNoted (l : LaneId) (e : JournalEntry) (s : State) : FetchWork l s (offerNoted e s).1 := by
  have htold := offerNoted_told e s
  exact ⟨.of_told htold, fun m _ => htold.reported.lane m, htold.reported.licences, htold.reported.inputs,
    htold.reported.registersKept, htold.reported.pending⟩

theorem noted {l : LaneId} {s w : State} (h : FetchWork l s w) : FetchWork l s (noteChanges s w) := by
  refine h.trans ⟨⟨id, rfl, fun _ => memKept_of_host rfl⟩, fun m _ => rfl, rfl, rfl, ⟨rfl, rfl, rfl, rfl, rfl, rfl, rfl, rfl, rfl, rfl⟩, rfl⟩

end FetchWork

/-! ## A result placed (R63) -/

/-- A result for a frame that is past is left out (R63). -/
theorem placeResult_past {x : Lane} {sh : Show} {e : Essence} {pos : Position} (body : EntryBody)
    (hl : x.loaded = some sh) (hp : positionFrame sh pos < x.p) : placeResult e pos body x = x := by
  unfold placeResult
  rw [hl]
  exact if_pos hp

theorem placeResult_placed {x : Lane} {sh : Show} {e : Essence} {pos : Position} (body : EntryBody)
    (hl : x.loaded = some sh) (hp : x.p ≤ positionFrame sh pos) :
    placeResult e pos body x =
      setIndicatorIf (isPoisoned body) .poisoned
        { x with
          tracks := x.tracks.set e
            { x.tracks.get e with queue := (x.tracks.get e).queue ++ [⟨pos, positionFrame sh pos, body⟩] } } := by
  unfold placeResult
  rw [hl]
  exact if_neg (Nat.not_lt.2 hp)

theorem advanceFetch_track (sh : Show) (e : Essence) (pos : Position) (x : Lane) :
    ((advanceFetch sh e pos x).tracks.get e).fetch = successor sh e pos ∧
      ((advanceFetch sh e pos x).tracks.get e).queue = (x.tracks.get e).queue := by
  unfold advanceFetch
  rw [PerEssence.get_set_self]
  exact ⟨rfl, rfl⟩

/-- A position poisoned at its grant (R54, R60). -/
theorem placePoisoned_lane {x : Lane} {sh : Show} (e : Essence) (pos : Position) (body : EntryBody)
    (hl : x.loaded = some sh) :
    ((placeResult e pos body (advanceFetch sh e pos x)).tracks.get e).fetch = successor sh e pos ∧
      (x.p ≤ positionFrame sh pos →
        ((placeResult e pos body (advanceFetch sh e pos x)).tracks.get e).queue =
          (x.tracks.get e).queue ++ [⟨pos, positionFrame sh pos, body⟩]) ∧
      (placeResult e pos body (advanceFetch sh e pos x)).state = x.state ∧
      (placeResult e pos body (advanceFetch sh e pos x)).p = x.p := by
  obtain ⟨hfetch, hqueue⟩ := advanceFetch_track sh e pos x
  have hl' : (advanceFetch sh e pos x).loaded = some sh := hl
  by_cases hp : positionFrame sh pos < x.p
  · rw [placeResult_past body hl' hp]
    exact ⟨hfetch, fun h => absurd hp (Nat.not_lt.2 h), rfl, rfl⟩
  · obtain ⟨i, hi⟩ := setIndicatorIf_eq (isPoisoned body) .poisoned
      { advanceFetch sh e pos x with
        tracks := (advanceFetch sh e pos x).tracks.set e
          { (advanceFetch sh e pos x).tracks.get e with
            queue := ((advanceFetch sh e pos x).tracks.get e).queue ++ [⟨pos, positionFrame sh pos, body⟩] } }
    rw [placeResult_placed body hl' (Nat.not_lt.1 hp), hi]
    dsimp only
    rw [PerEssence.get_set_self]
    exact ⟨hfetch, fun _ => congrArg (· ++ _) hqueue, rfl, rfl⟩

/-! ## The grant, by what the chunk map entry holds -/

theorem readMapEntry_none {h : HostSide} {a i : Nat} (hr : hostRead h (a + 16 * i) 16 = none) :
    readMapEntry h a i = none := by
  unfold readMapEntry
  rw [hr]
  rfl

theorem readMapEntry_some {h : HostSide} {a i : Nat} {bs : List Byte} (hr : hostRead h (a + 16 * i) 16 = some bs) :
    readMapEntry h a i = some ⟨field bs 0 8, field bs 8 4, (bs.getD 12 0).getLsbD 0⟩ := by
  unfold readMapEntry
  rw [hr]
  rfl

/-- The state that a grant to lane `l` begins with (R53). -/
def searched (l : LaneId) (s : State) : State := { s with engine := { s.engine with searchFrom := nextLane l } }

theorem searched_work (l : LaneId) (s : State) : FetchWork l s (searched l s) := .engine l _ s

theorem engineGrant_eq {l : LaneId} {s : State} (hd : s.device = .running) (hf : s.engine.flight = none)
    (hg : grantLane s = some l) : engineGrant s = grantWork l (searched l s) := by
  have hidle : ¬ (s.device ≠ .running ∨ s.engine.flight.isSome = true) := by
    rw [hf]
    exact fun h => h.elim (fun h => h hd) fun h => nomatch h
  unfold engineGrant
  rw [if_neg hidle, hg]
  rfl

theorem essenceFetchable_searched (l m : LaneId) (e : Essence) (s : State) :
    essenceFetchable (searched l s) m e = essenceFetchable s m e := by
  unfold essenceFetchable waitReason
  rw [searched, queueLoad_searchFrom]
  rfl

theorem essenceWork_searched (l m : LaneId) (s : State) : essenceWork (searched l s) m = essenceWork s m := by
  unfold essenceWork
  simp only [essenceFetchable_searched]
  rfl

theorem grantWork_essence {l : LaneId} {s : State} {e : Essence} (he : essenceWork s l = some e)
    (hs : subtitleWork s l = none ∨ essencePrimed (s.lane l) = false) : grantWork l s = grantEssence l e s := by
  unfold grantWork
  rw [he]
  rcases hs with hs | hs
  · rw [hs]
  · cases hsub : subtitleWork s l with
    | none => rfl
    | some pl =>
      dsimp only
      rw [hs]
      exact if_neg Bool.false_ne_true

theorem grantWork_subtitle {l : LaneId} {s : State} {pl : Place} (hs : subtitleWork s l = some pl)
    (he : essenceWork s l = none ∨ essencePrimed (s.lane l) = true) : grantWork l s = grantSubtitle l pl s := by
  unfold grantWork
  rw [hs]
  rcases he with he | he
  · rw [he]
  · cases hess : essenceWork s l with
    | none => rfl
    | some e =>
      dsimp only
      rw [he]
      exact if_pos rfl

section
variable {l : LaneId} {e : Essence} {s : State} {sh : Show} {pos : Position} {plan : TrackPlan}

theorem grantEssence_unread (hl : (s.lane l).loaded = some sh) (hf : ((s.lane l).tracks.get e).fetch = some pos)
    (hp : positionPlan sh e pos = some plan) (hr : readMapEntry s.host plan.chunkMap pos.frame = none) :
    grantEssence l e s = s.modLane l fun y => placeResult e pos (.poisoned .readError) (advanceFetch sh e pos y) := by
  unfold grantEssence
  dsimp only
  rw [hl, hf]
  dsimp only
  rw [hp]
  dsimp only
  rw [hr]

theorem grantEssence_read {m : MapEntry} (hl : (s.lane l).loaded = some sh)
    (hf : ((s.lane l).tracks.get e).fetch = some pos) (hp : positionPlan sh e pos = some plan)
    (hr : readMapEntry s.host plan.chunkMap pos.frame = some m) :
    grantEssence l e s =
      if !m.resident then essenceWait l e pos s
      else if !essenceLengthOk e plan (lanePeriod (s.lane l)) m.length then
        s.modLane l fun y => placeResult e pos (.poisoned .malformed) (advanceFetch sh e pos y)
      else
        setFlight (some ⟨l, (s.lane l).generation, .essence e pos, m.address, m.length⟩)
          (s.modLane l (advanceFetch sh e pos)) := by
  unfold grantEssence
  dsimp only
  rw [hl, hf]
  dsimp only
  rw [hp]
  dsimp only
  rw [hr]

end

/-! ## The wait of an essence track (R56) -/

theorem namesPosition_iff {w : Option Wanted} {reel frame : Nat} :
    namesPosition w reel frame = true ↔ ∃ v, w = some v ∧ v.reel = reel ∧ v.frame = frame := by
  cases w with
  | none => simp [namesPosition]
  | some v => simp [namesPosition]

theorem modTrack_work (l : LaneId) (e : Essence) (f : EssenceTrack → EssenceTrack) (s : State) :
    FetchWork l s (modTrack l e f s) := .modLane id

theorem essenceWait_work (l : LaneId) (e : Essence) (pos : Position) (s : State) : FetchWork l s (essenceWait l e pos s) := by
  have hwait := modTrack_work l e (fun t => { t with waiting := true }) s
  unfold essenceWait
  dsimp only
  split
  · exact hwait
  · exact (hwait.trans (.offerNoted l _ _)).trans (modTrack_work l e _ _)

/-- A track that waits for its chunk to become resident: its wanted record names the position (R56, R57). -/
theorem essenceWait_lane (l : LaneId) (e : Essence) (pos : Position) (s : State) :
    ∃ w, (essenceWait l e pos s).lane l =
        { s.lane l with
          tracks := (s.lane l).tracks.set e { (s.lane l).tracks.get e with waiting := true, wanted := some w } } ∧
      w.reel = pos.reel ∧ w.frame = pos.frame := by
  have hset (q : PerEssence EssenceTrack) (t t' : EssenceTrack) : (q.set e t).set e t' = q.set e t' := by
    cases e <;> rfl
  have hwait : (modTrack l e (fun t => { t with waiting := true }) s).lane l =
      { s.lane l with tracks := (s.lane l).tracks.set e { (s.lane l).tracks.get e with waiting := true } } :=
    State.lane_modLane_self _ _ _
  unfold essenceWait
  dsimp only
  split
  · next h =>
    rw [alreadyAnnounced, Bool.and_eq_true, namesPosition_iff] at h
    obtain ⟨⟨w, hw, hreel, hframe⟩, -⟩ := h
    exact ⟨w, by rw [hwait, ← hw], hreel, hframe⟩
  · have htold := (offerNoted_told (wantedEntry l (s.lane l).p (essenceKind e) pos.reel pos.frame)
      (modTrack l e (fun t => { t with waiting := true }) s)).reported.lane l
    generalize offerNoted (wantedEntry l (s.lane l).p (essenceKind e) pos.reel pos.frame)
      (modTrack l e (fun t => { t with waiting := true }) s) = r at htold ⊢
    refine ⟨⟨pos.reel, pos.frame, r.2⟩, ?_, rfl, rfl⟩
    rw [modTrack, State.lane_modLane_self, htold, hwait]
    dsimp only
    rw [hset, PerEssence.get_set_self]

/-! ## A grant to an essence track (R54 to R57, R60) -/

/-- A grant changes the granted lane's fetching alone. -/
structure Fetched (x y : Lane) : Prop where
  state : y.state = x.state
  p : y.p = x.p

/-- What a grant to an essence track leaves, by the chunk map entry (R54 to R57, R60). -/
structure EssenceGranted (l : LaneId) (e : Essence) (sh : Show) (pos : Position) (plan : TrackPlan) (s t : State) :
    Prop where
  work : FetchWork l s t
  fetched : Fetched (s.lane l) (t.lane l)
  search : t.engine.searchFrom = s.engine.searchFrom
  unread : hostRead s.host (plan.chunkMap + 16 * pos.frame) 16 = none → t.engine.flight = none ∧
    ((t.lane l).tracks.get e).fetch = successor sh e pos ∧
    ((s.lane l).p ≤ positionFrame sh pos →
      ((t.lane l).tracks.get e).queue =
        ((s.lane l).tracks.get e).queue ++ [⟨pos, positionFrame sh pos, .poisoned .readError⟩])
  absent : ∀ bs, hostRead s.host (plan.chunkMap + 16 * pos.frame) 16 = some bs → (bs.getD 12 0).getLsbD 0 = false →
    t.engine.flight = none ∧ ((t.lane l).tracks.get e).waiting = true ∧
      ((t.lane l).tracks.get e).queue = ((s.lane l).tracks.get e).queue ∧
      ((t.lane l).tracks.get e).fetch = some pos ∧
      ∃ w, ((t.lane l).tracks.get e).wanted = some w ∧ w.reel = pos.reel ∧ w.frame = pos.frame
  malformed : ∀ bs, hostRead s.host (plan.chunkMap + 16 * pos.frame) 16 = some bs → (bs.getD 12 0).getLsbD 0 = true →
    essenceLengthOk e plan (lanePeriod (s.lane l)) (field bs 8 4) = false →
    t.engine.flight = none ∧ ((t.lane l).tracks.get e).fetch = successor sh e pos ∧
      ((s.lane l).p ≤ positionFrame sh pos →
        ((t.lane l).tracks.get e).queue =
          ((s.lane l).tracks.get e).queue ++ [⟨pos, positionFrame sh pos, .poisoned .malformed⟩])
  flies : ∀ bs, hostRead s.host (plan.chunkMap + 16 * pos.frame) 16 = some bs → (bs.getD 12 0).getLsbD 0 = true →
    essenceLengthOk e plan (lanePeriod (s.lane l)) (field bs 8 4) = true →
    t.engine.flight = some ⟨l, (s.lane l).generation, .essence e pos, field bs 0 8, field bs 8 4⟩ ∧
      ((t.lane l).tracks.get e).fetch = successor sh e pos ∧
      ((t.lane l).tracks.get e).queue = ((s.lane l).tracks.get e).queue

theorem essenceWait_engine (l : LaneId) (e : Essence) (pos : Position) (s : State) :
    (essenceWait l e pos s).engine = s.engine := by
  unfold essenceWait
  dsimp only
  split
  · rfl
  · exact (offerNoted_told _ _).reported.engine

theorem grantEssence_granted {l : LaneId} {e : Essence} {s : State} {sh : Show} {pos : Position} {plan : TrackPlan}
    (hi : s.engine.flight = none) (hl : (s.lane l).loaded = some sh)
    (hf : ((s.lane l).tracks.get e).fetch = some pos) (hp : positionPlan sh e pos = some plan) :
    EssenceGranted l e sh pos plan s (grantEssence l e s) := by
  have hplaced (body : EntryBody) : FetchWork l s (s.modLane l fun y => placeResult e pos body (advanceFetch sh e pos y)) :=
    .modLane fun h => (placeResult_core e pos body _).shape h
  cases hr : hostRead s.host (plan.chunkMap + 16 * pos.frame) 16 with
  | none =>
    obtain ⟨hfetch, hqueue, hst, hpp⟩ := placePoisoned_lane (x := s.lane l) e pos (.poisoned .readError) hl
    rw [grantEssence_unread hl hf hp (readMapEntry_none hr)]
    refine ⟨hplaced _, ⟨?_, ?_⟩, rfl, fun _ => ⟨hi, ?_⟩, fun bs h => ?_, fun bs h => ?_, fun bs h => ?_⟩
    case refine_4 | refine_5 | refine_6 => cases hr.symm.trans h
    all_goals rw [State.lane_modLane_self]
    · exact hst
    · exact hpp
    · exact ⟨hfetch, hqueue⟩
  | some bs =>
    rw [grantEssence_read hl hf hp (readMapEntry_some hr)]
    dsimp only
    cases hres : (bs.getD 12 0).getLsbD 0 with
    | false =>
      obtain ⟨w, hw, hreel, hframe⟩ := essenceWait_lane l e pos s
      have hlane : (essenceWait l e pos s).lane l = _ := hw
      rw [if_pos (by rfl)]
      refine ⟨essenceWait_work l e pos s, ⟨?_, ?_⟩, by rw [essenceWait_engine], fun h => ?_, fun bs' h _ => ?_,
        fun bs' h hb => ?_, fun bs' h hb => ?_⟩
      · rw [hlane]
      · rw [hlane]
      · cases hr.symm.trans h
      · rw [hlane, essenceWait_engine]
        dsimp only
        rw [PerEssence.get_set_self]
        exact ⟨hi, rfl, rfl, hf, w, rfl, hreel, hframe⟩
      all_goals
        cases hr.symm.trans h
        cases hres.symm.trans hb
    | true =>
      rw [if_neg (by decide)]
      cases hlen : essenceLengthOk e plan (lanePeriod (s.lane l)) (field bs 8 4) with
      | false =>
        obtain ⟨hfetch, hqueue, hst, hpp⟩ := placePoisoned_lane (x := s.lane l) e pos (.poisoned .malformed) hl
        rw [if_pos (by rfl)]
        refine ⟨hplaced _, ⟨?_, ?_⟩, rfl, fun h => ?_, fun bs' h hb => ?_, fun bs' h _ _ => ⟨hi, ?_⟩, fun bs' h _ hb => ?_⟩
        case refine_3 => cases hr.symm.trans h
        case refine_4 =>
          cases hr.symm.trans h
          cases hres.symm.trans hb
        case refine_6 =>
          cases hr.symm.trans h
          cases hlen.symm.trans hb
        all_goals rw [State.lane_modLane_self]
        · exact hst
        · exact hpp
        · exact ⟨hfetch, hqueue⟩
      | true =>
        have hflight : FetchWork l s (setFlight
            (some ⟨l, (s.lane l).generation, .essence e pos, field bs 0 8, field bs 8 4⟩)
            (s.modLane l (advanceFetch sh e pos))) :=
          .trans (.modLane id) (.engine l _ _)
        have hlane (f : Option Flight) : (setFlight f (s.modLane l (advanceFetch sh e pos))).lane l =
            advanceFetch sh e pos (s.lane l) := State.lane_modLane_self _ _ _
        rw [if_neg (by decide)]
        refine ⟨hflight, ⟨?_, ?_⟩, rfl, fun h => ?_, fun bs' h hb => ?_, fun bs' h _ hb => ?_, fun bs' h _ _ => ?_⟩
        · rw [hlane]; rfl
        · rw [hlane]; rfl
        · cases hr.symm.trans h
        · cases hr.symm.trans h
          cases hres.symm.trans hb
        · cases hr.symm.trans h
          cases hlen.symm.trans hb
        · cases hr.symm.trans h
          rw [hlane]
          exact ⟨rfl, advanceFetch_track sh e pos _⟩

end Sys2Proof.Machine
end

section
/-! The grant to subtitle work, and the grant of the fetch engine as a whole (R53 to R57, R60, R70, R71). -/

namespace Sys2Proof.Machine

/-! ## A store that is lost (R70, R128) -/

/-- The store that a loss leaves in its place. -/
def lostStore (loss : StoreLoss) (st : Store) : Store :=
  { st with
    state := .lost
    loss := loss
    palette := []
    cues := []
    received := []
    heldBytes := 0
    waiting := false }

theorem loseStore_overlay (pl : Place) (loss : StoreLoss) (x : Lane) :
    (loseStore pl loss x).overlay = setStore x.overlay pl (lostStore loss (getStore x.overlay pl)) := by
  unfold loseStore
  dsimp only
  exact dropWanted_overlay _ _ _

theorem loseStore_store (pl : Place) (loss : StoreLoss) (x : Lane) :
    getStore (loseStore pl loss x).overlay pl = lostStore loss (getStore x.overlay pl) := by
  rw [loseStore_overlay, getStore_setStore_self]

theorem loseStore_lost (pl : Place) (loss : StoreLoss) (x : Lane) : storeLost loss pl (loseStore pl loss x) := by
  have hstore := loseStore_store pl loss x
  refine ⟨?_, ?_, ?_, ?_, ?_⟩
  · rw [hstore]; rfl
  · rw [hstore]; rfl
  · rw [hstore]; rfl
  · rw [hstore]; rfl
  · unfold loseStore
    exact setIndicator_held .subtitleLost _

/-! ## The wait of a store (R71) -/

theorem subtitleWait_work (l : LaneId) (pl : Place) (s : State) : FetchWork l s (subtitleWait l pl s) := by
  have hwait : FetchWork l s (s.modLane l (putStore pl { getStore (s.lane l).overlay pl with waiting := true })) := .modLane id
  unfold subtitleWait
  dsimp only
  split
  · exact hwait
  · exact (hwait.trans (.offerNoted l _ _)).trans (.modLane id)

theorem subtitleWait_engine (l : LaneId) (pl : Place) (s : State) : (subtitleWait l pl s).engine = s.engine := by
  unfold subtitleWait
  dsimp only
  split
  · rfl
  · exact (offerNoted_told _ _).reported.engine

/-- What a store's wanted record is once it waits, unless it names the track's other store (R71). -/
theorem subtitleWait_lane (l : LaneId) (pl : Place) (s : State) :
    ∃ q, (subtitleWait l pl s).lane l =
        { s.lane l with
          overlay := setStore (s.lane l).overlay pl { getStore (s.lane l).overlay pl with waiting := true }
          subWanted := q } ∧
      (namesOther ((s.lane l).subWanted.get (placeTrack pl)) (getStore (s.lane l).overlay pl).reel = true →
        q = (s.lane l).subWanted) ∧
      (namesOther ((s.lane l).subWanted.get (placeTrack pl)) (getStore (s.lane l).overlay pl).reel = false →
        namesPosition (q.get (placeTrack pl)) (getStore (s.lane l).overlay pl).reel
          (getStore (s.lane l).overlay pl).fetchChunk = true) := by
  unfold subtitleWait
  dsimp only
  split
  · next h =>
    refine ⟨(s.lane l).subWanted, by rw [State.lane_modLane_self]; rfl, fun _ => rfl, fun hother => ?_⟩
    rw [hother, Bool.false_or, alreadyAnnounced, Bool.and_eq_true] at h
    exact h.1
  · next h =>
    rw [Bool.or_eq_true, not_or] at h
    have htold := (offerNoted_told
      (wantedEntry l (s.lane l).p (subtitleKind (placeTrack pl)) (getStore (s.lane l).overlay pl).reel
        (getStore (s.lane l).overlay pl).fetchChunk)
      (s.modLane l (putStore pl { getStore (s.lane l).overlay pl with waiting := true }))).reported.lane l
    generalize offerNoted
      (wantedEntry l (s.lane l).p (subtitleKind (placeTrack pl)) (getStore (s.lane l).overlay pl).reel
        (getStore (s.lane l).overlay pl).fetchChunk)
      (s.modLane l (putStore pl { getStore (s.lane l).overlay pl with waiting := true })) = r at htold ⊢
    refine ⟨(s.lane l).subWanted.set (placeTrack pl)
        (some ⟨(getStore (s.lane l).overlay pl).reel, (getStore (s.lane l).overlay pl).fetchChunk, r.2⟩), ?_,
      fun hother => absurd hother h.1, fun _ => ?_⟩
    · rw [State.lane_modLane_self, htold, State.lane_modLane_self]
      rfl
    · rw [PerSubtitle.get_set_self, namesPosition_iff]
      exact ⟨_, rfl, rfl, rfl⟩

/-! ## The grant to a store, by what the chunk map entry holds -/

theorem grantSubtitle_unread {l : LaneId} {pl : Place} {s : State} {plan : TrackPlan}
    (hp : storePlan (s.lane l) pl = some plan)
    (hr : readMapEntry s.host plan.chunkMap (getStore (s.lane l).overlay pl).fetchChunk = none) :
    grantSubtitle l pl s = s.modLane l (loseStore pl .chunk) := by
  unfold grantSubtitle
  dsimp only
  rw [hp]
  dsimp only
  rw [hr]

theorem grantSubtitle_read {l : LaneId} {pl : Place} {s : State} {plan : TrackPlan} {m : MapEntry}
    (hp : storePlan (s.lane l) pl = some plan)
    (hr : readMapEntry s.host plan.chunkMap (getStore (s.lane l).overlay pl).fetchChunk = some m) :
    grantSubtitle l pl s =
      if !m.resident then subtitleWait l pl s
      else if !subtitleLengthOk m.length then
        (s.modLane l fun y =>
          { y with
            subWanted := y.subWanted.set (placeTrack pl)
              (clearIfNamed (y.subWanted.get (placeTrack pl)) (getStore (s.lane l).overlay pl).reel
                (getStore (s.lane l).overlay pl).fetchChunk) }).modLane l (loseStore pl .chunk)
      else
        setFlight (some ⟨l, (s.lane l).generation,
            .subtitle (placeTrack pl) (getStore (s.lane l).overlay pl).reel (getStore (s.lane l).overlay pl).fetchChunk,
            m.address, m.length⟩)
          (s.modLane l fun y =>
            { y with
              subWanted := y.subWanted.set (placeTrack pl)
                (clearIfNamed (y.subWanted.get (placeTrack pl)) (getStore (s.lane l).overlay pl).reel
                  (getStore (s.lane l).overlay pl).fetchChunk) }) := by
  unfold grantSubtitle
  dsimp only
  rw [hp]
  dsimp only
  rw [hr]

theorem clearIfNamed_unnamed (w : Option Wanted) (reel frame : Nat) : namesPosition (clearIfNamed w reel frame) reel frame = false := by
  unfold clearIfNamed
  split
  · rfl
  · next h => exact Bool.eq_false_iff.2 h

theorem fields_of_besideStores {x y : Lane} (h : besideStores y = besideStores x) :
    y.state = x.state ∧ y.p = x.p ∧ y.tracks = x.tracks :=
  ⟨(congrArg Lane.state h :), (congrArg Lane.p h :), (congrArg Lane.tracks h :)⟩

theorem subtitleLengthOk_iff (n : Nat) : subtitleLengthOk n = true ↔ 17 ≤ n ∧ n ≤ 4194304 := by
  rw [subtitleLengthOk, Bool.and_eq_true, decide_eq_true_eq, decide_eq_true_eq]
  rfl

/-- What a grant to a store leaves, by the chunk map entry (R54, R60, R70, R71). -/
structure SubtitleGranted (l : LaneId) (pl : Place) (plan : TrackPlan) (s t : State) : Prop where
  work : FetchWork l s t
  beside : besideStores (t.lane l) = besideStores (s.lane l)
  search : t.engine.searchFrom = s.engine.searchFrom
  unread : hostRead s.host (plan.chunkMap + 16 * (getStore (s.lane l).overlay pl).fetchChunk) 16 = none →
    t.engine.flight = none ∧ storeLost .chunk pl (t.lane l)
  absent : ∀ bs, hostRead s.host (plan.chunkMap + 16 * (getStore (s.lane l).overlay pl).fetchChunk) 16 = some bs →
    (bs.getD 12 0).getLsbD 0 = false → t.engine.flight = none ∧
      getStore (t.lane l).overlay pl = { getStore (s.lane l).overlay pl with waiting := true } ∧
      (namesOther ((s.lane l).subWanted.get (placeTrack pl)) (getStore (s.lane l).overlay pl).reel = true →
        (t.lane l).subWanted = (s.lane l).subWanted) ∧
      (namesOther ((s.lane l).subWanted.get (placeTrack pl)) (getStore (s.lane l).overlay pl).reel = false →
        namesPosition ((t.lane l).subWanted.get (placeTrack pl)) (getStore (s.lane l).overlay pl).reel
          (getStore (s.lane l).overlay pl).fetchChunk = true)
  malformed : ∀ bs, hostRead s.host (plan.chunkMap + 16 * (getStore (s.lane l).overlay pl).fetchChunk) 16 = some bs →
    (bs.getD 12 0).getLsbD 0 = true → subtitleLengthOk (field bs 8 4) = false →
    t.engine.flight = none ∧ storeLost .chunk pl (t.lane l)
  flies : ∀ bs, hostRead s.host (plan.chunkMap + 16 * (getStore (s.lane l).overlay pl).fetchChunk) 16 = some bs →
    (bs.getD 12 0).getLsbD 0 = true → subtitleLengthOk (field bs 8 4) = true →
    t.engine.flight = some ⟨l, (s.lane l).generation,
        .subtitle (placeTrack pl) (getStore (s.lane l).overlay pl).reel (getStore (s.lane l).overlay pl).fetchChunk,
        field bs 0 8, field bs 8 4⟩ ∧
      (t.lane l).overlay = (s.lane l).overlay ∧
      namesPosition ((t.lane l).subWanted.get (placeTrack pl)) (getStore (s.lane l).overlay pl).reel
        (getStore (s.lane l).overlay pl).fetchChunk = false

theorem grantSubtitle_granted {l : LaneId} {pl : Place} {s : State} {plan : TrackPlan} (hi : s.engine.flight = none)
    (hp : storePlan (s.lane l) pl = some plan) : SubtitleGranted l pl plan s (grantSubtitle l pl s) := by
  have hlose (u : State) : FetchWork l u (u.modLane l (loseStore pl .chunk)) :=
    .modLane (loseStore_keeps pl .chunk _).shape
  cases hr : hostRead s.host (plan.chunkMap + 16 * (getStore (s.lane l).overlay pl).fetchChunk) 16 with
  | none =>
    rw [grantSubtitle_unread hp (readMapEntry_none hr)]
    refine ⟨hlose s, ?_, rfl, fun _ => ⟨hi, ?_⟩, fun bs h => ?_, fun bs h => ?_, fun bs h => ?_⟩
    · rw [State.lane_modLane_self, besideStores_loseStore]
    · rw [State.lane_modLane_self]
      exact loseStore_lost pl .chunk _
    all_goals cases hr.symm.trans h
  | some bs =>
    rw [grantSubtitle_read hp (readMapEntry_some hr)]
    dsimp only
    cases hres : (bs.getD 12 0).getLsbD 0 with
    | false =>
      obtain ⟨q, hq, hother, hnamed⟩ := subtitleWait_lane l pl s
      rw [if_pos (by rfl)]
      refine ⟨subtitleWait_work l pl s, by rw [hq]; rfl, by rw [subtitleWait_engine], fun h => ?_,
        fun bs' h _ => ⟨by rw [subtitleWait_engine, hi], ?_, ?_, ?_⟩, fun bs' h hb => ?_, fun bs' h hb => ?_⟩
      · cases hr.symm.trans h
      · rw [hq]
        exact getStore_setStore_self _ _ _
      · rw [hq]
        exact hother
      · rw [hq]
        exact hnamed
      all_goals
        cases hr.symm.trans h
        cases hres.symm.trans hb
    | true =>
      have hwanted (f : Lane → PerSubtitle (Option Wanted)) : FetchWork l s (s.modLane l fun y => { y with subWanted := f y }) :=
        .modLane id
      rw [if_neg (by decide)]
      cases hlen : subtitleLengthOk (field bs 8 4) with
      | false =>
        rw [if_pos (by rfl)]
        refine ⟨(hwanted _).trans (hlose _), ?_, rfl, fun h => ?_, fun bs' h hb => ?_, fun bs' h _ _ => ⟨hi, ?_⟩,
          fun bs' h _ hb => ?_⟩
        · rw [State.lane_modLane_self, besideStores_loseStore, State.lane_modLane_self]
          rfl
        · cases hr.symm.trans h
        · cases hr.symm.trans h
          cases hres.symm.trans hb
        · rw [State.lane_modLane_self]
          exact loseStore_lost pl .chunk _
        · cases hr.symm.trans h
          cases hlen.symm.trans hb
      | true =>
        rw [if_neg (by decide)]
        have hlane (f : Option Flight) (g : Lane → Lane) : (setFlight f (s.modLane l g)).lane l = g (s.lane l) :=
          State.lane_modLane_self _ _ _
        refine ⟨(hwanted _).trans (.engine l _ _), ?_, rfl, fun h => ?_, fun bs' h hb => ?_, fun bs' h _ hb => ?_,
          fun bs' h _ _ => ?_⟩
        · rw [hlane]
          rfl
        · cases hr.symm.trans h
        · cases hr.symm.trans h
          cases hres.symm.trans hb
        · cases hr.symm.trans h
          cases hlen.symm.trans hb
        · cases hr.symm.trans h
          rw [hlane]
          refine ⟨rfl, rfl, ?_⟩
          dsimp only
          rw [PerSubtitle.get_set_self]
          exact clearIfNamed_unnamed _ _ _

/-! ## The grant as a whole -/

theorem namesOther_eq (w : Option Wanted) (reel : Nat) : namesOther w reel = w.any fun v => decide (v.reel ≠ reel) := by
  unfold namesOther
  congr 1
  funext v
  exact (decide_not).symm

/-- Settles O55. -/
theorem grantStartsATransaction : Obligations.GrantStartsATransaction := by
  unfold Obligations.GrantStartsATransaction
  refine ⟨fun l e s sh pos plan hd hi hg he hsub hl hf hp => ?_, fun l pl s plan hd hi hg hsub hess hp => ?_⟩
  · have hwork : engineGrant s = grantEssence l e (searched l s) := by
      rw [engineGrant_eq hd hi hg]
      exact grantWork_essence ((essenceWork_searched l l s).trans he) hsub
    obtain ⟨hw, hfetched, hsearch, hunread, habsent, hmalformed, hflies⟩ :=
      grantEssence_granted (l := l) (s := searched l s) hi hl hf hp
    have hall := ((searched_work l s).trans hw).noted
    rw [← hwork] at hfetched hsearch hunread habsent hmalformed hflies hall
    exact ⟨noteChanges s (engineGrant s), rfl, hsearch, hunread,
      fun bs hbs => ⟨habsent bs hbs, hmalformed bs hbs, hflies bs hbs⟩, hall.lanes, hfetched.state, hfetched.p,
      hall.licences, hall.inputs, hall.registers, hall.pending, hall.mem⟩
  · have hwork : engineGrant s = grantSubtitle l pl (searched l s) := by
      rw [engineGrant_eq hd hi hg]
      exact grantWork_subtitle hsub (hess.imp_left (essenceWork_searched l l s).trans)
    obtain ⟨hw, hbeside, hsearch, hunread, habsent, hmalformed, hflies⟩ :=
      grantSubtitle_granted (l := l) (s := searched l s) hi hp
    have hall := ((searched_work l s).trans hw).noted
    rw [← hwork] at hbeside hsearch hunread habsent hmalformed hflies hall
    obtain ⟨hst, hpp, htracks⟩ := fields_of_besideStores hbeside
    refine ⟨noteChanges s (engineGrant s), rfl, hsearch, hunread,
      fun bs hbs => ⟨fun hres => ?_, fun hres hlen => ?_, fun hres hlo hhi => ?_⟩, hall.lanes, hst, hpp, htracks,
      hall.licences, hall.inputs, hall.registers, hall.pending, hall.mem⟩
    · obtain ⟨hflight, hstore, hother, hnamed⟩ := habsent bs hbs hres
      rw [namesOther_eq] at hother hnamed
      exact ⟨hflight, hstore, hother, hnamed⟩
    · refine hmalformed bs hbs hres (Bool.eq_false_iff.2 fun hok => ?_)
      have := (subtitleLengthOk_iff _).1 hok
      omega
    · exact hflies bs hbs hres ((subtitleLengthOk_iff _).2 ⟨hlo, hhi⟩)

end Sys2Proof.Machine
end

section
/-! The judgement of a container's cue records (R128 to R130). -/

namespace Sys2Proof.Machine

/-! ## Cue records, one after the other (R129) -/

/-- What the judgement of the records `rs` has found. -/
structure RecordsJudged (area : Nat) (rs : List CueRecord) (j : CueJudgement) : Prop where
  count : j.malformed + j.overCap + j.accepted.length = rs.length
  distinct : j.accepted.Pairwise fun c d => c.number ≠ d.number
  accepted : ∀ c ∈ j.accepted, c ∈ rs ∧ cueInRange area c = true

theorem RecordsJudged.snoc {area : Nat} {rs : List CueRecord} {j : CueJudgement} (h : RecordsJudged area rs j)
    (c : CueRecord) : RecordsJudged area (rs ++ [c]) (judgeRecord area j c) := by
  have hlen : (rs ++ [c]).length = rs.length + 1 := List.length_append
  have hold : ∀ d ∈ j.accepted, d ∈ rs ++ [c] ∧ cueInRange area d = true := fun d hd =>
    ⟨List.mem_append_left _ (h.accepted d hd).1, (h.accepted d hd).2⟩
  have hcount := h.count
  have hmalformed : RecordsJudged area (rs ++ [c]) { j with malformed := j.malformed + 1 } :=
    ⟨by rw [hlen]; dsimp only; omega, h.distinct, hold⟩
  unfold judgeRecord
  split
  · exact hmalformed
  · next hr =>
    split
    · exact hmalformed
    · split
      · exact hmalformed
      · next hn =>
        split
        · exact ⟨by rw [hlen]; dsimp only; omega, h.distinct, hold⟩
        · refine ⟨?_, ?_, fun d hd => ?_⟩
          · rw [hlen]
            dsimp only
            rw [List.length_append, List.length_singleton]
            omega
          · refine List.pairwise_append.2 ⟨h.distinct, List.pairwise_singleton _ _, fun d hd e he heq => hn ?_⟩
            rw [List.mem_singleton.1 he] at heq
            exact List.any_eq_true.2 ⟨d, hd, decide_eq_true heq⟩
          · rcases List.mem_append.1 hd with hd | hd
            · exact hold d hd
            · rw [List.mem_singleton.1 hd]
              exact ⟨List.mem_append_right _ List.mem_cons_self, by simpa using hr⟩

theorem judgeRecords_judged (bs : List Byte) :
    RecordsJudged (containerLength bs - bitmapStart bs) ((List.range (containerCues bs)).map (cueRecord bs))
      (judgeRecords bs) := by
  unfold judgeRecords
  generalize (List.range (containerCues bs)).map (cueRecord bs) = rs
  induction rs using List.reverseRecOn with
  | nil => exact ⟨rfl, List.Pairwise.nil, fun c hc => nomatch hc⟩
  | append_singleton rs c ih =>
    rw [List.foldl_append]
    exact ih.snoc c

/-! ## The cues in order of number, within the free bitmap memory (R130) -/

theorem mem_insertCue {f : Cue → Cue → Bool} {c d : Cue} {cs : List Cue} : d ∈ insertCue f c cs ↔ d = c ∨ d ∈ cs := by
  induction cs with
  | nil => simp [insertCue]
  | cons e cs ih =>
    unfold insertCue
    split
    · exact List.mem_cons
    · rw [List.mem_cons, ih, List.mem_cons]
      tauto

theorem mem_sortCues {f : Cue → Cue → Bool} {d : Cue} {cs : List Cue} : d ∈ sortCues f cs ↔ d ∈ cs := by
  unfold sortCues
  induction cs with
  | nil => exact Iff.rfl
  | cons c cs ih => rw [List.foldr_cons, mem_insertCue, ih, List.mem_cons]

theorem insertCue_sorted {c : Cue} {cs : List Cue} (hs : cs.Pairwise fun a b => a.number < b.number)
    (hn : ∀ d ∈ cs, d.number ≠ c.number) :
    (insertCue (fun a b => decide (a.number < b.number)) c cs).Pairwise fun a b => a.number < b.number := by
  induction cs with
  | nil => exact List.pairwise_singleton _ _
  | cons e cs ih =>
    obtain ⟨he, hcs⟩ := List.pairwise_cons.1 hs
    have hne := hn e List.mem_cons_self
    unfold insertCue
    split
    · next hlt =>
      have hlt' : c.number < e.number := of_decide_eq_true hlt
      refine List.pairwise_cons.2 ⟨fun d hd => ?_, hs⟩
      rcases List.mem_cons.1 hd with rfl | hd
      · exact hlt'
      · exact hlt'.trans (he d hd)
    · next hge =>
      have hge' : ¬ c.number < e.number := fun hh => hge (decide_eq_true hh)
      refine List.pairwise_cons.2 ⟨fun d hd => ?_, ih hcs fun d hd => hn d (List.mem_cons_of_mem _ hd)⟩
      rcases mem_insertCue.1 hd with rfl | hd
      · omega
      · exact he d hd

theorem cuesByNumber_sorted {cs : List Cue} (h : cs.Pairwise fun a b => a.number ≠ b.number) :
    (cuesByNumber cs).Pairwise fun a b => a.number < b.number := by
  unfold cuesByNumber sortCues
  induction cs with
  | nil => exact List.Pairwise.nil
  | cons c cs ih =>
    obtain ⟨hc, hcs⟩ := List.pairwise_cons.1 h
    rw [List.foldr_cons]
    exact insertCue_sorted (ih hcs) fun d hd => (hc d (mem_sortCues.1 hd)).symm

theorem allocate_sublist (free : Nat) (cs : List Cue) : (allocate free cs).Sublist cs := by
  induction cs generalizing free with
  | nil => exact List.Sublist.refl _
  | cons c cs ih =>
    unfold allocate
    split
    · exact (ih _).cons_cons c
    · exact List.nil_sublist _

/-! ## What the judgement makes of a store (R129, R130) -/

/-- The cues of the accepted records (R40 to R43). -/
def acceptedCues (rate : Nat) (bs : List Byte) : List Cue := (judgeRecords bs).accepted.map (cueOfRecord rate)

/-- Those of them that the reel shows (R44). -/
def insideCues (rate : Nat) (r : Reel) (bs : List Byte) : List Cue :=
  (acceptedCues rate bs).filter fun c => !cueNever r c.inFrame c.outFrame

/-- Those of them that the free bitmap memory holds (R130). -/
def keptCues (rate free : Nat) (r : Reel) (bs : List Byte) : List Cue :=
  allocate free (cuesByNumber (insideCues rate r bs))

/-- The store once its cue records are judged. -/
def judgedStore (rate free : Nat) (r : Reel) (st : Store) : Store :=
  { st with
    recordsJudged := true
    cues := keptCues rate free r st.received
    malformed := (judgeRecords st.received).malformed
    overCap := (judgeRecords st.received).overCap
    outsideReel := (acceptedCues rate st.received).length - (insideCues rate r st.received).length
    forMemory := (insideCues rate r st.received).length - (keptCues rate free r st.received).length
    heldBytes := cueBytes (keptCues rate free r st.received) }

theorem judgeStore_eq {pl : Place} {x : Lane} {r : Reel}
    (hr : (x.loaded.bind fun sh => nthReel sh (getStore x.overlay pl).reel) = some r) :
    judgeStore pl x =
      setIndicatorIf
        (decide ((keptCues (laneEditRate x) (freeBitmap x.overlay) r (getStore x.overlay pl).received).length <
          (insideCues (laneEditRate x) r (getStore x.overlay pl).received).length)) .subtitleLost
        (putStore pl (judgedStore (laneEditRate x) (freeBitmap x.overlay) r (getStore x.overlay pl)) x) := by
  unfold judgeStore
  dsimp only
  rw [hr]
  rfl

theorem keptCues_sorted (rate free : Nat) (r : Reel) (bs : List Byte) :
    (keptCues rate free r bs).Pairwise fun c d => c.number < d.number := by
  refine List.Pairwise.sublist (allocate_sublist free _) (cuesByNumber_sorted (List.Pairwise.filter _ ?_))
  exact List.pairwise_map.2 (judgeRecords_judged bs).distinct

theorem mem_keptCues {rate free : Nat} {r : Reel} {bs : List Byte} {c : Cue} (h : c ∈ keptCues rate free r bs) :
    cueNever r c.inFrame c.outFrame = false ∧
      ∃ i < containerCues bs, c = cueOfRecord rate (cueRecord bs i) ∧
        cueInRange (containerLength bs - bitmapStart bs) (cueRecord bs i) = true := by
  have hin : c ∈ insideCues rate r bs := mem_sortCues.1 ((allocate_sublist free _).mem h)
  obtain ⟨haccepted, hnever⟩ := List.mem_filter.1 hin
  obtain ⟨q, hq, rfl⟩ := List.mem_map.1 haccepted
  obtain ⟨hmem, hrange⟩ := (judgeRecords_judged bs).accepted q hq
  obtain ⟨i, hi, rfl⟩ := List.mem_map.1 hmem
  exact ⟨by simpa using hnever, i, List.mem_range.1 hi, rfl, hrange⟩

theorem keptCues_length_le (rate free : Nat) (r : Reel) (bs : List Byte) :
    (keptCues rate free r bs).length ≤ (insideCues rate r bs).length := by
  refine (allocate_sublist free _).length_le.trans (le_of_eq ?_)
  exact sortCues_length _ _

/-- Every record is counted once: as malformed, over the cap, outside the reel, for memory, or among the cues. -/
theorem judgedStore_counts (rate free : Nat) (r : Reel) (st : Store) :
    (judgedStore rate free r st).malformed + (judgedStore rate free r st).overCap +
        (judgedStore rate free r st).outsideReel + (judgedStore rate free r st).forMemory +
        (judgedStore rate free r st).cues.length = containerCues st.received := by
  have hcount := (judgeRecords_judged st.received).count
  have haccepted : (acceptedCues rate st.received).length = (judgeRecords st.received).accepted.length := List.length_map _
  have hinside : (insideCues rate r st.received).length ≤ (acceptedCues rate st.received).length := List.length_filter_le _ _
  have hkept := keptCues_length_le rate free r st.received
  rw [List.length_map, List.length_range] at hcount
  simp only [judgedStore]
  omega

/-- The cues that the judgement keeps of the container's bytes. -/
theorem judgedStore_kept {x : Lane} {r : Reel} {st : Store} {bytes : List Byte}
    (hr : (x.loaded.bind fun sh => nthReel sh st.reel) = some r) (hb : st.received = bytes) :
    cuesKept x bytes (judgedStore (laneEditRate x) (freeBitmap x.overlay) r st) := by
  subst hb
  refine ⟨judgedStore_counts _ _ r st, keptCues_sorted _ _ r _, fun c hc => ?_, rfl, cueBytes_allocate_le _ _⟩
  obtain ⟨hnever, i, hi, heq, hrange⟩ := mem_keptCues hc
  exact ⟨i, hi, heq, hrange, r, hr, hnever⟩

theorem keptCues_bitmap {rate free : Nat} {r : Reel} {bs : List Byte} {c : Cue} (h : c ∈ keptCues rate free r bs) :
    c.bitmap = [] := by
  obtain ⟨-, i, -, rfl, -⟩ := mem_keptCues h
  rfl

end Sys2Proof.Machine
end

section
/-! The receipt of a subtitle chunk, and the completions of the fetch engine (R60 to R64, R70, R128 to R131). -/

namespace Sys2Proof.Machine

/-! ## The judgements of a store, one at a time (R128 to R131) -/

theorem judgeHeader_judged {pl : Place} {x : Lane} (h : (getStore x.overlay pl).headerJudged = true) : judgeHeader pl x = x :=
  if_pos (.inr (.inl h))

theorem judgeHeader_short {pl : Place} {x : Lane} (h : (getStore x.overlay pl).received.length < 104) :
    judgeHeader pl x = x := if_pos (.inr (.inr h))

theorem judgeHeader_unjudged {pl : Place} {x : Lane} (hf : (getStore x.overlay pl).state = .fetching)
    (hj : (getStore x.overlay pl).headerJudged = false) (hlen : 104 ≤ (getStore x.overlay pl).received.length) :
    judgeHeader pl x =
      if containerLength (getStore x.overlay pl).received < bitmapStart (getStore x.overlay pl).received then
        loseStore pl .container x
      else putStore pl { getStore x.overlay pl with
          headerJudged := true, palette := containerPalette (getStore x.overlay pl).received } x := by
  have hdue : ¬ ((getStore x.overlay pl).state ≠ .fetching ∨ (getStore x.overlay pl).headerJudged = true ∨
      (getStore x.overlay pl).received.length < containerHeader) := by
    rw [hf, hj]
    rintro (h | h | h)
    · exact h rfl
    · cases h
    · exact absurd h (Nat.not_lt.2 hlen)
  unfold judgeHeader
  dsimp only
  rw [if_neg hdue]

/-- The judgements after that of the header. -/
def judgeRest (chunks : Nat) (pl : Place) (x : Lane) : Lane := judgeEnd chunks pl (judgeCues pl (judgeExcess pl x))

/-- A lost store is judged no further. -/
theorem judgeRest_lost {chunks : Nat} {pl : Place} {x : Lane} (h : (getStore x.overlay pl).state = .lost) :
    judgeRest chunks pl x = x := by
  have hnf : (getStore x.overlay pl).state ≠ .fetching := by
    rw [h]
    decide
  unfold judgeRest
  rw [judgeExcess, if_neg fun hh => hnf hh.1, judgeCues, if_neg fun hh => hnf hh.1, judgeEnd, if_pos (.inl hnf)]

/-- Before its header is judged a store is judged at its last chunk alone. -/
theorem judgeRest_unjudged {chunks : Nat} {pl : Place} {x : Lane} (h : (getStore x.overlay pl).headerJudged = false) :
    judgeRest chunks pl x = judgeEnd chunks pl x := by
  have hj : ¬ (getStore x.overlay pl).headerJudged = true := Bool.eq_false_iff.1 h
  unfold judgeRest
  rw [judgeExcess, if_neg fun hh => hj hh.2.1, judgeCues, if_neg fun hh => hj hh.2.1]

theorem judgeEnd_more {chunks : Nat} {pl : Place} {x : Lane} (h : (getStore x.overlay pl).fetchChunk < chunks) :
    judgeEnd chunks pl x = x := if_pos (.inr h)

theorem judgeEnd_last {chunks : Nat} {pl : Place} {x : Lane} (hf : (getStore x.overlay pl).state = .fetching)
    (h : chunks ≤ (getStore x.overlay pl).fetchChunk) :
    judgeEnd chunks pl x =
      if (getStore x.overlay pl).recordsJudged = true ∧
          (getStore x.overlay pl).received.length = containerLength (getStore x.overlay pl).received then
        decodeStore pl x
      else loseStore pl .container x :=
  if_neg fun hh => hh.elim (fun hn => hn hf) (Nat.not_lt.2 h)

/-- Bytes beyond the container's length (R128). -/
theorem judgeRest_excess {chunks : Nat} {pl : Place} {x : Lane} (hf : (getStore x.overlay pl).state = .fetching)
    (hj : (getStore x.overlay pl).headerJudged = true)
    (hl : containerLength (getStore x.overlay pl).received < (getStore x.overlay pl).received.length) :
    judgeRest chunks pl x = loseStore pl .container x := by
  have hex : judgeExcess pl x = loseStore pl .container x := if_pos ⟨hf, hj, hl⟩
  have hrest := judgeRest_lost (chunks := chunks) (loseStore_lost pl .container x).1
  unfold judgeRest at hrest ⊢
  rw [judgeExcess, if_neg fun hh => by rw [(loseStore_lost pl .container x).1] at hh; cases hh.1] at hrest
  rw [hex]
  exact hrest

theorem judgeExcess_fits {pl : Place} {x : Lane}
    (hl : (getStore x.overlay pl).received.length ≤ containerLength (getStore x.overlay pl).received) :
    judgeExcess pl x = x := if_neg fun hh => Nat.not_lt.2 hl hh.2.2

/-! ## A store whose header holds (R128) -/

/-- The lane whose store at `pl` is `st`. -/
theorem putStore_store (pl : Place) (st : Store) (x : Lane) : getStore (putStore pl st x).overlay pl = st :=
  getStore_setStore_self x.overlay pl st

theorem putStore_putStore (pl : Place) (st st' : Store) (x : Lane) : putStore pl st (putStore pl st' x) = putStore pl st x := by
  cases pl <;> rfl

theorem freeBitmap_putStore {pl : Place} {st : Store} {x : Lane} (h : st.heldBytes = (getStore x.overlay pl).heldBytes) :
    freeBitmap (putStore pl st x).overlay = freeBitmap x.overlay := by
  cases pl <;> simp only [freeBitmap, putStore, setStore, h, getStore]

/-- The store that the chunk has been received into, its header judged. -/
def headedStore (content : List Byte) (st : Store) : Store :=
  { st with
    received := st.received ++ content
    fetchChunk := st.fetchChunk + 1
    headerJudged := true
    palette := if st.headerJudged then st.palette else containerPalette (st.received ++ content) }

theorem receiveChunk_eq (chunks : Nat) (content : List Byte) (pl : Place) (x : Lane) :
    receiveChunk chunks content pl x =
      judgeRest chunks pl (judgeHeader pl (putStore pl { getStore x.overlay pl with
        received := (getStore x.overlay pl).received ++ content
        fetchChunk := (getStore x.overlay pl).fetchChunk + 1 } x)) := rfl

/-- A chunk received into a store whose header is judged, or can be and holds. -/
theorem receiveChunk_headed {chunks : Nat} {content : List Byte} {pl : Place} {x : Lane}
    (hf : (getStore x.overlay pl).state = .fetching)
    (h : (getStore x.overlay pl).headerJudged = true ∨
      (104 ≤ ((getStore x.overlay pl).received ++ content).length ∧
        bitmapStart ((getStore x.overlay pl).received ++ content) ≤
          containerLength ((getStore x.overlay pl).received ++ content))) :
    receiveChunk chunks content pl x =
      judgeRest chunks pl (putStore pl (headedStore content (getStore x.overlay pl)) x) := by
  have hput := putStore_store pl { getStore x.overlay pl with
    received := (getStore x.overlay pl).received ++ content
    fetchChunk := (getStore x.overlay pl).fetchChunk + 1 } x
  rw [receiveChunk_eq]
  refine congrArg (judgeRest chunks pl) ?_
  cases hj : (getStore x.overlay pl).headerJudged with
  | true =>
    rw [judgeHeader_judged (by rw [hput]; exact hj), headedStore, hj]
    generalize getStore x.overlay pl = st at hj
    cases st
    cases hj
    rfl
  | false =>
    obtain ⟨hlen, hstart⟩ := h.resolve_left (by rw [hj]; decide)
    rw [judgeHeader_unjudged (by rw [hput]; exact hf) (by rw [hput]; exact hj) (by rw [hput]; exact hlen), hput,
      if_neg (Nat.not_lt.2 hstart), putStore_putStore, headedStore, hj]
    rfl

/-- What a received chunk leaves of its store where the container ends there, in its place and chunk count. -/
theorem loseStore_place (pl : Place) (loss : StoreLoss) (x : Lane) :
    (getStore (loseStore pl loss x).overlay pl).fetchChunk = (getStore x.overlay pl).fetchChunk ∧
      (getStore (loseStore pl loss x).overlay pl).reel = (getStore x.overlay pl).reel := by
  rw [loseStore_store]
  exact ⟨rfl, rfl⟩

theorem decodeStore_overlay (pl : Place) (x : Lane) :
    getStore (decodeStore pl x).overlay pl = { getStore x.overlay pl with
        state := .decoded
        cues := (getStore x.overlay pl).cues.map (withBitmap (getStore x.overlay pl).received)
        received := [] } ∧
      (pl = .current1 → (decodeStore pl x).overlay.palettePending.one = true) ∧
      (pl = .current2 → (decodeStore pl x).overlay.palettePending.two = true) := by
  cases pl
  · exact ⟨rfl, fun _ => rfl, fun h => (nomatch h)⟩
  · exact ⟨rfl, fun h => (nomatch h), fun _ => rfl⟩
  · exact ⟨rfl, fun h => (nomatch h), fun h => (nomatch h)⟩
  · exact ⟨rfl, fun h => (nomatch h), fun h => (nomatch h)⟩

/-- The store once the cue records are judged where their bytes are there. -/
def recordedStore (rate free : Nat) (r : Reel) (st : Store) : Store :=
  if st.recordsJudged = false ∧ bitmapStart st.received ≤ st.received.length then judgedStore rate free r st else st

theorem recordedStore_fields (rate free : Nat) (r : Reel) (st : Store) :
    (recordedStore rate free r st).state = st.state ∧ (recordedStore rate free r st).received = st.received ∧
      (recordedStore rate free r st).fetchChunk = st.fetchChunk ∧ (recordedStore rate free r st).reel = st.reel ∧
      (recordedStore rate free r st).palette = st.palette ∧
      (recordedStore rate free r st).headerJudged = st.headerJudged := by
  unfold recordedStore
  split
  · exact ⟨rfl, rfl, rfl, rfl, rfl, rfl⟩
  · exact ⟨rfl, rfl, rfl, rfl, rfl, rfl⟩

/-- The judgement of the cue records changes the store and the indicators. -/
theorem judgeCues_headed {pl : Place} {x : Lane} {r : Reel} (hf : (getStore x.overlay pl).state = .fetching)
    (hj : (getStore x.overlay pl).headerJudged = true)
    (hr : (x.loaded.bind fun sh => nthReel sh (getStore x.overlay pl).reel) = some r) :
    getStore (judgeCues pl x).overlay pl =
        recordedStore (laneEditRate x) (freeBitmap x.overlay) r (getStore x.overlay pl) ∧
      ((getStore x.overlay pl).recordsJudged = false →
        bitmapStart (getStore x.overlay pl).received ≤ (getStore x.overlay pl).received.length →
        0 < (judgedStore (laneEditRate x) (freeBitmap x.overlay) r (getStore x.overlay pl)).forMemory →
        (judgeCues pl x).indicators.held &&& indicatorBit .subtitleLost ≠ 0) := by
  unfold judgeCues recordedStore
  dsimp only
  by_cases hd : (getStore x.overlay pl).recordsJudged = false ∧
      bitmapStart (getStore x.overlay pl).received ≤ (getStore x.overlay pl).received.length
  · rw [if_pos ⟨hf, hj, hd⟩, if_pos hd, judgeStore_eq hr]
    refine ⟨?_, fun _ _ hm => ?_⟩
    · rw [setIndicatorIf_overlay]
      exact putStore_store _ _ _
    · have hlt : (keptCues (laneEditRate x) (freeBitmap x.overlay) r (getStore x.overlay pl).received).length <
          (insideCues (laneEditRate x) r (getStore x.overlay pl).received).length := Nat.lt_of_sub_pos hm
      rw [decide_eq_true hlt]
      exact setIndicator_held .subtitleLost _
  · rw [if_neg fun hh => hd hh.2.2, if_neg hd]
    exact ⟨rfl, fun h1 h2 => absurd ⟨h1, h2⟩ hd⟩

/-! ## The receipt of a chunk (R70, R128 to R131) -/

theorem withBitmap_stripped {bs : List Byte} {cs : List Cue} (h : ∀ c ∈ cs, c.bitmap = []) :
    (cs.map (withBitmap bs)).map (fun c => { c with bitmap := [] }) = cs := by
  rw [List.map_map]
  refine (List.map_congr_left fun c hc => ?_).trans (List.map_id cs)
  have hb := h c hc
  cases c
  cases hb
  rfl

section
variable {chunks : Nat} {content : List Byte} {pl : Place} {x : Lane} {r : Reel}

/-- The lane ahead of the last chunk's judgement, in what a container within its length leaves of the store. -/
theorem judgeRest_within (hf : (getStore x.overlay pl).state = .fetching)
    (hr : (x.loaded.bind fun sh => nthReel sh (getStore x.overlay pl).reel) = some r)
    (hfit : ((getStore x.overlay pl).received ++ content).length ≤
      containerLength ((getStore x.overlay pl).received ++ content)) :
    ∃ z, judgeRest chunks pl (putStore pl (headedStore content (getStore x.overlay pl)) x) = judgeEnd chunks pl z ∧
      getStore z.overlay pl =
        recordedStore (laneEditRate x) (freeBitmap x.overlay) r (headedStore content (getStore x.overlay pl)) ∧
      ((getStore x.overlay pl).recordsJudged = false →
        bitmapStart ((getStore x.overlay pl).received ++ content) ≤ ((getStore x.overlay pl).received ++ content).length →
        0 < (judgedStore (laneEditRate x) (freeBitmap x.overlay) r (headedStore content (getStore x.overlay pl))).forMemory →
        z.indicators.held &&& indicatorBit .subtitleLost ≠ 0) := by
  have hput := putStore_store pl (headedStore content (getStore x.overlay pl)) x
  have hfree := freeBitmap_putStore (pl := pl) (st := headedStore content (getStore x.overlay pl)) (x := x) rfl
  have hcues := judgeCues_headed (pl := pl) (x := putStore pl (headedStore content (getStore x.overlay pl)) x) (r := r)
    (by rw [hput]; exact hf) (by rw [hput]; rfl) (by rw [hput]; exact hr)
  rw [hput, hfree] at hcues
  refine ⟨_, ?_, hcues.1, hcues.2⟩
  unfold judgeRest
  rw [judgeExcess_fits (by rw [hput]; exact hfit)]

/-- A chunk that leaves the bytes short of the header (R128). -/
theorem chunkTaken_short (hf : (getStore x.overlay pl).state = .fetching) (hs : storesOk x)
    (hj : (getStore x.overlay pl).headerJudged = false)
    (hlen : ((getStore x.overlay pl).received ++ content).length < 104) :
    chunkTaken chunks content pl x (receiveChunk chunks content pl x) := by
  have hput := putStore_store pl { getStore x.overlay pl with
    received := (getStore x.overlay pl).received ++ content
    fetchChunk := (getStore x.overlay pl).fetchChunk + 1 } x
  have hrj : (getStore x.overlay pl).recordsJudged = false := by
    have := ((storesOk_iff x).1 hs).1 pl
    rw [hj] at this
    exact Bool.eq_false_iff.2 fun hh => Bool.false_ne_true (this hh)
  have hrec : receiveChunk chunks content pl x = judgeEnd chunks pl (putStore pl { getStore x.overlay pl with
      received := (getStore x.overlay pl).received ++ content
      fetchChunk := (getStore x.overlay pl).fetchChunk + 1 } x) := by
    rw [receiveChunk_eq, judgeHeader_short (by rw [hput]; exact hlen), judgeRest_unjudged (by rw [hput]; exact hj)]
  have hnot : ¬ ((getStore x.overlay pl).headerJudged = true ∨
      (104 ≤ ((getStore x.overlay pl).received ++ content).length ∧
        104 + 32 * field ((getStore x.overlay pl).received ++ content) 4 2 ≤
          field ((getStore x.overlay pl).received ++ content) 0 4)) := by
    rw [hj]
    rintro (h | h)
    · cases h
    · omega
  by_cases hl : chunks ≤ (getStore x.overlay pl).fetchChunk + 1
  · have hend := judgeEnd_last (chunks := chunks) (pl := pl) (x := putStore pl { getStore x.overlay pl with
        received := (getStore x.overlay pl).received ++ content
        fetchChunk := (getStore x.overlay pl).fetchChunk + 1 } x) (by rw [hput]; exact hf) (by rw [hput]; exact hl)
    rw [hput, if_neg fun hh => by rw [hrj] at hh; cases hh.1] at hend
    rw [hend] at hrec
    rw [hrec]
    have hplace := loseStore_place pl .container (putStore pl { getStore x.overlay pl with
        received := (getStore x.overlay pl).received ++ content
        fetchChunk := (getStore x.overlay pl).fetchChunk + 1 } x)
    rw [hput] at hplace
    exact ⟨hplace.1, hplace.2, fun _ _ => ⟨fun h => absurd hl h, fun _ => loseStore_lost pl .container _⟩,
      fun h => absurd hlen (Nat.not_lt.2 h), fun h => absurd h hnot⟩
  · rw [judgeEnd_more (by rw [hput]; exact Nat.not_le.1 hl)] at hrec
    rw [hrec]
    exact ⟨by rw [hput], by rw [hput], fun _ _ => ⟨fun _ => hput, fun h => absurd h hl⟩,
      fun h => absurd hlen (Nat.not_lt.2 h), fun h => absurd h hnot⟩

/-- A header whose length lies below the bitmap area (R128). -/
theorem chunkTaken_bad (hf : (getStore x.overlay pl).state = .fetching)
    (hj : (getStore x.overlay pl).headerJudged = false)
    (hlen : 104 ≤ ((getStore x.overlay pl).received ++ content).length)
    (hbad : containerLength ((getStore x.overlay pl).received ++ content) <
      bitmapStart ((getStore x.overlay pl).received ++ content)) :
    chunkTaken chunks content pl x (receiveChunk chunks content pl x) := by
  have hput := putStore_store pl { getStore x.overlay pl with
    received := (getStore x.overlay pl).received ++ content
    fetchChunk := (getStore x.overlay pl).fetchChunk + 1 } x
  have hrec : receiveChunk chunks content pl x = loseStore pl .container (putStore pl { getStore x.overlay pl with
      received := (getStore x.overlay pl).received ++ content
      fetchChunk := (getStore x.overlay pl).fetchChunk + 1 } x) := by
    rw [receiveChunk_eq, judgeHeader_unjudged (by rw [hput]; exact hf) (by rw [hput]; exact hj) (by rw [hput]; exact hlen),
      hput, if_pos hbad, judgeRest_lost (loseStore_lost pl .container _).1]
  have hplace := loseStore_place pl .container (putStore pl { getStore x.overlay pl with
      received := (getStore x.overlay pl).received ++ content
      fetchChunk := (getStore x.overlay pl).fetchChunk + 1 } x)
  rw [hput] at hplace
  rw [hrec]
  refine ⟨hplace.1, hplace.2, fun h => absurd h (Nat.not_lt.2 hlen), fun _ _ _ => loseStore_lost pl .container _,
    fun h => ?_⟩
  rcases h with h | h
  · exact absurd (hj.symm.trans h) Bool.false_ne_true
  · exact absurd hbad (Nat.not_lt.2 h.2)

/-- Bytes beyond the container's length (R128). -/
theorem chunkTaken_excess (hf : (getStore x.overlay pl).state = .fetching)
    (h : (getStore x.overlay pl).headerJudged = true ∨
      (104 ≤ ((getStore x.overlay pl).received ++ content).length ∧
        bitmapStart ((getStore x.overlay pl).received ++ content) ≤
          containerLength ((getStore x.overlay pl).received ++ content)))
    (hex : containerLength ((getStore x.overlay pl).received ++ content) <
      ((getStore x.overlay pl).received ++ content).length) :
    chunkTaken chunks content pl x (receiveChunk chunks content pl x) := by
  have hput := putStore_store pl (headedStore content (getStore x.overlay pl)) x
  have hrec := receiveChunk_headed (chunks := chunks) hf h
  rw [judgeRest_excess (by rw [hput]; exact hf) (by rw [hput]; rfl) (by rw [hput]; exact hex)] at hrec
  have hplace := loseStore_place pl .container (putStore pl (headedStore content (getStore x.overlay pl)) x)
  rw [hput] at hplace
  have hlost := loseStore_lost pl .container (putStore pl (headedStore content (getStore x.overlay pl)) x)
  rw [hrec]
  refine ⟨hplace.1, hplace.2, fun hlen hj => ?_, fun _ _ _ => hlost, fun _ => ⟨fun _ => hlost, fun hfit => ?_⟩⟩
  · rcases h with h | h
    · exact absurd (hj.symm.trans h) Bool.false_ne_true
    · exact absurd hlen (Nat.not_lt.2 h.1)
  · exact absurd hex (Nat.not_lt.2 hfit)

theorem recordedStore_judged {rate free : Nat} {st : Store} (hs : bitmapStart st.received ≤ st.received.length) :
    (recordedStore rate free r st).recordsJudged = true := by
  unfold recordedStore
  split
  · rfl
  · next h =>
    cases hj : st.recordsJudged with
    | true => rfl
    | false => exact absurd ⟨hj, hs⟩ h

/-- A chunk within the container's length (R128 to R131). -/
theorem chunkTaken_within (hf : (getStore x.overlay pl).state = .fetching)
    (hr : (x.loaded.bind fun sh => nthReel sh (getStore x.overlay pl).reel) = some r)
    (h : (getStore x.overlay pl).headerJudged = true ∨
      (104 ≤ ((getStore x.overlay pl).received ++ content).length ∧
        bitmapStart ((getStore x.overlay pl).received ++ content) ≤
          containerLength ((getStore x.overlay pl).received ++ content)))
    (hfit : ((getStore x.overlay pl).received ++ content).length ≤
      containerLength ((getStore x.overlay pl).received ++ content)) :
    chunkTaken chunks content pl x (receiveChunk chunks content pl x) := by
  have hshort : ¬ (((getStore x.overlay pl).received ++ content).length < 104 ∧
      (getStore x.overlay pl).headerJudged = false) := fun ⟨h1, h2⟩ => by
    rcases h with h | h
    · exact absurd (h2.symm.trans h) Bool.false_ne_true
    · exact absurd h1 (Nat.not_lt.2 h.1)
  have hstart : (getStore x.overlay pl).headerJudged = false →
      bitmapStart ((getStore x.overlay pl).received ++ content) ≤
        containerLength ((getStore x.overlay pl).received ++ content) := fun h2 => by
    rcases h with h | h
    · exact absurd (h2.symm.trans h) Bool.false_ne_true
    · exact h.2
  obtain ⟨z, hz, hstore, hmem⟩ := judgeRest_within (chunks := chunks) hf hr hfit
  have hrec := (receiveChunk_headed (chunks := chunks) hf h).trans hz
  obtain ⟨hst, hreceived, hchunk, hreel, hpal, hhead⟩ := recordedStore_fields (laneEditRate x) (freeBitmap x.overlay) r
    (headedStore content (getStore x.overlay pl))
  have hrj (hs : bitmapStart ((getStore x.overlay pl).received ++ content) ≤
      ((getStore x.overlay pl).received ++ content).length) := recordedStore_judged (rate := laneEditRate x)
    (free := freeBitmap x.overlay) (r := r) (st := headedStore content (getStore x.overlay pl)) hs
  have hkept := judgedStore_kept (x := x) (r := r) (st := headedStore content (getStore x.overlay pl)) hr rfl
  rw [← hstore] at hst hreceived hchunk hreel hpal hhead hrj
  have hpalette : (getStore x.overlay pl).headerJudged = false →
      (getStore z.overlay pl).palette = containerPalette ((getStore x.overlay pl).received ++ content) := fun hj => by
    rw [hpal, headedStore, hj]
    rfl
  by_cases hl : chunks ≤ (getStore x.overlay pl).fetchChunk + 1
  · have hend := judgeEnd_last (chunks := chunks) (pl := pl) (x := z) (hst.trans hf) (by rw [hchunk]; exact hl)
    rw [hreceived] at hend
    by_cases hdone : (getStore z.overlay pl).recordsJudged = true ∧
        ((getStore x.overlay pl).received ++ content).length =
          containerLength ((getStore x.overlay pl).received ++ content)
    · obtain ⟨hdecoded, hone, htwo⟩ := decodeStore_overlay pl z
      rw [hend, if_pos (by exact hdone)] at hrec
      rw [hrec]
      refine ⟨by rw [hdecoded]; exact hchunk, by rw [hdecoded]; exact hreel, fun h1 h2 => absurd ⟨h1, h2⟩ hshort,
        fun _ hj hb => absurd hb (Nat.not_lt.2 (hstart hj)), fun _ => ⟨fun he => absurd he (Nat.not_lt.2 hfit), fun _ =>
        ⟨fun _ hlt => absurd hdone.2 (Nat.ne_of_lt hlt), fun hj _ => ?_, fun hn => absurd hl hn, fun _ _ hs _ => ?_⟩⟩⟩
      · rw [hdecoded]
        exact hpalette hj
      · rw [hdecoded]
        refine ⟨rfl, rfl, fun c hc => ?_, fun hnew => ?_, hone, htwo⟩
        · obtain ⟨d, hd, rfl⟩ := List.mem_map.1 hc
          rw [hreceived]
          rfl
        · have hjudged : getStore z.overlay pl =
              judgedStore (laneEditRate x) (freeBitmap x.overlay) r (headedStore content (getStore x.overlay pl)) :=
            hstore.trans (if_pos ⟨hnew, hs⟩)
          have hstripped := withBitmap_stripped (bs := (getStore z.overlay pl).received)
            (cs := (getStore z.overlay pl).cues) (by rw [hjudged]; exact fun c hc => keptCues_bitmap hc)
          dsimp only
          rw [hstripped, hjudged]
          exact hkept
    · rw [hend, if_neg (by exact hdone)] at hrec
      rw [hrec]
      have hlost := loseStore_lost pl .container z
      have hplace := loseStore_place pl .container z
      refine ⟨hplace.1.trans hchunk, hplace.2.trans hreel, fun h1 h2 => absurd ⟨h1, h2⟩ hshort,
        fun _ hj hb => absurd hb (Nat.not_lt.2 (hstart hj)), fun _ => ⟨fun _ => hlost, fun _ =>
        ⟨fun _ _ => hlost, fun hj hc => ?_, fun hn => absurd hl hn, fun _ heq hs _ => ?_⟩⟩⟩
      · have heq := hc.resolve_left (not_not.2 hl)
        exact absurd ⟨hrj ((hstart hj).trans (le_of_eq heq.symm)), heq⟩ hdone
      · exact absurd ⟨hrj hs, heq⟩ hdone
  · rw [judgeEnd_more (by rw [hchunk]; exact Nat.not_le.1 hl)] at hrec
    rw [hrec]
    refine ⟨hchunk, hreel, fun h1 h2 => absurd ⟨h1, h2⟩ hshort, fun _ hj hb => absurd hb (Nat.not_lt.2 (hstart hj)),
      fun _ => ⟨fun he => absurd he (Nat.not_lt.2 hfit), fun _ => ⟨fun h => absurd h hl, fun hj _ => hpalette hj,
        fun _ => ⟨hst.trans hf, hreceived, hhead, fun hlt => ?_, fun hs hnew _ => ?_⟩, fun h => absurd h hl⟩⟩⟩
    · have hsame : getStore z.overlay pl = headedStore content (getStore x.overlay pl) :=
        hstore.trans (if_neg fun hh => absurd hlt (Nat.not_lt.2 hh.2))
      rw [hsame]
      exact ⟨rfl, rfl⟩
    · have hjudged : getStore z.overlay pl =
          judgedStore (laneEditRate x) (freeBitmap x.overlay) r (headedStore content (getStore x.overlay pl)) :=
        hstore.trans (if_pos ⟨hnew, hs⟩)
      rw [hjudged]
      exact ⟨rfl, hkept, hmem hnew hs⟩

/-- What a chunk received makes of its store (R128 to R131). -/
theorem receiveChunk_taken (hf : (getStore x.overlay pl).state = .fetching) (hs : storesOk x)
    (hr : (x.loaded.bind fun sh => nthReel sh (getStore x.overlay pl).reel) = some r) :
    chunkTaken chunks content pl x (receiveChunk chunks content pl x) := by
  by_cases h : (getStore x.overlay pl).headerJudged = true ∨
      (104 ≤ ((getStore x.overlay pl).received ++ content).length ∧
        bitmapStart ((getStore x.overlay pl).received ++ content) ≤
          containerLength ((getStore x.overlay pl).received ++ content))
  · rcases Nat.lt_or_ge (containerLength ((getStore x.overlay pl).received ++ content))
      ((getStore x.overlay pl).received ++ content).length with hex | hfit
    · exact chunkTaken_excess hf h hex
    · exact chunkTaken_within hf hr h hfit
  · obtain ⟨hj, hlen⟩ := not_or.1 h
    rw [Bool.not_eq_true] at hj
    rcases Nat.lt_or_ge ((getStore x.overlay pl).received ++ content).length 104 with hshort | hlong
    · exact chunkTaken_short hf hs hj hshort
    · exact chunkTaken_bad hf hj hlong (Nat.not_le.1 fun hb => hlen ⟨hlong, hb⟩)

end

end Sys2Proof.Machine
end

section
/-! The completions of the fetch engine (R60 to R64, R70). -/

namespace Sys2Proof.Machine

/-! ## The content of a chunk (R60, R62) -/

theorem cutUnits_cut {ns : List Nat} {bs : List Byte} (h : ns.sum = bs.length) :
    (cutUnits ns bs).map List.length = ns ∧ (cutUnits ns bs).flatten = bs := by
  induction ns generalizing bs with
  | nil =>
    rw [List.sum_nil] at h
    exact ⟨rfl, (List.eq_nil_of_length_eq_zero h.symm).symm⟩
  | cons n ns ih =>
    rw [List.sum_cons] at h
    obtain ⟨hlen, hflat⟩ := ih (bs := bs.drop n) (by rw [List.length_drop]; omega)
    unfold cutUnits
    rw [List.map_cons, List.flatten_cons, hlen, hflat, List.take_append_drop, List.length_take]
    exact ⟨by rw [Nat.min_eq_left (by omega)], rfl⟩

theorem chunkContent_eq (key : Option KeyUse) (bs plain : List Byte) :
    chunkContent key.isSome bs plain =
      if key = none then bs.take (bs.length - 16) else fitBytes (bs.length - 16) plain := by
  cases key <;> rfl

/-- The picture units of a chunk are cut as its header says, where it fits the chunk (R60). -/
theorem essenceBody_picture (t : TrackPlan) (bs : List Byte) :
    (field bs 0 1 = t.eyes ∧ (∀ k ∈ unitLengths t.eyes bs, 1 ≤ k) ∧
        4 + 4 * t.eyes + (unitLengths t.eyes bs).sum = bs.length →
      ∃ us, essenceBody .picture t bs = .ready (.picture us) ∧ us.map List.length = unitLengths t.eyes bs ∧
        us.flatten = bs.drop (4 + 4 * t.eyes)) ∧
      (¬ (field bs 0 1 = t.eyes ∧ (∀ k ∈ unitLengths t.eyes bs, 1 ≤ k) ∧
          4 + 4 * t.eyes + (unitLengths t.eyes bs).sum = bs.length) →
        essenceBody .picture t bs = .poisoned .malformed) := by
  have hall : (unitLengths t.eyes bs).all (fun n => decide (1 ≤ n)) = true ↔ ∀ k ∈ unitLengths t.eyes bs, 1 ≤ k := by
    rw [List.all_eq_true]
    simp only [decide_eq_true_eq]
  unfold essenceBody
  refine ⟨fun ⟨heyes, hones, hsum⟩ => ?_, fun h => ?_⟩
  · have hunits : pictureUnits t.eyes bs = some (cutUnits (unitLengths t.eyes bs) (bs.drop (4 + 4 * t.eyes))) :=
      if_pos ⟨heyes, hall.2 hones, hsum⟩
    obtain ⟨hlen, hflat⟩ := cutUnits_cut (ns := unitLengths t.eyes bs) (bs := bs.drop (4 + 4 * t.eyes)) (by
      rw [List.length_drop]
      omega)
    rw [hunits]
    exact ⟨_, rfl, hlen, hflat⟩
  · have hunits : pictureUnits t.eyes bs = none := if_neg fun ⟨h1, h2, h3⟩ => h ⟨h1, hall.1 h2, h3⟩
    rw [hunits]

/-! ## The end of a transaction (R63, R64) -/

/-- What the end of a transaction of lane `l` leaves of the rest of the part. -/
structure Completed (l : LaneId) (s t : State) : Prop where
  flight : t.engine.flight = none
  search : t.engine.searchFrom = s.engine.searchFrom
  lanes : lanesKept l s t
  licences : t.licences = s.licences
  host : t.host = s.host
  journal : t.journal = s.journal
  registers : registersKept s t
  inputs : t.inputs = s.inputs
  pending : t.pending = s.pending

theorem setFlight_completed (l : LaneId) (s : State) : Completed l s (setFlight none s) :=
  ⟨rfl, rfl, fun _ _ => rfl, rfl, rfl, rfl, .refl s, rfl, rfl⟩

theorem placed_completed (l : LaneId) (f : Lane → Lane) (s : State) : Completed l s ((setFlight none s).modLane l f) :=
  ⟨rfl, rfl, fun _ hm => State.lane_modLane_ne _ _ hm, rfl, rfl, rfl, .refl s, rfl, rfl⟩

theorem Completed.noted {l : LaneId} {s w : State} (h : Completed l s w) : Completed l s (noteChanges s w) := by
  obtain ⟨hf, hq, hl, hlic, hh, hj, ⟨r1, r2, r3, r4, r5, r6, r7, r8, r9, r10⟩, hi, hp⟩ := h
  exact ⟨hf, hq, fun m hm => hl m hm, hlic, hh, hj, ⟨r1, r2, r3, r4, r5, r6, r7, r8, r9, r10⟩, hi, hp⟩

theorem modLane_same {l : LaneId} {f : Lane → Lane} {s : State} (h : f (s.lane l) = s.lane l) :
    (s.modLane l f).lanes = s.lanes := by
  show s.lanes.set l (f (s.lane l)) = s.lanes
  rw [h]
  exact Quad.set_get_self s.lanes l

/-! ## The completion of an essence transaction (R61 to R64) -/

section
variable {agrees : Bool} {plain : List Byte} {s : State} {f : Flight} {e : Essence} {pos : Position}

theorem completeEssence_stale (hf : s.engine.flight = some f) (hw : f.work = .essence e pos)
    (hg : f.generation ≠ (s.lane f.lane).generation) : completeEssence agrees plain s = setFlight none s := by
  unfold completeEssence
  rw [hf]
  dsimp only
  rw [hw]
  exact if_pos hg

theorem completeEssence_current (hf : s.engine.flight = some f) (hw : f.work = .essence e pos)
    (hg : f.generation = (s.lane f.lane).generation) {sh : Show} {plan : TrackPlan} (hl : (s.lane f.lane).loaded = some sh)
    (hp : positionPlan sh e pos = some plan) :
    completeEssence agrees plain s =
      (setFlight none s).modLane f.lane (placeResult e pos (essenceResult s.host e plan f agrees plain)) := by
  unfold completeEssence
  rw [hf]
  dsimp only
  rw [hw]
  dsimp only
  rw [if_neg (not_not.2 hg), hl, Option.bind_some, hp]

theorem completeEssence_completed (hf : s.engine.flight = some f) (hw : f.work = .essence e pos) :
    Completed f.lane s (completeEssence agrees plain s) ∧
      ((completeEssence agrees plain s).lane f.lane).state = (s.lane f.lane).state := by
  have hidle := setFlight_completed f.lane s
  unfold completeEssence
  rw [hf]
  dsimp only
  rw [hw]
  dsimp only
  split
  · exact ⟨hidle, rfl⟩
  · split
    · exact ⟨hidle, rfl⟩
    · refine ⟨placed_completed _ _ s, ?_⟩
      rw [State.lane_modLane_self]
      exact (placeResult_generation _ _ _ _).2

end

/-- The result of an essence transaction by the chunk read (R60 to R62). -/
theorem essenceResult_read {h : HostSide} {e : Essence} {plan : TrackPlan} {f : Flight} {agrees : Bool}
    {plain bs : List Byte} (hr : hostRead h f.address f.length = some bs) :
    essenceResult h e plan f agrees plain =
      if agrees then essenceBody e plan (chunkContent plan.key.isSome bs plain) else .poisoned .integrity := by
  unfold essenceResult
  rw [hr]
  cases agrees <;> rfl

theorem essenceResult_unread {h : HostSide} {e : Essence} {plan : TrackPlan} {f : Flight} {agrees : Bool}
    {plain : List Byte} (hr : hostRead h f.address f.length = none) :
    essenceResult h e plan f agrees plain = .poisoned .readError := by
  unfold essenceResult
  rw [hr]

theorem essenceBody_sound {e : Essence} (t : TrackPlan) (bs : List Byte) (h : e ≠ .picture) :
    essenceBody e t bs = .ready (.sound (soundSamples bs)) := by
  cases e
  · exact absurd rfl h
  · rfl
  · rfl

/-! ## The completion of a subtitle chunk (R62, R70) -/

section
variable {agrees : Bool} {plain : List Byte} {s : State} {f : Flight} {t1 : Subtitle} {reel chunk : Nat}

/-- The lane once the chunk of its store has come, read and agreeing or not. -/
def chunkCome (agrees : Bool) (plain : List Byte) (h : HostSide) (f : Flight) (pl : Place) (plan : TrackPlan) (x : Lane) :
    Lane :=
  match hostRead h f.address f.length with
  | none => loseStore pl .chunk x
  | some bs =>
    if agrees then receiveChunk plan.chunks (chunkContent plan.key.isSome bs plain) pl x else loseStore pl .chunk x

theorem chunkCome_lost {h : HostSide} {pl : Place} {plan : TrackPlan} {x : Lane}
    (hn : agrees = false ∨ hostRead h f.address f.length = none) :
    chunkCome agrees plain h f pl plan x = loseStore pl .chunk x := by
  unfold chunkCome
  rcases hn with rfl | hn
  · split <;> rfl
  · rw [hn]

theorem chunkCome_received {h : HostSide} {pl : Place} {plan : TrackPlan} {x : Lane} {bs : List Byte}
    (ha : agrees = true) (hr : hostRead h f.address f.length = some bs) :
    chunkCome agrees plain h f pl plan x = receiveChunk plan.chunks (chunkContent plan.key.isSome bs plain) pl x := by
  unfold chunkCome
  rw [hr]
  exact if_pos ha

theorem besideStores_chunkCome (agrees : Bool) (plain : List Byte) (h : HostSide) (f : Flight) (pl : Place)
    (plan : TrackPlan) (x : Lane) : besideStores (chunkCome agrees plain h f pl plan x) = besideStores x := by
  unfold chunkCome
  split
  · exact besideStores_loseStore _ _ _
  · split
    · exact besideStores_receiveChunk _ _ _ _
    · exact besideStores_loseStore _ _ _

/-- Every completion of a subtitle chunk: the result is discarded, or the store takes it. -/
theorem completeSubtitle_cases (hf : s.engine.flight = some f) (hw : f.work = .subtitle t1 reel chunk) :
    completeSubtitle agrees plain s = setFlight none s ∨
      ∃ pl plan, completeSubtitle agrees plain s =
        (setFlight none s).modLane f.lane (chunkCome agrees plain s.host f pl plan) := by
  unfold completeSubtitle
  rw [hf]
  dsimp only
  rw [hw]
  dsimp only
  split
  · exact .inl rfl
  · split
    · exact .inl rfl
    · next pl _ =>
      split
      · exact .inl rfl
      · next plan _ =>
        refine .inr ⟨pl, plan, ?_⟩
        have hcome {g : Lane → Lane} (hg : ∀ x, chunkCome agrees plain s.host f pl plan x = g x) :
            (setFlight none s).modLane f.lane g =
              (setFlight none s).modLane f.lane (chunkCome agrees plain s.host f pl plan) := by
          rw [show chunkCome agrees plain s.host f pl plan = g from funext hg]
        split
        · next hr => exact hcome fun x => chunkCome_lost (.inr hr)
        · next bs hr =>
          cases agrees with
          | false => exact hcome fun x => chunkCome_lost (.inl rfl)
          | true => exact hcome fun x => chunkCome_received rfl hr

theorem completeSubtitle_stale (hf : s.engine.flight = some f) (hw : f.work = .subtitle t1 reel chunk)
    (hg : f.generation ≠ (s.lane f.lane).generation) : completeSubtitle agrees plain s = setFlight none s := by
  unfold completeSubtitle
  rw [hf]
  dsimp only
  rw [hw]
  exact if_pos (.inl hg)

theorem completeSubtitle_current (hf : s.engine.flight = some f) (hw : f.work = .subtitle t1 reel chunk)
    (hg : f.generation = (s.lane f.lane).generation) (hst : hasFetchWork (s.lane f.lane).state = true) {pl : Place}
    (hpl : allPlaces.find? (servesStore (s.lane f.lane) t1 reel) = some pl) {plan : TrackPlan}
    (hp : storePlan (s.lane f.lane) pl = some plan) :
    completeSubtitle agrees plain s = (setFlight none s).modLane f.lane (chunkCome agrees plain s.host f pl plan) := by
  have hgo : ¬ (f.generation ≠ (s.lane f.lane).generation ∨ hasFetchWork (s.lane f.lane).state = false) := by
    rw [hst]
    exact fun h => h.elim (fun h => h hg) fun h => nomatch h
  unfold completeSubtitle
  rw [hf]
  dsimp only
  rw [hw]
  dsimp only
  rw [if_neg hgo, hpl]
  dsimp only
  rw [hp]
  unfold chunkCome
  cases hr : hostRead s.host f.address f.length with
  | none => rfl
  | some bs => cases agrees <;> rfl

theorem completeSubtitle_completed (hf : s.engine.flight = some f) (hw : f.work = .subtitle t1 reel chunk) :
    Completed f.lane s (completeSubtitle agrees plain s) ∧
      besideStores ((completeSubtitle agrees plain s).lane f.lane) = besideStores (s.lane f.lane) := by
  rcases completeSubtitle_cases (agrees := agrees) (plain := plain) hf hw with h | ⟨pl, plan, h⟩
  · rw [h]
    exact ⟨setFlight_completed f.lane s, rfl⟩
  · rw [h]
    refine ⟨placed_completed _ _ s, ?_⟩
    rw [State.lane_modLane_self]
    exact besideStores_chunkCome _ _ _ _ _ _ _

end

theorem storePlan_reel {x : Lane} {pl : Place} {plan : TrackPlan} (h : storePlan x pl = some plan) :
    ∃ r, (x.loaded.bind fun sh => nthReel sh (getStore x.overlay pl).reel) = some r := by
  unfold storePlan at h
  obtain ⟨r, hr, -⟩ := Option.bind_eq_some_iff.1 h
  exact ⟨r, hr⟩

/-- Settles O56. -/
theorem completionsPlaceTheirResults : Obligations.CompletionsPlaceTheirResults := by
  unfold Obligations.CompletionsPlaceTheirResults
  refine ⟨fun agrees plain s f e pos hf hw => ?_, fun agrees plain s f t1 reel chunk hf hw => ?_⟩
  · obtain ⟨hdone, hst⟩ := completeEssence_completed (agrees := agrees) (plain := plain) hf hw
    obtain ⟨hflight, hsearch, hlanes, hlic, hhost, hjournal, hregs, hin, hpend⟩ := hdone.noted
    refine ⟨noteChanges s (completeEssence agrees plain s), rfl, hflight, hsearch, fun hg => ?_,
      fun sh plan hg hl hp => ⟨fun hpast => ?_, fun hahead => ?_⟩, hlanes, hst, hlic, hhost, hjournal, hregs, hin, hpend⟩
    · show (completeEssence agrees plain s).lanes = s.lanes
      rw [completeEssence_stale hf hw hg]
      rfl
    · show (completeEssence agrees plain s).lanes = s.lanes
      rw [completeEssence_current hf hw hg hl hp]
      exact modLane_same (s := setFlight none s) (placeResult_past _ hl hpast)
    · have hlane : (completeEssence agrees plain s).lane f.lane = _ :=
        (congrArg (State.lane · f.lane) (completeEssence_current hf hw hg hl hp)).trans
          ((State.lane_modLane_self _ _ _).trans (placeResult_placed _ hl hahead))
      have hpoison : (∃ k, essenceResult s.host e plan f agrees plain = .poisoned k) →
          ((completeEssence agrees plain s).lane f.lane).indicators.held &&& indicatorBit .poisoned ≠ 0 := fun ⟨k, hk⟩ => by
        rw [hlane, hk]
        exact setIndicator_held .poisoned _
      refine ⟨⟨pos, positionFrame sh pos, essenceResult s.host e plan f agrees plain⟩, ?_, rfl, rfl,
        essenceResult_unread, fun bs hbs => ?_, hpoison⟩
      · show (((completeEssence agrees plain s).lane f.lane).tracks.get e).queue = _
        rw [hlane, setIndicatorIf_tracks]
        dsimp only
        rw [PerEssence.get_set_self]
        rfl
      · have hbody := essenceResult_read (e := e) (plan := plan) (agrees := agrees) (plain := plain) hbs
        rw [chunkContent_eq] at hbody
        obtain ⟨hfits, hmalformed⟩ := essenceBody_picture plan
          (if plan.key = none then bs.take (bs.length - 16) else fitBytes (bs.length - 16) plain)
        dsimp only
        rw [hbody]
        refine ⟨fun ha => by rw [ha]; rfl, fun ha hne => ?_, fun ha hpic hfit => ?_, fun ha hpic hnot => ?_⟩
        · rw [ha, if_pos rfl]
          exact essenceBody_sound plan _ hne
        · rw [ha, hpic, if_pos rfl]
          exact hfits hfit
        · rw [ha, hpic, if_pos rfl]
          exact hmalformed hnot
  · obtain ⟨hdone, hbeside⟩ := completeSubtitle_completed (agrees := agrees) (plain := plain) hf hw
    obtain ⟨hflight, -, hlanes, hlic, hhost, hjournal, hregs, hin, hpend⟩ := hdone.noted
    obtain ⟨hst, hp, htracks⟩ := fields_of_besideStores hbeside
    refine ⟨noteChanges s (completeSubtitle agrees plain s), rfl, hflight, fun hg => ?_,
      fun pl plan hg hwork hpl hplan => ?_, hlanes, hst, hp, htracks, hlic, hhost, hjournal, hregs, hin, hpend⟩
    · show (completeSubtitle agrees plain s).lanes = s.lanes
      rw [completeSubtitle_stale hf hw hg]
      rfl
    · have hlane : (noteChanges s (completeSubtitle agrees plain s)).lane f.lane =
          chunkCome agrees plain s.host f pl plan (s.lane f.lane) :=
        (congrArg (State.lane · f.lane) (completeSubtitle_current hf hw hg hwork hpl hplan)).trans
          (State.lane_modLane_self _ _ _)
      rw [hlane]
      refine ⟨fun hlost => ?_, fun bs ha hbs hstores => ?_⟩
      · rw [chunkCome_lost hlost]
        exact loseStore_lost pl .chunk _
      · have hserves : servesStore (s.lane f.lane) t1 reel pl = true := List.find?_some hpl
        rw [servesStore, Bool.and_eq_true, decide_eq_true_eq] at hserves
        obtain ⟨r, hr⟩ := storePlan_reel hplan
        rw [chunkCome_received ha hbs, chunkContent_eq]
        exact receiveChunk_taken hserves.2 hstores hr

end Sys2Proof.Machine
end

section
/-! The account of the licences (R74, R75, R85, R86, R94 to R104): what the Licence Table and the tallies owe one
another, apart from the phase that a lane's state gives its tally. -/

namespace Sys2Proof.Machine

/-! ## The invariant in two parts -/

/-- The phase of a lane's tally is the one that its state gives. -/
def phaseFits (x : Lane) : Prop :=
  (x.state = .empty → x.tally.phase = .absent) ∧
    (x.state = .loading ∨ x.state = .ready ∨ x.state = .armed → x.tally.phase = .built) ∧
    (x.state = .playing ∨ x.state = .held ∨ x.state = .seeking → x.tally.phase = .running) ∧
    (x.state = .stopping ∨ x.state = .ended ∨ x.state = .fault →
      x.tally.phase = .closing ∨ x.tally.phase = .closed)

/-- The entries of a lane's tally stand in the statuses that its phase allows, no licence twice, each of them
found in the table and used by the lane's show. -/
structure EntriesFit (records : List (Option Licence)) (x : Lane) : Prop where
  absent : x.tally.phase = .absent → x.tally.entries = []
  built : x.tally.phase = .built → ∀ e ∈ x.tally.entries, e.status = .pending
  unreserved : x.tally.phase ≠ .running → x.tally.phase ≠ .closing → ∀ e ∈ x.tally.entries, e.status ≠ .reserved
  nodup : (tallyLicences x.tally).Nodup
  found : ∀ e ∈ x.tally.entries, (findLicence records e.licence).isSome = true ∧
    (x.loaded.map fun sh => sh.reels.any (reelUses e.licence)) = some true

theorem tallyFits_iff (records : List (Option Licence)) (x : Lane) :
    tallyFits records x ↔ phaseFits x ∧ EntriesFit records x :=
  ⟨fun ⟨h1, h2, h3, h4, ha, hb, hu, hn, hf⟩ => ⟨⟨h1, h2, h3, h4⟩, ⟨ha, hb, hu, hn, hf⟩⟩,
    fun ⟨⟨h1, h2, h3, h4⟩, ⟨ha, hb, hu, hn, hf⟩⟩ => ⟨h1, h2, h3, h4, ha, hb, hu, hn, hf⟩⟩

/-- The terms and counts of a licence of which `n` showings are in flight (R85, R86). -/
structure CountsFit (n : Nat) (x : Licence) : Prop where
  inFlight : x.inFlight = n
  allowed : x.allowance ≠ 0 → x.counted + x.inFlight ≤ x.allowance
  notBefore : x.notBefore < 2 ^ 40
  notAfter : x.notAfter < 2 ^ 40

/-- The account of the licences: `licencesOk` but for the phases. -/
structure AccountOk (s : State) : Prop where
  records : recordsDistinct s.licences.records
  keys : keysDistinct s.licences.keys
  counts : ∀ x, some x ∈ s.licences.records → CountsFit (lanesReserving s x.id) x
  clock : s.licences.clock < 2 ^ 40
  entries : ∀ l, EntriesFit s.licences.records (s.lane l)

theorem licencesOk_iff (s : State) : licencesOk s ↔ AccountOk s ∧ ∀ l, phaseFits (s.lane l) := by
  constructor
  · rintro ⟨hr, hk, hx, hc, hl⟩
    have hlane (l : LaneId) := (tallyFits_iff _ _).1 ((everyLane_iff _ s).1 hl l)
    refine ⟨⟨hr, hk, fun x hm => ?_, hc, fun l => (hlane l).2⟩, fun l => (hlane l).1⟩
    obtain ⟨hn, ha, hb, he⟩ := hx x hm
    exact ⟨hn, ha, hb, he⟩
  · rintro ⟨⟨hr, hk, hx, hc, he⟩, hp⟩
    refine ⟨hr, hk, fun x hm => ?_, hc, (everyLane_iff _ s).2 fun l => (tallyFits_iff _ _).2 ⟨hp l, he l⟩⟩
    obtain ⟨hn, ha, hb, he⟩ := hx x hm
    exact ⟨hn, ha, hb, he⟩

/-! ## The ids of the table -/

/-- The ids of the installed licences, in the order of their records. -/
def licenceIds (rs : List (Option Licence)) : List Nat := rs.filterMap fun r => r.map Licence.id

theorem mem_licenceIds {rs : List (Option Licence)} {id : Nat} :
    id ∈ licenceIds rs ↔ ∃ x, some x ∈ rs ∧ x.id = id := by
  simp only [licenceIds, List.mem_filterMap, Option.map_eq_some_iff]
  exact ⟨fun ⟨_, hr, x, hx, hid⟩ => ⟨x, hx ▸ hr, hid⟩, fun ⟨x, hx, hid⟩ => ⟨_, hx, x, rfl, hid⟩⟩

theorem findLicence_isSome_iff {rs : List (Option Licence)} {id : Nat} :
    (findLicence rs id).isSome = true ↔ id ∈ licenceIds rs := by
  rw [mem_licenceIds, Option.isSome_iff_ne_none, ne_eq, findLicence_eq_none_iff]
  simp

theorem licenceIds_map {f : Licence → Licence} (hf : ∀ x, (f x).id = x.id) (rs : List (Option Licence)) :
    licenceIds (rs.map (Option.map f)) = licenceIds rs := by
  rw [licenceIds, List.filterMap_map]
  refine List.filterMap_congr fun r _ => ?_
  cases r with
  | none => rfl
  | some x => exact congrArg some (hf x)

/-- A licence but for its derived state, which the account does not read. -/
def undated (x : Licence) : Licence := { x with state := .clockUnknown }

/-- The records of `rs` as `g` leaves them, but for their derived states, which may be any. -/
def RecordsBecome (g : Licence → Licence) (rs qs : List (Option Licence)) : Prop :=
  qs.map (Option.map undated) = rs.map (Option.map fun x => undated (g x))

theorem RecordsBecome.map (g : Licence → Licence) (rs : List (Option Licence)) :
    RecordsBecome g rs (rs.map (Option.map g)) := by
  rw [RecordsBecome, List.map_map]
  refine List.map_congr_left fun r _ => ?_
  cases r with
  | none => rfl
  | some x => rfl

theorem RecordsBecome.refl (rs : List (Option Licence)) : RecordsBecome id rs rs := rfl

theorem RecordsBecome.ids {g : Licence → Licence} (hg : ∀ x, (g x).id = x.id) {rs qs : List (Option Licence)}
    (h : RecordsBecome g rs qs) : licenceIds qs = licenceIds rs := by
  rw [← licenceIds_map (f := undated) (fun _ => rfl) qs, h, licenceIds_map (f := fun x => undated (g x)) hg]

theorem RecordsBecome.of_mem {g : Licence → Licence} {rs qs : List (Option Licence)} (h : RecordsBecome g rs qs)
    {y : Licence} (hy : some y ∈ qs) : ∃ x, some x ∈ rs ∧ undated (g x) = undated y := by
  have hmem : some (undated y) ∈ rs.map (Option.map fun x => undated (g x)) :=
    h ▸ List.mem_map.2 ⟨some y, hy, rfl⟩
  obtain ⟨r, hr, hx⟩ := List.mem_map.1 hmem
  obtain ⟨x, rfl, hx⟩ := Option.map_eq_some_iff.1 hx
  exact ⟨x, hr, Option.some.inj hx⟩

theorem CountsFit.of_undated {n : Nat} {x y : Licence} (h : undated x = undated y) (k : CountsFit n x) :
    CountsFit n y := by
  have hx : CountsFit n (undated x) := ⟨k.inFlight, k.allowed, k.notBefore, k.notAfter⟩
  rw [h] at hx
  exact ⟨hx.inFlight, hx.allowed, hx.notBefore, hx.notAfter⟩

theorem EntriesFit.of_ids {rs qs : List (Option Licence)} {x : Lane} (h : licenceIds qs = licenceIds rs)
    (k : EntriesFit rs x) : EntriesFit qs x :=
  ⟨k.absent, k.built, k.unreserved, k.nodup, fun e he => by
    obtain ⟨hfound, huses⟩ := k.found e he
    rw [findLicence_isSome_iff, h, ← findLicence_isSome_iff]
    exact ⟨hfound, huses⟩⟩

theorem EntriesFit.of_books {rs : List (Option Licence)} {x y : Lane} (ht : y.tally = x.tally)
    (hl : y.loaded = x.loaded) (h : EntriesFit rs x) : EntriesFit rs y := by
  obtain ⟨ha, hb, hu, hn, hf⟩ := h
  rw [← ht] at ha hb hu hn hf
  rw [← hl] at hf
  exact ⟨ha, hb, hu, hn, hf⟩

/-- The account passes where the records become what `g` makes of them, and the counts of each and the entries
of every lane keep what they owe. -/
theorem AccountOk.of_records {s t : State} (h : AccountOk s) {g : Licence → Licence} (hg : ∀ x, (g x).id = x.id)
    (hr : RecordsBecome g s.licences.records t.licences.records) (hk : t.licences.keys = s.licences.keys)
    (hc : t.licences.clock < 2 ^ 40)
    (hx : ∀ x, some x ∈ s.licences.records → CountsFit (lanesReserving s x.id) x →
      CountsFit (lanesReserving t x.id) (g x))
    (hl : ∀ l, EntriesFit s.licences.records (t.lane l)) : AccountOk t := by
  have hids := hr.ids hg
  refine ⟨?_, hk ▸ h.keys, fun y hy => ?_, hc, fun l => (hl l).of_ids hids⟩
  · show (licenceIds t.licences.records).Nodup
    rw [hids]
    exact h.records
  · obtain ⟨x, hm, he⟩ := hr.of_mem hy
    have hid : x.id = y.id := (hg x).symm.trans (congrArg Licence.id he :)
    exact hid ▸ (hx x hm (h.counts x hm)).of_undated he

/-! ## The lanes that hold a licence reserved -/

theorem holdsReserved_iff {x : Lane} {id : Nat} : holdsReserved x id = true ↔ id ∈ reservedLicences x.tally := by
  simp only [holdsReserved, reservedLicences, List.any_eq_true, List.mem_map, List.mem_filter, Bool.and_eq_true,
    decide_eq_true_iff]
  exact ⟨fun ⟨e, he, hid, hst⟩ => ⟨e, ⟨he, hst⟩, hid⟩, fun ⟨e, ⟨he, hst⟩, hid⟩ => ⟨e, he, hid, hst⟩⟩

/-- 1 where the lane holds the licence reserved. -/
def reserves (x : Lane) (id : Nat) : Nat := if id ∈ reservedLicences x.tally then 1 else 0

theorem lanesReserving_eq (s : State) (id : Nat) :
    lanesReserving s id =
      reserves (s.lane .a) id + reserves (s.lane .b) id + reserves (s.lane .c) id + reserves (s.lane .d) id := by
  have hone (x : Lane) : reserves x id = if holdsReserved x id = true then 1 else 0 := by
    simp only [reserves, holdsReserved_iff]
  have hcons (l : LaneId) (ls : List LaneId) :
      ((l :: ls).filter fun l => holdsReserved (s.lane l) id).length =
        reserves (s.lane l) id + (ls.filter fun l => holdsReserved (s.lane l) id).length := by
    rw [hone, List.filter_cons]
    split
    · rw [List.length_cons, Nat.add_comm]
    · rw [Nat.zero_add]
  rw [lanesReserving, allLanes, hcons, hcons, hcons, hcons, List.filter_nil, List.length_nil]
  omega

theorem lanesReserving_congr {s t : State} (h : ∀ l, (t.lane l).tally = (s.lane l).tally) (id : Nat) :
    lanesReserving t id = lanesReserving s id := by
  simp only [lanesReserving_eq, reserves, h]

/-- A change of one lane changes the count by what that lane reserves. -/
theorem lanesReserving_change {l : LaneId} {s t : State} (ho : ∀ m, m ≠ l → t.lane m = s.lane m) (id : Nat) :
    lanesReserving t id + reserves (s.lane l) id = lanesReserving s id + reserves (t.lane l) id := by
  rw [lanesReserving_eq, lanesReserving_eq]
  cases l
  · rw [ho .b nofun, ho .c nofun, ho .d nofun]; omega
  · rw [ho .a nofun, ho .c nofun, ho .d nofun]; omega
  · rw [ho .a nofun, ho .b nofun, ho .d nofun]; omega
  · rw [ho .a nofun, ho .b nofun, ho .c nofun]; omega

theorem reserves_none {x : Lane} (h : ∀ e ∈ x.tally.entries, e.status ≠ .reserved) (id : Nat) : reserves x id = 0 := by
  refine if_neg fun hm => ?_
  obtain ⟨e, he, _⟩ := List.mem_map.1 hm
  obtain ⟨he, hst⟩ := List.mem_filter.1 he
  exact h e he (of_decide_eq_true hst)

theorem lanesReserving_none {s : State} (h : ∀ l, ∀ e ∈ (s.lane l).tally.entries, e.status ≠ .reserved) (id : Nat) :
    lanesReserving s id = 0 := by
  rw [lanesReserving_eq, reserves_none (h .a), reserves_none (h .b), reserves_none (h .c), reserves_none (h .d)]

/-! ## Changes of the account -/

/-- The records, but for their derived states, the keys and the clock stand. -/
structure TableKept (t u : LicenceTable) : Prop where
  records : RecordsBecome id t.records u.records
  keys : u.keys = t.keys
  clock : u.clock = t.clock

theorem TableKept.refl (t : LicenceTable) : TableKept t t := ⟨rfl, rfl, rfl⟩

theorem TableKept.of_eq {t u : LicenceTable} (h : u = t) : TableKept t u := h ▸ .refl t

theorem TableKept.trans {t u v : LicenceTable} (h : TableKept t u) (k : TableKept u v) : TableKept t v :=
  ⟨k.records.trans h.records, k.keys.trans h.keys, k.clock.trans h.clock⟩

theorem TableKept.evaluateRecord (i : Nat) (t : LicenceTable) : TableKept t (evaluateRecord i t) := by
  refine ⟨?_, rfl, rfl⟩
  show (t.records.modify i _).map (Option.map undated) = t.records.map (Option.map undated)
  refine List.ext_getElem? fun j => ?_
  rw [List.getElem?_map, List.getElem?_modify, List.getElem?_map]
  cases t.records[j]? with
  | none => rfl
  | some r =>
    cases r with
    | none => split <;> rfl
    | some x => split <;> rfl

theorem TableKept.evaluateRecords (t : LicenceTable) : TableKept t (evaluateRecords t) :=
  ⟨RecordsBecome.map (fun x => { x with state := derivedState t.clockValid t.clock x }) t.records, rfl, rfl⟩

/-- The account passes where the table is kept and no lane's tally or show changes. -/
theorem AccountOk.of_kept {s t : State} (hb : TableKept s.licences t.licences)
    (hl : ∀ l, (t.lane l).tally = (s.lane l).tally ∧ (t.lane l).loaded = (s.lane l).loaded) (h : AccountOk s) :
    AccountOk t :=
  h.of_records (fun _ => rfl) hb.records hb.keys (hb.clock ▸ h.clock)
    (fun x _ hx => by rw [lanesReserving_congr fun l => (hl l).1]; exact hx)
    fun l => (h.entries l).of_books (hl l).1 (hl l).2

/-- The account passes where the table is kept and one lane's tally changes with the same entries RESERVED. -/
theorem AccountOk.of_reserved {l : LaneId} {s t : State} (hb : TableKept s.licences t.licences)
    (ho : ∀ m, m ≠ l → t.lane m = s.lane m)
    (hr : ∀ id, id ∈ reservedLicences (t.lane l).tally ↔ id ∈ reservedLicences (s.lane l).tally)
    (he : EntriesFit s.licences.records (s.lane l) → EntriesFit s.licences.records (t.lane l)) (h : AccountOk s) :
    AccountOk t := by
  refine h.of_records (fun _ => rfl) hb.records hb.keys (hb.clock ▸ h.clock) (fun x _ hx => ?_)
    (forall_lane_of_self (P := fun x y => EntriesFit s.licences.records x → EntriesFit s.licences.records y)
      (fun _ => id) he ho · (h.entries _))
  have hcount := lanesReserving_change ho x.id
  simp only [reserves, hr] at hcount
  rw [show lanesReserving t x.id = lanesReserving s x.id from Nat.add_right_cancel hcount]
  exact hx

/-- One licence after the other changed, no id twice. -/
theorem foldl_changeLicence {f : Licence → Licence} (hf : ∀ x, (f x).id = x.id) {ids : List Nat} (hn : ids.Nodup)
    (rs : List (Option Licence)) :
    ids.foldl (fun r id => changeLicence r id f) rs =
      rs.map (Option.map fun x => if x.id ∈ ids then f x else x) := by
  induction ids generalizing rs with
  | nil => simp
  | cons id ids ih =>
    obtain ⟨hni, hn⟩ := List.nodup_cons.1 hn
    rw [List.foldl_cons, ih hn, changeLicence, List.map_map]
    refine List.map_congr_left fun r _ => ?_
    cases r with
    | none => rfl
    | some x =>
      refine congrArg some ?_
      by_cases hx : x.id = id
      · subst hx
        simp [hf, hni]
      · simp [hx]

theorem reservedLicences_nil {t : Tally} (h : ∀ e ∈ t.entries, e.status ≠ .reserved) : reservedLicences t = [] := by
  rw [reservedLicences, List.filter_eq_nil_iff.2 fun e he hr => h e he (of_decide_eq_true hr), List.map_nil]

theorem reservedLicences_nodup {t : Tally} (h : (tallyLicences t).Nodup) : (reservedLicences t).Nodup :=
  (List.filter_sublist.map _).nodup h

end Sys2Proof.Machine
end

section
/-! The account of the licences through the life of a tally: the ends of a run, the start of one and a
confirmation (R86, R87, R98 to R104). -/

namespace Sys2Proof.Machine

/-! ## Entries -/

/-- A tally with the same licences in the same order, its entries in statuses that its phase allows. -/
theorem EntriesFit.of_licences {rs : List (Option Licence)} {x y : Lane}
    (ht : tallyLicences y.tally = tallyLicences x.tally) (hl : y.loaded = x.loaded)
    (ha : y.tally.phase = .absent → x.tally.phase = .absent)
    (hb : y.tally.phase = .built → ∀ e ∈ y.tally.entries, e.status = .pending)
    (hu : y.tally.phase ≠ .running → y.tally.phase ≠ .closing → ∀ e ∈ y.tally.entries, e.status ≠ .reserved)
    (h : EntriesFit rs x) : EntriesFit rs y where
  absent hp := by
    have hnil : tallyLicences y.tally = [] := by rw [ht, tallyLicences, h.absent (ha hp), List.map_nil]
    exact List.map_eq_nil_iff.1 hnil
  built := hb
  unreserved := hu
  nodup := ht ▸ h.nodup
  found e he := by
    have hm : e.licence ∈ tallyLicences x.tally := ht ▸ List.mem_map_of_mem he
    obtain ⟨f, hf, hid⟩ := List.mem_map.1 hm
    rw [hl, ← hid]
    exact h.found f hf

theorem EntriesFit.unreserved_of {rs : List (Option Licence)} {x : Lane} (h : EntriesFit rs x)
    (hp : ¬ (x.tally.phase = .running ∨ x.tally.phase = .closing)) : ∀ e ∈ x.tally.entries, e.status ≠ .reserved :=
  h.unreserved (fun hr => hp (.inl hr)) fun hc => hp (.inr hc)

theorem tallyLicences_closedTally (t : Tally) : tallyLicences (closedTally t) = tallyLicences t := by
  rw [tallyLicences, closedTally, List.map_map]
  exact List.map_congr_left fun e _ => by unfold Function.comp releaseEntry; split <;> rfl

theorem closedLane_entriesFit {rs : List (Option Licence)} {x : Lane} (h : EntriesFit rs x) :
    EntriesFit rs (closedLane x) := by
  refine h.of_licences (tallyLicences_closedTally x.tally) ?_ (fun hp => nomatch hp) (fun hp => nomatch hp)
    fun _ _ e he => closedTally_unreserved he
  obtain ⟨k, i, hx⟩ := closedLane_eq x
  rw [hx]

/-! ## The ends of a tally -/

theorem recordsReleased_become {t : Tally} (h : (tallyLicences t).Nodup) (rs : List (Option Licence)) :
    RecordsBecome (fun x => if x.id ∈ reservedLicences t then returnShowing x else x) rs (recordsReleased t rs) := by
  rw [recordsReleased, foldl_changeLicence (f := returnShowing) (fun _ => rfl) (reservedLicences_nodup h)]
  exact .map _ rs

theorem returnShowing_fits {n m : Nat} {x : Licence} (h : CountsFit n x) (hn : m + 1 = n) :
    CountsFit m (returnShowing x) where
  inFlight := by have := h.inFlight; simp only [returnShowing]; omega
  allowed ha := by have := h.allowed ha; simp only [returnShowing]; omega
  notBefore := h.notBefore
  notAfter := h.notAfter

/-- A closed tally returns the showing of each of its RESERVED entries (R86, R102). -/
theorem closeTally_account (l : LaneId) (w : WayClosed) {s : State} (h : AccountOk s) :
    AccountOk (closeTally l w s) := by
  have hself := closeTally_lane l w s
  have ho (m : LaneId) (hm : m ≠ l) : (closeTally l w s).lane m = s.lane m := closeTally_lane_ne w s hm
  refine h.of_records (g := fun x => if x.id ∈ reservedLicences (s.lane l).tally then returnShowing x else x)
    (fun x => by split <;> rfl) ?_ ?_ ?_ (fun x _ hx => ?_)
    (forall_lane_of_self (P := fun x y => EntriesFit s.licences.records x → EntriesFit s.licences.records y)
      (fun _ => id) (by rw [hself]; exact closedLane_entriesFit) ho · (h.entries _))
  · rw [closeTally_licences]
    exact recordsReleased_become (h.entries l).nodup _
  · rw [closeTally_licences]
    rfl
  · rw [closeTally_licences]
    exact h.clock
  · have hcount := lanesReserving_change ho x.id
    rw [hself, reserves_none (x := closedLane (s.lane l)) fun e he => closedTally_unreserved he, reserves] at hcount
    split
    · next hm =>
      rw [if_pos hm] at hcount
      exact returnShowing_fits hx hcount
    · next hm =>
      rw [if_neg hm] at hcount
      rw [show lanesReserving (closeTally l w s) x.id = lanesReserving s x.id from hcount]
      exact hx

theorem checkDrained_account (l : LaneId) {s : State} (h : AccountOk s) : AccountOk (checkDrained l s) := by
  unfold checkDrained
  split
  · exact closeTally_account l .drained h
  · exact h

theorem closeAtOnce_account (l : LaneId) (w : WayClosed) {s : State} (h : AccountOk s) :
    AccountOk (closeAtOnce l w s) := by
  unfold closeAtOnce
  split
  · exact closeTally_account l w h
  · exact h

theorem modLane_ne (l : LaneId) (f : Lane → Lane) (s : State) :
    ∀ m, m ≠ l → (s.modLane l f).lane m = s.lane m := fun _ hm => State.lane_modLane_ne _ _ hm

/-- A tally whose entries stand and that stays open, or becomes so. -/
theorem modTally_account {l : LaneId} {f : Tally → Tally} {s : State}
    (he : (f (s.lane l).tally).entries = (s.lane l).tally.entries)
    (hp : (f (s.lane l).tally).phase = .running ∨ (f (s.lane l).tally).phase = .closing) (h : AccountOk s) :
    AccountOk (modTally l f s) := by
  have hself : (modTally l f s).lane l = { s.lane l with tally := f (s.lane l).tally } :=
    State.lane_modLane_self _ _ _
  refine h.of_reserved (s := s) (.refl _) (modLane_ne l _ s) (fun id => by rw [hself, reservedLicences, he]; rfl) fun k => ?_
  rw [hself]
  refine k.of_licences (congrArg (List.map TallyEntry.licence) he) rfl (fun ha => ?_) (fun hb => ?_) fun hr hc => ?_
  · rcases hp with hp | hp
    · exact nomatch hp.symm.trans ha
    · exact nomatch hp.symm.trans ha
  · rcases hp with hp | hp
    · exact nomatch hp.symm.trans hb
    · exact nomatch hp.symm.trans hb
  · exact absurd hp (not_or.2 ⟨hr, hc⟩)

theorem runEnd_account (l : LaneId) (c : Cause) {s : State} (h : AccountOk s) : AccountOk (runEnd l c s) := by
  unfold runEnd
  split
  · exact checkDrained_account l (modTally_account rfl (.inr rfl) h)
  · exact h

theorem windowTick_account (l : LaneId) {s : State} (h : AccountOk s) : AccountOk (windowTick l s) := by
  unfold windowTick
  split
  · next hp =>
    have hcount : AccountOk (modTally l (fun t => { t with window := t.window + 1 }) s) :=
      modTally_account rfl (.inr hp) h
    dsimp only
    split
    · exact closeTally_account l .expired hcount
    · exact hcount
  · exact h

/-! ## The start of a run (R10, R86) -/

/-- No two records of one id. -/
theorem record_unique {rs : List (Option Licence)} (hd : (licenceIds rs).Nodup) {x y : Licence} (hx : some x ∈ rs)
    (hy : some y ∈ rs) (hid : x.id = y.id) : x = y := by
  induction rs with
  | nil => exact absurd hx List.not_mem_nil
  | cons r rs ih =>
    rcases List.mem_cons.1 hx with rfl | hx'
    · rcases List.mem_cons.1 hy with hy | hy
      · exact (Option.some.inj hy).symm
      · exact absurd (mem_licenceIds.2 ⟨y, hy, hid.symm⟩) (List.nodup_cons.1 hd).1
    · rcases List.mem_cons.1 hy with rfl | hy
      · exact absurd (mem_licenceIds.2 ⟨x, hx', hid⟩) (List.nodup_cons.1 hd).1
      · refine ih ?_ hx' hy
        cases r with
        | none => exact hd
        | some z => exact (List.nodup_cons.1 hd).2

theorem findLicence_of_mem {rs : List (Option Licence)} (hd : recordsDistinct rs) {x : Licence} (hx : some x ∈ rs) :
    findLicence rs x.id = some x := by
  obtain ⟨y, hy⟩ := Option.isSome_iff_exists.1 (findLicence_isSome_iff.2 (mem_licenceIds.2 ⟨x, hx, rfl⟩))
  obtain ⟨hm, hid⟩ := findLicence_some hy
  rw [hy, record_unique hd hm hx hid]

theorem tallyLicences_runningTally (t : Tally) : tallyLicences (runningTally t) = tallyLicences t := by
  rw [tallyLicences, runningTally, List.map_map]
  exact List.map_congr_left fun e _ => by dsimp only [Function.comp]; split <;> rfl

/-- A run reserves every entry of a tally that was built. -/
theorem reservedLicences_runningTally {t : Tally} (h : ∀ e ∈ t.entries, e.status = .pending) :
    reservedLicences (runningTally t) = tallyLicences t := by
  have hall : ∀ e ∈ (runningTally t).entries, decide (e.status = .reserved) = true := fun e he => by
    obtain ⟨f, hf, rfl⟩ := List.mem_map.1 he
    exact decide_eq_true (by rw [if_pos (h f hf)])
  rw [reservedLicences, List.filter_eq_self.2 hall]
  exact tallyLicences_runningTally t

theorem takeShowing_fits {n m : Nat} {x : Licence} (h : CountsFit n x) (hn : m = n + 1)
    (ha : x.counted + x.inFlight < (if x.allowance = 0 then 65535 else x.allowance)) : CountsFit m (takeShowing x) where
  inFlight := by have := h.inFlight; simp only [takeShowing]; omega
  allowed hz := by
    rw [if_neg (by exact hz)] at ha
    simp only [takeShowing]
    omega
  notBefore := h.notBefore
  notAfter := h.notAfter

/-- A tally that was built begins its run with a showing of each licence reserved, where the table grants it. -/
theorem AccountOk.of_start {l : LaneId} {s t : State} (h : AccountOk s) (hp : (s.lane l).tally.phase = .built)
    (hgrant : ∀ e ∈ (s.lane l).tally.entries, ∀ x, findLicence s.licences.records e.licence = some x →
      grants l (s.lane l).link.headId x)
    (hlic : TableKept (reserveAll (tallyLicences (s.lane l).tally) s).licences t.licences)
    (ho : ∀ m, m ≠ l → t.lane m = s.lane m) (ht : (t.lane l).tally = runningTally (s.lane l).tally)
    (hl : (t.lane l).loaded = (s.lane l).loaded) : AccountOk t := by
  have hpend := (h.entries l).built hp
  refine h.of_records (g := fun x => if x.id ∈ tallyLicences (s.lane l).tally then takeShowing x else x)
    (fun x => by split <;> rfl) ?_ hlic.keys (hlic.clock ▸ h.clock) (fun x hm hx => ?_)
    (forall_lane_of_self (P := fun x y => EntriesFit s.licences.records x → EntriesFit s.licences.records y)
      (fun _ => id) (fun k => ?_) ho · (h.entries _))
  · refine hlic.records.trans ?_
    show RecordsBecome _ _ ((tallyLicences (s.lane l).tally).foldl (fun r id => changeLicence r id takeShowing) _)
    rw [foldl_changeLicence (f := takeShowing) (fun _ => rfl) (h.entries l).nodup]
    exact .map _ _
  · have hcount := lanesReserving_change ho x.id
    rw [reserves_none fun e he hr => (nomatch (hpend e he).symm.trans hr), reserves, ht,
      reservedLicences_runningTally hpend] at hcount
    split
    · next hid =>
      rw [if_pos hid] at hcount
      obtain ⟨e, he, hlicence⟩ := List.mem_map.1 hid
      obtain ⟨_, _, _, _, _, hfree⟩ := hgrant e he x (by rw [hlicence]; exact findLicence_of_mem h.records hm)
      exact takeShowing_fits hx hcount hfree
    · next hid =>
      rw [if_neg hid] at hcount
      rw [show lanesReserving t x.id = lanesReserving s x.id from hcount]
      exact hx
  · have hphase : (t.lane l).tally.phase = .running := by rw [ht]; rfl
    exact k.of_licences (by rw [ht]; exact tallyLicences_runningTally _) hl
      (fun ha => nomatch hphase.symm.trans ha) (fun hb => nomatch hphase.symm.trans hb) fun hr => absurd hphase hr

/-! ## A confirmation (R87, R98, R99) -/

theorem commitShowing_fits {n m : Nat} {x : Licence} (h : CountsFit n x) (hn : m + 1 = n) :
    CountsFit m (commitShowing x) where
  inFlight := by have := h.inFlight; simp only [commitShowing]; omega
  allowed ha := by have := h.allowed ha; have := h.inFlight; simp only [commitShowing]; omega
  notBefore := h.notBefore
  notAfter := h.notAfter

theorem showingCounted_become (id : Nat) (t : LicenceTable) :
    RecordsBecome (fun x => if x.id = id then commitShowing x else x) t.records (showingCounted id t).records := by
  have hevaluated : TableKept { t with records := changeLicence t.records id commitShowing } (showingCounted id t) := by
    unfold showingCounted evaluateFirst
    split
    · exact .refl _
    · exact .evaluateRecord _ _
  exact hevaluated.records.trans (RecordsBecome.map _ t.records)

theorem credited_licence (n : TallyEntry) : (credited n).licence = n.licence := by
  unfold credited confirmedEntry
  split <;> rfl

theorem credited_reserved {n : TallyEntry} (h : (credited n).status = .reserved) : n.status = .reserved := by
  unfold credited at h
  split at h
  · next hr => exact hr
  · exact h

theorem credited_pending {n : TallyEntry} (h : n.status = .pending) : credited n = n := by
  unfold credited
  rw [if_neg]
  rw [h]
  exact nofun

theorem tallyLicences_creditedTally (i : Nat) (t : Tally) : tallyLicences (creditedTally i t) = tallyLicences t := by
  refine List.ext_getElem? fun j => ?_
  simp only [tallyLicences, creditedTally, List.getElem?_map, List.getElem?_modify]
  cases t.entries[j]? with
  | none => rfl
  | some n => split <;> simp [credited_licence]

theorem mem_creditedTally {i : Nat} {t : Tally} {e : TallyEntry} (h : e ∈ (creditedTally i t).entries) :
    ∃ n ∈ t.entries, e = n ∨ e = credited n := by
  obtain ⟨j, hj⟩ := List.mem_iff_getElem?.1 h
  simp only [creditedTally, List.getElem?_modify, Option.map_eq_map, Option.map_eq_some_iff] at hj
  obtain ⟨n, hn, rfl⟩ := hj
  refine ⟨n, List.mem_of_getElem? hn, ?_⟩
  split
  · exact .inr rfl
  · exact .inl rfl

theorem creditedTally_entriesFit {rs : List (Option Licence)} {x y : Lane} {i : Nat}
    (ht : y.tally = creditedTally i x.tally) (hl : y.loaded = x.loaded) (h : EntriesFit rs x) : EntriesFit rs y := by
  have hp : y.tally.phase = x.tally.phase := by rw [ht]; rfl
  refine h.of_licences (by rw [ht]; exact tallyLicences_creditedTally i _) hl (fun ha => hp ▸ ha)
    (fun hb e he => ?_) fun hr hc e he => ?_
  · rw [ht] at he
    obtain ⟨n, hn, rfl | rfl⟩ := mem_creditedTally he
    · exact h.built (hp ▸ hb) _ hn
    · rw [credited_pending (h.built (hp ▸ hb) n hn)]
      exact h.built (hp ▸ hb) n hn
  · rw [ht] at he
    rw [hp] at hr hc
    obtain ⟨n, hn, rfl | rfl⟩ := mem_creditedTally he
    · exact h.unreserved hr hc _ hn
    · exact fun hres => h.unreserved hr hc n hn (credited_reserved hres)

theorem mem_reservedLicences {t : Tally} {id : Nat} :
    id ∈ reservedLicences t ↔ ∃ (i : Nat) (n : TallyEntry), t.entries[i]? = some n ∧ n.status = .reserved ∧ n.licence = id := by
  constructor
  · intro h
    obtain ⟨n, hn, hid⟩ := List.mem_map.1 h
    obtain ⟨hn, hr⟩ := List.mem_filter.1 hn
    obtain ⟨i, hi⟩ := List.mem_iff_getElem?.1 hn
    exact ⟨i, n, hi, of_decide_eq_true hr, hid⟩
  · rintro ⟨i, n, hi, hr, hid⟩
    exact List.mem_map.2 ⟨n, List.mem_filter.2 ⟨List.mem_of_getElem? hi, decide_eq_true hr⟩, hid⟩

/-- A confirmation leaves every other entry RESERVED that was, and its own one short of its threshold. -/
theorem mem_reserved_creditedTally {t : Tally} {i : Nat} {n : TallyEntry} (hd : (tallyLicences t).Nodup)
    (hi : t.entries[i]? = some n) (id : Nat) :
    id ∈ reservedLicences (creditedTally i t) ↔
      id ∈ reservedLicences t ∧ (id = n.licence → (credited n).status = .reserved) := by
  have hsame {j : Nat} {m : TallyEntry} (hj : t.entries[j]? = some m) (hid : m.licence = n.licence) : i = j := by
    have hget {k : Nat} {o : TallyEntry} (ho : t.entries[k]? = some o) : (tallyLicences t)[k]? = some o.licence := by
      rw [tallyLicences, List.getElem?_map, ho]; rfl
    exact (List.getElem?_inj (List.getElem?_eq_some_iff.1 (hget hi)).1 hd).1 ((hget hi).trans (hid ▸ (hget hj).symm))
  simp only [mem_reservedLicences, creditedTally, List.getElem?_modify, Option.map_eq_map, Option.map_eq_some_iff]
  constructor
  · rintro ⟨j, _, ⟨m, hj, rfl⟩, hr, hid⟩
    by_cases hij : i = j
    · subst hij
      obtain rfl := Option.some.inj (hi.symm.trans hj)
      rw [if_pos rfl] at hr hid
      exact ⟨⟨i, n, hi, credited_reserved hr, (credited_licence n).symm.trans hid⟩, fun _ => hr⟩
    · rw [if_neg hij] at hr hid
      exact ⟨⟨j, m, hj, hr, hid⟩, fun h => absurd (hsame hj (hid.trans h)) hij⟩
  · rintro ⟨⟨j, m, hj, hr, hid⟩, hn⟩
    by_cases hij : i = j
    · subst hij
      obtain rfl := Option.some.inj (hi.symm.trans hj)
      exact ⟨i, _, ⟨n, hi, if_pos rfl⟩, hn hid.symm, (credited_licence n).trans hid⟩
    · exact ⟨j, _, ⟨m, hj, if_neg hij⟩, hr, hid⟩

theorem creditedTally_idle {t : Tally} {i : Nat} (h : ∀ n, t.entries[i]? = some n → n.status ≠ .reserved) :
    creditedTally i t = t := by
  unfold creditedTally
  cases hi : t.entries[i]? with
  | none => rw [modify_none hi]
  | some n => rw [modify_some hi, credited, if_neg (h n hi), set_same hi]

theorem creditEntry_account (l : LaneId) (i : Nat) {s : State} (h : AccountOk s) : AccountOk (creditEntry l s i) := by
  obtain ⟨hlane, hlic⟩ := creditEntry_to l s i
  have ho : ∀ m, m ≠ l → (creditEntry l s i).lane m = s.lane m := (creditEntry_work l [] s i).rest.1
  have htally : ((creditEntry l s i).lane l).tally = creditedTally i (s.lane l).tally := by rw [hlane]
  have hfit {rs} : EntriesFit rs (s.lane l) → EntriesFit rs ((creditEntry l s i).lane l) :=
    creditedTally_entriesFit htally (by rw [hlane])
  unfold creditedTable at hlic
  by_cases hres : ∃ n, (s.lane l).tally.entries[i]? = some n ∧ n.status = .reserved
  · obtain ⟨n, hi, hr⟩ := hres
    have hmem := mem_reserved_creditedTally (h.entries l).nodup hi
    rw [hi, Option.elim_some] at hlic
    by_cases ht : n.threshold ≤ n.confirmed + 1
    · rw [if_pos ⟨hr, ht⟩] at hlic
      obtain ⟨rs, hbeside⟩ := showingCounted_besides n.licence s.licences
      refine h.of_records (g := fun x => if x.id = n.licence then commitShowing x else x)
        (fun x => by split <;> rfl) (by rw [hlic]; exact showingCounted_become _ _) (by rw [hlic, hbeside])
        (by rw [hlic, hbeside]; exact h.clock) (fun x _ hx => ?_)
        (forall_lane_of_self (P := fun x y => EntriesFit s.licences.records x → EntriesFit s.licences.records y)
          (fun _ => id) hfit ho · (h.entries _))
      have hcounted : (credited n).status ≠ .reserved := by rw [credited_reached hr ht]; exact nofun
      have hcount := lanesReserving_change ho x.id
      simp only [reserves, htally, hmem] at hcount
      split
      · next hid =>
        rw [if_pos (mem_reservedLicences.2 ⟨i, n, hi, hr, hid.symm⟩), if_neg fun hh => hcounted (hh.2 hid)] at hcount
        exact commitShowing_fits hx hcount
      · next hid =>
        simp only [hid, false_imp_iff, and_true] at hcount
        rw [show lanesReserving (creditEntry l s i) x.id = lanesReserving s x.id from Nat.add_right_cancel hcount]
        exact hx
    · rw [if_neg fun hh => ht hh.2] at hlic
      refine h.of_reserved (.of_eq hlic) ho (fun id => ?_) hfit
      rw [htally, hmem]
      exact and_iff_left fun _ => by rw [credited_short hr (by omega)]; exact hr
  · have hidle := creditedTally_idle fun n hi hr => hres ⟨n, hi, hr⟩
    refine h.of_reserved (.of_eq ?_) ho (fun id => by rw [htally, hidle]) hfit
    rw [hlic]
    cases hi : (s.lane l).tally.entries[i]? with
    | none => rfl
    | some n => exact if_neg fun hh => hres ⟨n, hi, hh.1⟩

end Sys2Proof.Machine
end

section
/-! What the invariant of the licences reads of the part, and the work that changes none of it: reports, the
cue scanner (R157 to R161), the evaluation of the records (R77). -/

namespace Sys2Proof.Machine

/-- What the invariant of the licences reads of a lane. -/
def books (x : Lane) : LaneState × Tally × Option Show := (x.state, x.tally, x.loaded)

theorem books_eq_iff {x y : Lane} :
    books y = books x ↔ y.state = x.state ∧ y.tally = x.tally ∧ y.loaded = x.loaded := by
  simp only [books, Prod.mk.injEq]

theorem books_of_bare {x y : Lane} (h : bare y = bare x) : books y = books x :=
  show books (bare y) = books (bare x) by rw [h]

@[simp] theorem books_setIndicatorIf (c : Bool) (i : Indicator) (x : Lane) :
    books (setIndicatorIf c i x) = books x := by cases c <;> rfl

/-- Nothing changes of what the invariant of the licences reads. -/
structure Quiet (s t : State) : Prop where
  table : TableKept s.licences t.licences
  lanes : ∀ l, books (t.lane l) = books (s.lane l)

theorem Quiet.refl (s : State) : Quiet s s := ⟨.refl _, fun _ => rfl⟩

theorem Quiet.trans {s t u : State} (h : Quiet s t) (k : Quiet t u) : Quiet s u :=
  ⟨h.table.trans k.table, fun l => (k.lanes l).trans (h.lanes l)⟩

theorem Quiet.foldl {α : Type} {f : State → α → State} (h : ∀ s a, Quiet s (f s a)) (as : List α) (s : State) :
    Quiet s (as.foldl f s) := foldl_induction (R := Quiet) .refl (fun _ _ _ => .trans) h as s

/-- A change of fields beside the lanes and the Licence Table. -/
theorem Quiet.of_fields {s t : State} (hl : t.lanes = s.lanes) (hb : t.licences = s.licences) : Quiet s t :=
  ⟨.of_eq hb, fun l => by unfold State.lane; rw [hl]⟩

theorem Quiet.modLane {s : State} {l : LaneId} {f : Lane → Lane} (h : books (f (s.lane l)) = books (s.lane l)) :
    Quiet s (s.modLane l f) :=
  ⟨.refl _, forall_lane_of_self (P := fun x y => books y = books x) (fun _ => rfl)
    (by rw [State.lane_modLane_self]; exact h) (modLane_ne l f s)⟩

theorem Quiet.of_reported {s t : State} (h : Reported s t) : Quiet s t :=
  ⟨.of_eq h.licences, fun l => by rw [h.lane l]⟩

theorem Told.quiet {s t : State} (h : Told s t) : Quiet s t := .of_reported h.reported

theorem Quiet.modLicences {f : LicenceTable → LicenceTable} {s : State} (h : TableKept s.licences (f s.licences)) :
    Quiet s (modLicences f s) := ⟨h, fun _ => rfl⟩

theorem Quiet.state {s t : State} (h : Quiet s t) (l : LaneId) : (t.lane l).state = (s.lane l).state :=
  (books_eq_iff.1 (h.lanes l)).1

theorem noteChanges_quiet (s t : State) : Quiet t (noteChanges s t) := .of_fields rfl rfl

theorem writeLaneStatus_quiet (l : LaneId) (s : State) : Quiet s (writeLaneStatus l s) := by
  unfold writeLaneStatus
  split
  · exact ⟨.refl _, fun m => books_of_bare (laneStatusNow_bare l m s)⟩
  · exact .refl s

/-! ## Evaluation -/

theorem evaluateAll_quiet (s : State) : Quiet s (evaluateAll s) :=
  (Quiet.modLicences (.evaluateRecords s.licences)).trans (.of_reported (evaluateAll_reported s))

/-! ## The cue scanner -/

theorem modScanner_quiet (l : LaneId) (f : CueScanner → CueScanner) (s : State) : Quiet s (modScanner l f s) :=
  .modLane rfl

theorem writePart_quiet (l : LaneId) (s : State) (i : Nat) : Quiet s (writePart l s i) := by
  unfold writePart
  split
  · exact .refl s
  · split
    · next h _ => exact Quiet.trans (t := { s with host := h }) (.of_fields rfl rfl) (modScanner_quiet l _ _)
    · exact modScanner_quiet l _ s

theorem writeParts_quiet (l : LaneId) (is : List Nat) (s : State) : Quiet s (writeParts l is s) :=
  .foldl (writePart_quiet l) is s

theorem clearMarks_quiet (l : LaneId) (s : State) : Quiet s (clearMarks l s) :=
  (modScanner_quiet l _ s).trans (writeParts_quiet l _ _)

theorem clearMarksFrom_quiet (l : LaneId) (start : Nat) (s : State) : Quiet s (clearMarksFrom l start s) :=
  (modScanner_quiet l _ s).trans (writeParts_quiet l _ _)

theorem fireCue_quiet (l : LaneId) (p i : Nat) (w : HostWord) (s : State) : Quiet s (fireCue l p i w s) := by
  have hmark : Quiet s (s.modLane l fun x =>
      { x with
        contacts := setContacts w.mask w.value x.contacts
        scanner := setMark i (.fired p w.position) x.scanner }) := .modLane rfl
  exact (hmark.trans (writePart_quiet l _ i)).trans (offer_told _ _).quiet

theorem missCue_quiet (l : LaneId) (p i : Nat) (w : HostWord) (s : State) : Quiet s (missCue l p i w s) := by
  have hraise (u : State) : Quiet u (raise l .cueMissed u) := .modLane rfl
  exact (((modScanner_quiet l _ s).trans (writePart_quiet l _ i)).trans (hraise _)).trans (offer_told _ _).quiet

theorem judgeCue_quiet (l : LaneId) (p n : Nat) (s : State) (e : Nat × HostWord) : Quiet s (judgeCue l p n s e) := by
  unfold judgeCue
  split
  · exact .refl s
  · split
    · exact .refl s
    · split
      · exact fireCue_quiet l p e.1 e.2 s
      · exact missCue_quiet l p e.1 e.2 s

theorem cueScan_quiet (l : LaneId) (p n : Nat) (s : State) : Quiet s (cueScan l p n s) := by
  unfold cueScan
  split
  · exact .refl s
  · split
    · exact modScanner_quiet l _ s
    · exact ((modScanner_quiet l _ s).trans (writeParts_quiet l _ _)).trans (.foldl (judgeCue_quiet l p n) _ _)

end Sys2Proof.Machine
end

section
/-! The invariant of the licences through the changes of a lane's state: the ends of a run, its start, the loading
and emptying of a lane (R2, R5 to R14, R23 to R29, R101 to R104). -/

namespace Sys2Proof.Machine

/-- The invariant of the licences passes from `s` to `t`. -/
def Booked (s t : State) : Prop := licencesOk s → licencesOk t

theorem Booked.refl (s : State) : Booked s s := id

theorem Booked.trans {s t u : State} (h : Booked s t) (k : Booked t u) : Booked s u := k ∘ h

theorem Booked.foldl {α : Type} {f : State → α → State} (h : ∀ s a, Booked s (f s a)) (as : List α) (s : State) :
    Booked s (as.foldl f s) := foldl_induction (R := Booked) .refl (fun _ _ _ => .trans) h as s

/-! ## Phases -/

/-- The phase that a lane's state gives its tally; after the run it may be CLOSING yet. -/
def phaseOf : LaneState → TallyPhase
  | .empty => .absent
  | .loading => .built
  | .ready => .built
  | .armed => .built
  | .playing => .running
  | .held => .running
  | .seeking => .running
  | .stopping => .closed
  | .ended => .closed
  | .fault => .closed

theorem phaseFits_iff (x : Lane) :
    phaseFits x ↔ x.tally.phase = phaseOf x.state ∨ (phaseOf x.state = .closed ∧ x.tally.phase = .closing) := by
  unfold phaseFits
  cases x.state <;> simp [phaseOf, or_comm]

theorem phaseFits.of_eq {x y : Lane} (hs : phaseOf y.state = phaseOf x.state) (ht : y.tally.phase = x.tally.phase)
    (h : phaseFits x) : phaseFits y := by
  rw [phaseFits_iff] at h ⊢
  rw [hs, ht]
  exact h

theorem phaseFits.of_books {x y : Lane} (hb : books y = books x) (h : phaseFits x) : phaseFits y := by
  obtain ⟨hs, ht, _⟩ := books_eq_iff.1 hb
  exact h.of_eq (by rw [hs]) (by rw [ht])

theorem phaseFits_of_over {x : Lane} (hs : phaseOf x.state = .closed)
    (hp : x.tally.phase = .closing ∨ x.tally.phase = .closed) : phaseFits x := by
  rw [phaseFits_iff, hs]
  rcases hp with hp | hp
  · exact .inr ⟨rfl, hp⟩
  · exact .inl hp

/-- A CLOSING tally that is closed still fits. -/
theorem phaseFits_closedLane {x : Lane} (hp : x.tally.phase = .closing) (h : phaseFits x) :
    phaseFits (closedLane x) := by
  rw [phaseFits_iff, hp] at h
  refine phaseFits_of_over ?_ (.inr rfl)
  rw [closedLane_state]
  rcases h with h | ⟨h, _⟩
  · revert h
    cases x.state <;> exact nofun
  · exact h

theorem phaseFits_drainedLane {x : Lane} (h : phaseFits x) : phaseFits (drainedLane x) := by
  unfold drainedLane
  split
  · next hp => exact phaseFits_closedLane hp.1 h
  · exact h

/-- The tally of a lane whose run is on or over. -/
def hasRun (x : Lane) : Prop := phaseOf x.state = .running ∨ phaseOf x.state = .closed

theorem hasRun_of_runs {x : Lane} (h : inRunStates x.state = true) : hasRun x := by
  unfold hasRun
  revert h
  cases x.state <;> simp [inRunStates, phaseOf]

theorem runEndLane_over {c : Cause} {x : Lane} (hr : hasRun x) (h : phaseFits x) :
    (runEndLane c x).tally.phase = .closing ∨ (runEndLane c x).tally.phase = .closed := by
  by_cases hp : x.tally.phase = .running
  · exact (runEndLane_tally hp).1
  · rw [runEndLane, if_neg hp]
    rw [phaseFits_iff] at h
    rcases hr with hr | hr
    · rw [hr] at h
      exact absurd (h.resolve_right fun hh => nomatch hh.1) hp
    · exact h.elim (fun he => .inr (he.trans hr)) fun he => .inl he.2

/-! ## The invariant and its two parts -/

theorem Quiet.booked {s t : State} (h : Quiet s t) : Booked s t := by
  intro hs
  obtain ⟨ha, hp⟩ := (licencesOk_iff s).1 hs
  exact (licencesOk_iff t).2 ⟨ha.of_kept h.table fun l => (books_eq_iff.1 (h.lanes l)).2,
    fun l => (hp l).of_books (h.lanes l)⟩

theorem Told.booked {s t : State} (h : Told s t) : Booked s t := h.quiet.booked

/-- Work of one lane that keeps the account and leaves its tally in the phase of its state. -/
theorem Booked.of_lane {l : LaneId} {s t : State} (ho : ∀ m, m ≠ l → t.lane m = s.lane m)
    (ha : phaseFits (s.lane l) → AccountOk s → AccountOk t) (hp : phaseFits (s.lane l) → phaseFits (t.lane l)) :
    Booked s t := by
  intro hs
  obtain ⟨hacc, hph⟩ := (licencesOk_iff s).1 hs
  exact (licencesOk_iff t).2 ⟨ha (hph l) hacc,
    fun m => forall_lane_of_self (P := fun x y => phaseFits x → phaseFits y) (fun _ => id) hp ho m (hph m)⟩

theorem checkDrained_booked (l : LaneId) (s : State) : Booked s (checkDrained l s) :=
  .of_lane (checkDrained_work l [] s).rest.1 (fun _ => checkDrained_account l)
    (by rw [checkDrained_lane_self]; exact phaseFits_drainedLane)

theorem windowTick_booked (l : LaneId) (s : State) : Booked s (windowTick l s) := by
  refine .of_lane (windowTick_work l [] s).rest.1 (fun _ => windowTick_account l) fun h => ?_
  unfold windowTick
  split
  · next hp =>
    dsimp only
    split
    · rw [closeTally_lane, modTally, State.lane_modLane_self]
      exact phaseFits_closedLane hp h
    · rw [modTally, State.lane_modLane_self]
      exact h
  · exact h

theorem confirmFrame_booked (l : LaneId) (e : Awaiting) (s : State) : Booked s (confirmFrame l e s) := by
  have hcredit (u : State) (i : Nat) : Booked u (creditEntry l u i) :=
    .of_lane (creditEntry_work l [] u i).rest.1 (fun _ => creditEntry_account l i)
      (by rw [(creditEntry_to l u i).1]; exact phaseFits.of_eq rfl rfl)
  unfold confirmFrame
  split
  · exact .foldl hcredit _ s
  · exact .refl s

/-! ## Changes of state -/

theorem changeState_books (l : LaneId) (st : LaneState) (c : Cause) (f : Lane → Lane) (s : State) :
    books ((changeState l st c f s).lane l) = books (f (settleLane st c (s.lane l))) :=
  books_of_bare ((changeState_bare l st c f s).trans rfl)

theorem changeState_ne (l : LaneId) (st : LaneState) (c : Cause) (f : Lane → Lane) (s : State) :
    ∀ m, m ≠ l → (changeState l st c f s).lane m = s.lane m := fun _ hm => changeState_lane_ne st c f s hm

/-- A change of state that leaves the tally and the show of the lane. -/
theorem changeState_account {l : LaneId} {st : LaneState} {c : Cause} {f : Lane → Lane} {s : State}
    (hf : books (f (settleLane st c (s.lane l))) = books (settleLane st c (s.lane l))) (h : AccountOk s) :
    AccountOk (changeState l st c f s) := by
  have hself := (changeState_books l st c f s).trans hf
  exact h.of_kept (.of_eq (changeState_licences l st c f s))
    (forall_lane_of_self (P := fun x y => y.tally = x.tally ∧ y.loaded = x.loaded) (fun _ => ⟨rfl, rfl⟩)
      ⟨(books_eq_iff.1 hself).2.1, (books_eq_iff.1 hself).2.2⟩ (changeState_ne l st c f s))

/-- A change between states of one phase. -/
theorem changeState_booked {l : LaneId} {st : LaneState} {c : Cause} {f : Lane → Lane} {s : State}
    (hf : books (f (settleLane st c (s.lane l))) = books (settleLane st c (s.lane l)))
    (hst : phaseOf st = phaseOf (s.lane l).state) : Booked s (changeState l st c f s) := by
  have hself := (changeState_books l st c f s).trans hf
  obtain ⟨hs, ht, _⟩ := books_eq_iff.1 hself
  exact .of_lane (changeState_ne l st c f s) (fun _ => changeState_account hf)
    (phaseFits.of_eq (by rw [hs]; exact hst) (by rw [ht]; rfl))

theorem enterState_booked {l : LaneId} {st : LaneState} (c : Cause) {s : State}
    (hst : phaseOf st = phaseOf (s.lane l).state) : Booked s (enterState l st c s) := changeState_booked rfl hst

/-- The end of a run: the tally is told of it, then the lane leaves the run, with reports between (R101). -/
theorem runEnd_booked {l : LaneId} {st : LaneState} {c : Cause} (c' : Cause) {s u : State}
    (hr : hasRun (s.lane l)) (hu : Told (runEnd l c s) u) (hst : phaseOf st = .closed) :
    Booked s (enterState l st c' u) := by
  have hlane (m : LaneId) : u.lane m = (runEnd l c s).lane m := hu.reported.lane m
  obtain ⟨hs, ht, _⟩ := books_eq_iff.1 (changeState_books l st c' id u)
  refine .of_lane (l := l) (fun m hm => ?_) (fun _ h => ?_) fun h => ?_
  · rw [enterState, changeState_ne l st c' id u m hm, hlane]
    exact (runEnd_work l [] c s).rest.1 m hm
  · exact changeState_account rfl ((runEnd_account l c h).of_kept hu.quiet.table fun m => by
      rw [hlane]; exact ⟨rfl, rfl⟩)
  · refine phaseFits_of_over (by rw [enterState, hs]; exact hst) ?_
    rw [enterState, ht]
    show (u.lane l).tally.phase = _ ∨ (u.lane l).tally.phase = _
    rw [hlane, runEnd_lane_self]
    exact runEndLane_over hr h

theorem stopLane_booked {l : LaneId} (c : Cause) {s : State} (hr : hasRun (s.lane l)) :
    Booked s (stopLane l c s) := by
  have hstop : Booked s (enterState l .stopping c (runEnd l c s)) := runEnd_booked c hr (.refl _) rfl
  unfold stopLane
  dsimp only
  split
  · exact hstop.trans (enterState_booked c (by rw [enterState_state]; rfl))
  · exact hstop

theorem endNow_booked {l : LaneId} (c : Cause) {s : State} (hr : hasRun (s.lane l)) : Booked s (endNow l c s) := by
  have hmute : Quiet s (s.modLane l muteAtOnce) := .modLane rfl
  refine hmute.booked.trans (runEnd_booked c ?_ (.refl _) rfl)
  rw [State.lane_modLane_self]
  exact hr

theorem emergencyStop_booked (l : LaneId) (s : State) : Booked s (emergencyStop l s) := by
  unfold emergencyStop
  split
  case h_1 h | h_2 h | h_3 h | h_4 h => exact endNow_booked .emergency (hasRun_of_runs (by rw [h]; rfl))
  case h_5 h => exact enterState_booked .emergency (by rw [h]; rfl)
  all_goals exact .refl s

theorem emergencyReaches_booked (l : LaneId) (s : State) : Booked s (emergencyReaches l s) := by
  have hpattern : Quiet s (s.modLane l applyPattern) := .modLane rfl
  unfold emergencyReaches
  split
  · exact emergencyStop_booked l s
  · exact hpattern.booked.trans (emergencyStop_booked l _)

theorem completeShow_booked {l : LaneId} {s : State} (hr : hasRun (s.lane l)) : Booked s (completeShow l s) := by
  have hend {u : State} (h : Told s u) : Booked s (enterState l .ended .complete (runEnd l .complete u)) :=
    h.booked.trans (runEnd_booked .complete (by rw [h.reported.lane l]; exact hr) (.refl _) rfl)
  unfold completeShow
  dsimp only
  split
  · split
    · exact hend (offer_told _ s)
    · exact hend (.refl s)
  · exact hend (.refl s)

theorem faultLane_booked {l : LaneId} (k : PoisonKind) (tr : TrackKind) (f : Nat) {s : State}
    (hr : hasRun (s.lane l)) : Booked s (faultLane l k tr f s) := by
  have hrecord (r : FaultRecord) : Quiet s (s.modLane l fun y => muteAtOnce { y with faultRecord := some r }) :=
    .modLane rfl
  unfold faultLane
  refine (Quiet.booked ?_).trans (runEnd_booked .fault ?_ (offer_told _ _) rfl)
  · exact .modLane rfl
  · rw [State.lane_modLane_self]
    exact hr

/-! ## The start of a run (R10 to R14) -/

theorem startRun_booked {l : LaneId} (c : Cause) {s : State} (hst : phaseOf (s.lane l).state = .built)
    (hn : startRefusal l s = none) : Booked s (startRun l c s) := by
  have hmarks := clearMarks_quiet l (reserveAll (tallyLicences (s.lane l).tally) s)
  obtain ⟨_, htally, hloaded⟩ := books_eq_iff.1 (hmarks.lanes l)
  rw [reserveAll_lane] at htally hloaded
  obtain ⟨hs, ht, hl⟩ := books_eq_iff.1
    (changeState_books l .playing c runLane (clearMarks l (reserveAll (tallyLicences (s.lane l).tally) s)))
  obtain ⟨_, _, _, _, hgrant⟩ := mayStart_of_startRefusal hn
  refine .of_lane (startRun_work (more := partAreas (s.lane l)) c (List.Subset.refl _)).rest.1 (fun hp h => ?_)
    fun _ => ?_
  · rw [phaseFits_iff, hst] at hp
    refine h.of_start (hp.resolve_right fun hh => nomatch hh.1) hgrant
      (hmarks.table.trans (.of_eq (changeState_licences _ _ _ _ _)))
      (startRun_work (more := partAreas (s.lane l)) c (List.Subset.refl _)).rest.1 (ht.trans ?_) (hl.trans ?_)
    · exact congrArg runningTally htally
    · exact hloaded
  · rw [phaseFits_iff, startRun, hs, ht]
    exact .inl rfl

theorem fireStart_booked {l : LaneId} {s : State} (hst : phaseOf (s.lane l).state = .built) :
    Booked s (fireStart l s) := by
  unfold fireStart
  split
  · next h => exact startRun_booked .clockStart hst h
  · exact (offer_told _ s).booked.trans (enterState_booked .clockStart (by rw [offer_lane]; exact hst.symm))

theorem compareArmed_booked (s : State) (l : LaneId) : Booked s (compareArmed s l) := by
  unfold compareArmed
  split
  · next h =>
    have harmed : (s.lane l).state = .armed := of_decide_eq_true (Bool.and_eq_true_iff.1 h).1
    exact fireStart_booked (by rw [harmed]; rfl)
  · exact .refl s

theorem compareAllArmed_booked (s : State) : Booked s (compareAllArmed s) := .foldl compareArmed_booked _ s

/-! ## Loading and emptying a lane (R5 to R9) -/

theorem distinctLicences_nodup {acc : List Nat} (h : acc.Nodup) (ks : List KeyUse) :
    (distinctLicences ks acc).Nodup := by
  induction ks generalizing acc with
  | nil => exact h
  | cons k ks ih =>
    rw [distinctLicences]
    split
    · exact ih h
    · next hn =>
      refine ih (List.nodup_append.2 ⟨h, List.nodup_singleton _, fun a ha b hb hab => hn ?_⟩)
      rw [List.contains_iff_mem, ← List.mem_singleton.1 hb, ← hab]
      exact ha

theorem mem_distinctLicences {ks : List KeyUse} {acc : List Nat} {id : Nat} (h : id ∈ distinctLicences ks acc) :
    id ∈ acc ∨ ∃ k ∈ ks, k.licence = id := by
  induction ks generalizing acc with
  | nil => exact .inl h
  | cons k ks ih =>
    have hlater (hh : ∃ k ∈ ks, k.licence = id) : ∃ j ∈ k :: ks, j.licence = id :=
      hh.imp fun j hj => ⟨List.mem_cons_of_mem k hj.1, hj.2⟩
    rw [distinctLicences] at h
    split at h
    · exact (ih h).imp_right hlater
    · rcases ih h with hm | hm
      · rcases List.mem_append.1 hm with hm | hm
        · exact .inl hm
        · exact .inr ⟨k, List.mem_cons_self, (List.mem_singleton.1 hm).symm⟩
      · exact .inr (hlater hm)

/-- Every licence of a show is used by one of its reels. -/
theorem uses_of_mem_showLicences {reels : List Reel} {id : Nat} (h : id ∈ showLicences reels) :
    reels.any (reelUses id) = true := by
  rcases mem_distinctLicences h with hm | ⟨k, hk, hid⟩
  · exact absurd hm List.not_mem_nil
  · obtain ⟨r, hr, hk⟩ := List.mem_flatMap.1 hk
    exact List.any_eq_true.2 ⟨r, hr, List.any_eq_true.2 ⟨k, hk, decide_eq_true hid⟩⟩

theorem found_of_loadable {s : State} {l : LaneId} {a : Nat} {sh : Show} (h : loadableShow s l a = .ok sh) :
    ∀ id ∈ showLicences sh.reels, (findLicence s.licences.records id).isSome = true := by
  have hadmitted {id : Nat} (hn : ¬ (!((findLicence s.licences.records id).map fun x => admitsLane x l).getD false)
      = true) : (findLicence s.licences.records id).isSome = true := by
    cases hf : findLicence s.licences.records id with
    | none => rw [hf] at hn; exact absurd rfl hn
    | some x => rfl
  unfold loadableShow at h
  split at h
  · cases h
  · split at h
    · cases h
    · dsimp only at h
      split at h
      · cases h
      · next hl =>
        cases h
        unfold licenceRefusal at hl
        split at hl
        · cases hl
        · split at hl
          · cases hl
          · rw [Option.map_eq_none_iff, List.find?_eq_none] at hl
            exact fun id hid => hadmitted (hl id hid)

theorem builtTally_entriesFit {rs : List (Option Licence)} {sh : Show} {x : Lane}
    (ht : x.tally = builtTally rs sh) (hl : x.loaded = some sh)
    (hf : ∀ id ∈ showLicences sh.reels, (findLicence rs id).isSome = true) : EntriesFit rs x := by
  have hentry {e : TallyEntry} (he : e ∈ x.tally.entries) :
      e.status = .pending ∧ e.licence ∈ showLicences sh.reels := by
    rw [ht] at he
    obtain ⟨id, hid, rfl⟩ := List.mem_map.1 he
    exact ⟨rfl, hid⟩
  refine ⟨fun h => ?_, fun _ e he => (hentry he).1, fun _ _ e he => ?_, ?_, fun e he => ⟨hf _ (hentry he).2, ?_⟩⟩
  · rw [ht] at h
    exact nomatch h
  · rw [(hentry he).1]
    exact nofun
  · have hids : tallyLicences x.tally = showLicences sh.reels := by
      rw [ht, tallyLicences, builtTally, List.map_map]
      exact List.map_id _
    rw [hids]
    exact distinctLicences_nodup List.nodup_nil _
  · rw [hl]
    exact congrArg some (uses_of_mem_showLicences (hentry he).2)

theorem books_askReel (reel : Nat) (x : Lane) : books (askReel reel x) = books x := by
  obtain ⟨i, h⟩ := askReel_shape reel x
  rw [h]
  rfl

theorem books_flushTo (reel : Nat) (x : Lane) : books (flushTo reel x) = books x := by
  unfold flushTo
  split <;> rfl

theorem doLoadShow_booked (l : LaneId) (rq : Req) (s : State) : Booked s (doLoadShow l rq s).1 := by
  unfold doLoadShow
  split
  · exact .refl s
  · next hst =>
    have hempty : (s.lane l).state = .empty := Classical.byContradiction fun h => hst (.inl h)
    split
    · exact .refl s
    · next sh hsh =>
      have hbooks := (changeState_books l .loading .request (loadLane s.licences.records sh) s).trans
        (books_askReel 1 _)
      obtain ⟨hs, ht, hl⟩ := books_eq_iff.1 hbooks
      have hfit : EntriesFit s.licences.records
          ((changeState l .loading .request (loadLane s.licences.records sh) s).lane l) :=
        builtTally_entriesFit ht hl (found_of_loadable hsh)
      refine .of_lane (changeState_ne l _ _ _ s) (fun hp h => ?_) fun _ => ?_
      · rw [phaseFits_iff, hempty] at hp
        have habsent : (s.lane l).tally.phase = .absent := hp.resolve_right fun hh => nomatch hh.1
        have hold := (h.entries l).absent habsent
        refine h.of_reserved (.of_eq (changeState_licences _ _ _ _ _)) (changeState_ne l _ _ _ s) (fun id => ?_)
          fun _ => hfit
        rw [reservedLicences_nil (t := (s.lane l).tally) (by rw [hold]; exact fun e he => nomatch he),
          reservedLicences_nil fun e he hr => nomatch (hfit.built (by rw [ht]; rfl) e he).symm.trans hr]
      · rw [phaseFits_iff, hs, ht]
        exact .inl rfl

/-- A tally closed at once, and then replaced with one that reserves nothing (R9, R103, R104). -/
theorem closedAtOnce_booked {l : LaneId} {w : WayClosed} {st : LaneState} {c : Cause} {f : Lane → Lane} {s : State}
    (hfit : ∀ rs, EntriesFit rs (closedAtOnce (s.lane l)) →
      EntriesFit rs (f (settleLane st c (closedAtOnce (s.lane l)))))
    (hp : (f (settleLane st c (closedAtOnce (s.lane l)))).tally.phase =
      phaseOf (f (settleLane st c (closedAtOnce (s.lane l)))).state)
    (hopen : phaseOf (f (settleLane st c (closedAtOnce (s.lane l)))).state = .absent ∨
      phaseOf (f (settleLane st c (closedAtOnce (s.lane l)))).state = .built) :
    Booked s (changeState l st c f (closeAtOnce l w s)) := by
  have hne (m : LaneId) (hm : m ≠ l) : (closeAtOnce l w s).lane m = s.lane m :=
    (closeAtOnce_work l [] w s).rest.1 m hm
  obtain ⟨hs, ht, hl⟩ := books_eq_iff.1 (changeState_books l st c f (closeAtOnce l w s))
  have hclosed := closeAtOnce_lane l w s
  rw [hclosed] at hs ht hl
  have hphase := hp
  rw [← ht, ← hs] at hphase
  refine .of_lane (fun m hm => (changeState_ne l st c f _ m hm).trans (hne m hm)) (fun _ h => ?_)
    fun _ => (phaseFits_iff _).2 (.inl hphase)
  have hacc := closeAtOnce_account l w h
  have hunres : ∀ e ∈ ((closeAtOnce l w s).lane l).tally.entries, e.status ≠ .reserved := by
    refine (hacc.entries l).unreserved_of ?_
    rw [hclosed, closedAtOnce]
    split
    · exact fun hh => hh.elim (fun h => nomatch h) fun h => nomatch h
    · next hn => exact fun hh => hn ((tallyOpen_iff _).2 hh)
  have hnew : EntriesFit (closeAtOnce l w s).licences.records ((changeState l st c f (closeAtOnce l w s)).lane l) :=
    (hfit _ (by rw [← hclosed]; exact hacc.entries l)).of_books ht hl
  refine hacc.of_reserved (.of_eq (changeState_licences _ _ _ _ _)) (changeState_ne l st c f _) (fun id => ?_)
    fun _ => hnew
  rw [reservedLicences_nil hunres, reservedLicences_nil (hnew.unreserved_of ?_)]
  rw [ht, hp]
  rcases hopen with ho | ho
  · rw [ho]; exact fun hh => hh.elim (fun h => nomatch h) fun h => nomatch h
  · rw [ho]; exact fun hh => hh.elim (fun h => nomatch h) fun h => nomatch h

theorem absentTally_entriesFit {rs : List (Option Licence)} {x : Lane} (h : x.tally = absentTally) :
    EntriesFit rs x := by
  have hnil : x.tally.entries = [] := by rw [h]; rfl
  have hno : ∀ e, e ∉ x.tally.entries := fun e he => by rw [hnil] at he; exact nomatch he
  exact ⟨fun _ => hnil, fun _ e he => absurd he (hno e), fun _ _ e he => absurd he (hno e),
    by rw [tallyLicences, hnil]; exact List.nodup_nil, fun e he => absurd he (hno e)⟩

theorem doUnload_booked (l : LaneId) (s : State) : Booked s (doUnload l s).1 := by
  unfold doUnload
  split
  · exact .refl s
  · exact closedAtOnce_booked (fun rs _ => absentTally_entriesFit rfl) rfl (.inl rfl)

theorem doLaneReset_booked (l : LaneId) (s : State) : Booked s (doLaneReset l s).1 :=
  closedAtOnce_booked (fun rs _ => absentTally_entriesFit rfl) rfl (.inl rfl)

theorem rebuiltTally_entriesFit {rs : List (Option Licence)} {x y : Lane} (ht : y.tally = rebuiltTally x.tally)
    (hl : y.loaded = x.loaded) (h : EntriesFit rs x) : EntriesFit rs y := by
  have hpend : ∀ e ∈ y.tally.entries, e.status = .pending := fun e he => by
    rw [ht] at he
    obtain ⟨f, _, rfl⟩ := List.mem_map.1 he
    rfl
  refine h.of_licences ?_ hl (fun ha => ?_) (fun _ => hpend) fun _ _ e he hr => nomatch (hpend e he).symm.trans hr
  · rw [ht, tallyLicences, rebuiltTally, List.map_map]
    rfl
  · rw [ht] at ha
    exact nomatch ha

theorem books_rewindLane (x : Lane) : books (rewindLane x) = (x.state, rebuiltTally x.tally, x.loaded) := by
  obtain ⟨hs, _, hl⟩ := books_eq_iff.1 (books_flushTo 1 x)
  refine (books_askReel 1 _).trans ?_
  exact congrArg₂ (fun st sh => (st, rebuiltTally x.tally, sh)) hs hl

theorem doRewind_booked (l : LaneId) (s : State) : Booked s (doRewind l s).1 := by
  unfold doRewind
  split
  · exact .refl s
  · have hbooks (x : Lane) : books (rewindLane (settleLane .loading .request x)) =
        (.loading, rebuiltTally x.tally, x.loaded) := books_rewindLane _
    have hs (x : Lane) : (rewindLane (settleLane .loading .request x)).state = .loading := congrArg Prod.fst (hbooks x)
    have ht (x : Lane) : (rewindLane (settleLane .loading .request x)).tally = rebuiltTally x.tally :=
      congrArg (fun b => b.2.1) (hbooks x)
    have hl (x : Lane) : (rewindLane (settleLane .loading .request x)).loaded = x.loaded :=
      congrArg (fun b => b.2.2) (hbooks x)
    exact closedAtOnce_booked (fun rs => rebuiltTally_entriesFit (ht _) (hl _)) (by rw [ht, hs]; rfl)
      (.inr (by rw [hs]; rfl))

end Sys2Proof.Machine
end

section
/-! The invariant of the licences through the projector link and the requests of a lane (R3 to R33, R107 to R143). -/

namespace Sys2Proof.Machine

/-! ## The projector link -/

theorem modLink_quiet (l : LaneId) (f : Link → Link) (s : State) : Quiet s (modLink l f s) := .modLane rfl

theorem offerLink_booked (l : LaneId) (ws : List Nat) (s : State) : Booked s (offerLink l ws s) :=
  (offer_told _ s).booked

theorem books_dropUnseen (rest : List Awaiting) (n : Nat) (x : Lane) : books (dropUnseen rest n x) = books x := by
  obtain ⟨k, i, h⟩ := dropUnseen_eq rest n x
  rw [h]
  rfl

theorem books_makeRoom (x : Lane) : books (makeRoom x) = books x := by
  unfold makeRoom
  split
  · exact books_dropUnseen _ _ x
  · rfl

/-- A change of the link, the window looked to at its end (R101). -/
theorem drained_booked {l : LaneId} {f : Lane → Lane} {s : State} (h : books (f (s.lane l)) = books (s.lane l)) :
    Booked s (checkDrained l (s.modLane l f)) :=
  (Quiet.modLane h).booked.trans (checkDrained_booked l _)

theorem departLocked_booked (l : LaneId) (s : State) : Booked s (departLocked l s) :=
  drained_booked (books_dropUnseen _ _ _)

theorem judgeHead_booked (l : LaneId) (prev : Option Word64) (s : State) : Booked s (judgeHead l prev s) := by
  unfold judgeHead
  dsimp only
  split
  · next hr =>
    split
    · exact .refl s
    · exact (offer_told _ s).booked.trans
        (endNow_booked .headChanged (hasRun_of_runs (by rw [offer_lane]; exact hr)))
  · exact .refl s

theorem enterLocked_booked (l : LaneId) (ws : List Nat) (identity : Word64) (s : State) :
    Booked s (enterLocked l ws identity s) := by
  have hlock : Quiet s (s.modLane l (lockLane identity)) := .modLane rfl
  exact (hlock.booked.trans (judgeHead_booked l _ _)).trans (offerLink_booked l ws _)

theorem completeTest_booked (l : LaneId) (s : State) : Booked s (completeTest l s) :=
  (modLink_quiet l _ s).booked.trans (offerLink_booked l _ _)

theorem testBoundary_booked (l : LaneId) (s : State) : Booked s (testBoundary l s) := by
  unfold testBoundary
  dsimp only
  split
  · exact (modLink_quiet l _ s).booked
  · split
    · exact (modLink_quiet l _ s).booked.trans (completeTest_booked l _)
    · exact (modLink_quiet l _ s).booked

theorem sendRecord_booked (l : LaneId) (pic : Picture) (tiles : List TileUpdate) (map : List Nat) (s : State) :
    Booked s (sendRecord l pic tiles map s) := by
  have hsent (u : State) : Quiet u (u.modLane l (afterRecord pic tiles map)) := .modLane rfl
  exact (drained_booked (books_makeRoom _)).trans (hsent _).booked

theorem linkBoundary_booked (l : LaneId) (pic : Picture) (tiles : List TileUpdate) (map : List Nat) (s : State) :
    Booked s (linkBoundary l pic tiles map s) := by
  unfold linkBoundary
  split
  · exact sendRecord_booked l pic tiles map s
  · exact testBoundary_booked l s
  · exact (modLink_quiet l _ s).booked
  · exact (modLink_quiet l _ s).booked

theorem lineFault_booked (l : LaneId) (k : LineFault) (s : State) : Booked s (lineFault l k s) := by
  unfold lineFault
  dsimp only
  refine (modLink_quiet l (noteLine (some k)) s).booked.trans ?_
  split
  · split
    · exact .refl _
    · exact (modLink_quiet l _ _).booked.trans (offerLink_booked l _ _)
  · exact (modLink_quiet l _ _).booked.trans (offerLink_booked l _ _)
  · exact ((departLocked_booked l _).trans (modLink_quiet l _ _).booked).trans (offerLink_booked l _ _)
  · exact (modLink_quiet l _ _).booked.trans (offerLink_booked l _ _)

theorem lineIsGood_booked (l : LaneId) (s : State) : Booked s (lineIsGood l s) := by
  unfold lineIsGood
  dsimp only
  split
  · exact ((modLink_quiet l _ s).trans (modLink_quiet l _ _)).booked.trans (offerLink_booked l _ _)
  · exact (modLink_quiet l _ s).booked

theorem lockGained_booked (l : LaneId) (s : State) : Booked s (lockGained l s) := by
  unfold lockGained
  split
  · exact (modLink_quiet l _ s).booked
  · exact .refl s

theorem lockGone_booked (l : LaneId) (s : State) : Booked s (lockGone l s) := by
  unfold lockGone
  split
  · exact .refl s
  · exact (modLink_quiet l _ s).booked
  · exact ((departLocked_booked l s).trans (modLink_quiet l _ _).booked).trans (offerLink_booked l _ _)
  · exact (modLink_quiet l _ s).booked.trans (offerLink_booked l _ _)

theorem takeIdentity_booked (l : LaneId) (identity : Word64) (s : State) : Booked s (takeIdentity l identity s) := by
  unfold takeIdentity
  dsimp only
  split
  · exact .refl s
  · exact .refl s
  · split
    · exact enterLocked_booked l _ identity s
    · exact .refl s
  · split
    · exact .refl s
    · exact (departLocked_booked l s).trans (enterLocked_booked l _ identity _)

theorem takeShown_booked (l : LaneId) (seq : Nat) (s : State) : Booked s (takeShown l seq s) := by
  have hlate : Quiet s (s.modLane l lateReport) := .modLane rfl
  unfold takeShown
  dsimp only
  split
  · split
    · exact ((Quiet.modLane (books_dropUnseen _ _ _)).booked.trans (confirmFrame_booked l _ _)).trans
        (checkDrained_booked l _)
    · exact hlate.booked
  · exact hlate.booked

theorem startTest_booked (l : LaneId) (n : Nat) (s : State) : Booked s (startTest l n s) :=
  ((departLocked_booked l s).trans (modLink_quiet l _ _).booked).trans (offerLink_booked l _ _)

/-! ## The requests of a lane -/

theorem attemptStart_booked {l : LaneId} {s : State} (hst : (s.lane l).state = .ready) :
    Booked s (attemptStart l s).1 := by
  unfold attemptStart
  split
  · exact .refl s
  · next h => exact startRun_booked .request (by rw [hst]; rfl) h

theorem doStart_booked (l : LaneId) (s : State) : Booked s (doStart l s).1 := by
  unfold doStart
  split
  · exact .refl s
  · next h => exact attemptStart_booked (not_not.1 h)

theorem doStartAt_booked (l : LaneId) (rq : Req) (s : State) : Booked s (doStartAt l rq s).1 := by
  unfold doStartAt
  split
  · exact .refl s
  · split
    · exact .refl s
    · next h =>
      have hst : (s.lane l).state = .ready := not_not.1 h
      split
      · exact .refl s
      · split
        · exact attemptStart_booked hst
        · dsimp only
          exact changeState_booked rfl (by rw [hst]; rfl)

theorem doCancelStart_booked (l : LaneId) (s : State) : Booked s (doCancelStart l s).1 := by
  unfold doCancelStart
  split
  · exact .refl s
  · next h => exact enterState_booked .request (by rw [not_not.1 h]; rfl)

theorem doSetOptions_quiet (l : LaneId) (rq : Req) (s : State) : Quiet s (doSetOptions l rq s).1 := by
  unfold doSetOptions
  split
  · exact .refl s
  · split
    · dsimp only
      exact .modLane rfl
    · exact .refl s

theorem acceptSection_quiet (l : LaneId) (now staged : Sound → Sound) (clamped : Nat) (s : State) :
    Quiet s (acceptSection l now staged clamped s).1 := by
  unfold acceptSection
  dsimp only
  exact .modLane rfl

theorem doWriteSoundMap_quiet (l : LaneId) (rq : Req) (b : List Byte) (s : State) :
    Quiet s (doWriteSoundMap l rq b s).1 := by
  unfold doWriteSoundMap
  split
  · exact .refl s
  · split
    · split
      · exact .refl s
      · exact acceptSection_quiet l _ _ _ s
    · split
      · split
        · exact .refl s
        · exact acceptSection_quiet l _ _ _ s
      · exact .refl s

theorem answerHold_quiet (l : LaneId) (c : Cause) (w : HoldWhen) (s : State) : Quiet s (answerHold l c w s).1 :=
  .modLane rfl

theorem doHold_quiet (l : LaneId) (rq : Req) (s : State) : Quiet s (doHold l rq s).1 := by
  unfold doHold
  dsimp only
  split
  · exact .refl s
  · split
    · exact answerHold_quiet l _ _ s
    · split
      · exact answerHold_quiet l _ _ s
      · exact .refl s

theorem doCancelHold_quiet (l : LaneId) (s : State) : Quiet s (doCancelHold l s).1 := by
  unfold doCancelHold
  split
  · dsimp only
    exact .modLane rfl
  · exact .refl s

theorem doResume_booked (l : LaneId) (s : State) : Booked s (doResume l s).1 := by
  unfold doResume
  split
  · exact .refl s
  · next h =>
    split
    · exact .refl s
    · exact changeState_booked rfl (by rw [not_not.1 h]; rfl)

theorem books_seekLane (reel start : Nat) (x : Lane) : books (seekLane reel start x) = books x :=
  (books_askReel reel _).trans (books_flushTo reel x)

theorem doSeek_booked (l : LaneId) (rq : Req) (s : State) : Booked s (doSeek l rq s).1 := by
  unfold doSeek
  split
  · exact .refl s
  · next h =>
    split
    · exact .refl s
    · next r _ =>
      have hmarks := clearMarksFrom_quiet l r.start s
      exact hmarks.booked.trans
        (changeState_booked (books_seekLane _ _ _) (by rw [hmarks.state l, not_not.1 h]; rfl))

theorem doStop_booked (l : LaneId) (s : State) : Booked s (doStop l s).1 := by
  unfold doStop
  split
  case h_1 h | h_2 h | h_3 h => exact stopLane_booked .operator (hasRun_of_runs (by rw [h]; rfl))
  case h_4 h => exact enterState_booked .request (by rw [h]; rfl)
  all_goals exact .refl s

theorem doSetLevel_quiet (l : LaneId) (rq : Req) (s : State) : Quiet s (doSetLevel l rq s).1 := by
  unfold doSetLevel
  split
  · exact .refl s
  · dsimp only
    exact .modLane rfl

theorem doTestIndicators_quiet (l : LaneId) (s : State) : Quiet s (doTestIndicators l s).1 := .modLane rfl

theorem doLinkTest_booked (l : LaneId) (rq : Req) (s : State) : Booked s (doLinkTest l rq s).1 := by
  unfold doLinkTest
  dsimp only
  split
  · exact .refl s
  · split
    · exact .refl s
    · split
      · exact .refl s
      · split
        · exact .refl s
        · exact startTest_booked l _ s

theorem laneRequest_booked {l : LaneId} {s : State} {kind : Nat} {rq : Req} {b : List Byte} {r : State × Answer}
    (h : laneRequest l kind rq b s = some r) : Booked s r.1 := by
  unfold laneRequest at h
  split at h
  case h_18 => cases h
  all_goals obtain rfl := (Option.some.inj h).symm
  · exact doLoadShow_booked l rq s
  · exact doUnload_booked l s
  · exact doRewind_booked l s
  · exact doLaneReset_booked l s
  · exact (doSetOptions_quiet l rq s).booked
  · exact (doWriteSoundMap_quiet l rq b s).booked
  · exact doStart_booked l s
  · exact doStartAt_booked l rq s
  · exact doCancelStart_booked l s
  · exact (doHold_quiet l rq s).booked
  · exact (doCancelHold_quiet l s).booked
  · exact doResume_booked l s
  · exact doStop_booked l s
  · exact doSeek_booked l rq s
  · exact (doSetLevel_quiet l rq s).booked
  · exact (doTestIndicators_quiet l s).booked
  · exact doLinkTest_booked l rq s

end Sys2Proof.Machine
end

section
/-! The invariant of the licences through the boundary and the tick of a lane (R15 to R29, R149). -/

namespace Sys2Proof.Machine

theorem books_storesAtReelStart (x : Lane) : books (storesAtReelStart x) = books x := by
  obtain ⟨o, w, i, h⟩ := storesAtReelStart_eq x
  rw [h]
  rfl

theorem books_selectActive (sh : Show) (x : Lane) : books (selectActive sh x) = books x := by
  obtain ⟨a, i, h⟩ := selectActive_eq sh x
  rw [h]
  rfl

theorem books_beginBoundary (x : Lane) : books (beginBoundary x) = books x := by
  obtain ⟨i, so, tr, o, h⟩ := beginBoundary_eq x
  rw [h]
  rfl

theorem books_tick (x : Lane) : books (rampGains (endTick x)) = books x := by
  obtain ⟨i, h⟩ := playSamples_eq
    (min (x.sound.tickLen - x.sound.tickPos) (x.sound.periodLen - x.sound.periodPos)) x
  rw [endTick, h]
  rfl

/-! ## The presenting boundary -/

theorem afterAdvance_booked {l : LaneId} (sh : Show) {s : State} (hr : hasRun (s.lane l)) :
    Booked s (afterAdvance l sh s) := by
  unfold afterAdvance
  dsimp only
  split
  · exact completeShow_booked hr
  · split
    · exact stopLane_booked .linkLost hr
    · split
      · exact stopLane_booked .starved hr
      · exact .refl s

theorem presentAhead_quiet (l : LaneId) (sh : Show) (s : State) : Quiet s (presentAhead l sh s) := by
  have hstores (u : State) : Quiet u (u.modLane l fun x => selectActive sh (storesAtReelStart x)) :=
    .modLane ((books_selectActive sh _).trans (books_storesAtReelStart _))
  exact ((journalReelStart_told l s).quiet.trans (hstores _)).trans (.modLane (books_setIndicatorIf _ _ _))

theorem presented_booked (l : LaneId) (sh : Show) (s : State) : Booked s (presented l sh s) := by
  have hsound (u : State) (m a) : Quiet u (u.modLane l (presentSound m a)) := .modLane (books_setIndicatorIf _ _ _)
  exact (((presentAhead_quiet l sh s).booked.trans (linkBoundary_booked l _ _ _ _)).trans (hsound _ _ _).booked).trans
    (cueScan_quiet l _ _ _).booked

theorem presentFrame_booked {l : LaneId} (sh : Show) {s : State} (hst : (s.lane l).state = .playing) :
    Booked s (presentFrame l sh s) := by
  obtain ⟨real, heq⟩ := presentFrame_eq l sh s
  have hadvance : Quiet (presented l sh s) ((presented l sh s).modLane l (advanceLane sh real)) := .modLane rfl
  have hplay : ((presented l sh s).lane l).state = .playing :=
    (presented_cueWork sh (List.Subset.refl _)).state.trans hst
  rw [heq]
  refine ((presented_booked l sh s).trans hadvance.booked).trans (afterAdvance_booked sh (hasRun_of_runs ?_))
  rw [hadvance.state l, hplay]
  rfl

/-! ## The boundary by lane state -/

theorem heldRecord_state (l : LaneId) (s : State) : ((heldRecord l s).lane l).state = (s.lane l).state :=
  (linkBoundary_cueWork l [] blackClosed _ _ s).state

theorem idleRecord_state (l : LaneId) (s : State) : ((idleRecord l s).lane l).state = (s.lane l).state :=
  (linkBoundary_cueWork l [] blackClosed _ _ s).state

theorem playingBoundary_booked {l : LaneId} {s : State} (hst : (s.lane l).state = .playing) :
    Booked s (playingBoundary l s) := by
  have hheld : Booked s (heldRecord l s) := linkBoundary_booked l _ _ _ s
  have hstate := (heldRecord_state l s).trans hst
  have hrun : hasRun ((heldRecord l s).lane l) := hasRun_of_runs (by rw [hstate]; rfl)
  unfold playingBoundary
  dsimp only
  split
  · unfold holdBoundary
    split
    · exact hheld.trans (stopLane_booked .linkLost hrun)
    · exact hheld.trans (changeState_booked rfl (by rw [hstate]; rfl))
  · split
    · exact hheld.trans (faultLane_booked _ _ _ hrun)
    · exact presentFrame_booked _ hst
    · exact .refl s

theorem loadingBoundary_booked {l : LaneId} {s : State} (hst : (s.lane l).state = .loading) :
    Booked s (loadingBoundary l s) := by
  have hflag : Quiet (idleRecord l s)
      ((idleRecord l s).modLane l fun x => { x with waitingLicence := waitsForLicence s x }) := .modLane rfl
  have hidle := (linkBoundary_booked l _ _ _ s : Booked s (idleRecord l s)).trans hflag.booked
  unfold loadingBoundary
  dsimp only
  split
  · refine hidle.trans (enterState_booked .primed ?_)
    rw [hflag.state l, idleRecord_state, hst]
    rfl
  · exact hidle

/-- The boundary of a held lane up to its limit: the BLACK record and the hold limit timer (R26, R115). -/
theorem advanceHold_booked (l : LaneId) (s : State) :
    Booked s ((idleRecord l s).modLane l advanceHold) ∧
      (((idleRecord l s).modLane l advanceHold).lane l).state = (s.lane l).state := by
  have htimer : Quiet (idleRecord l s) ((idleRecord l s).modLane l advanceHold) := .modLane rfl
  exact ⟨(linkBoundary_booked l _ _ _ s).trans htimer.booked, (htimer.state l).trans (idleRecord_state l s)⟩

theorem heldBoundary_booked {l : LaneId} {s : State} (hst : (s.lane l).state = .held) :
    Booked s (heldBoundary l s) := by
  obtain ⟨hadvance, hstate⟩ := advanceHold_booked l s
  unfold heldBoundary
  dsimp only
  split
  · exact hadvance.trans (stopLane_booked .holdExpired (hasRun_of_runs (by rw [hstate, hst]; rfl)))
  · exact hadvance

theorem seekingBoundary_booked {l : LaneId} {s : State} (hst : (s.lane l).state = .seeking) :
    Booked s (seekingBoundary l s) := by
  obtain ⟨hadvance, hstate⟩ := advanceHold_booked l s
  unfold seekingBoundary
  dsimp only
  split
  · exact hadvance.trans (stopLane_booked .holdExpired (hasRun_of_runs (by rw [hstate, hst]; rfl)))
  · split
    · exact hadvance.trans (enterState_booked .primed (by rw [hstate, hst]; rfl))
    · exact hadvance

theorem boundaryWork_booked (l : LaneId) (s : State) : Booked s (boundaryWork l s) := by
  unfold boundaryWork
  split
  case h_1 h => exact playingBoundary_booked h
  case h_2 h => exact loadingBoundary_booked h
  case h_3 h => exact heldBoundary_booked h
  case h_4 h => exact seekingBoundary_booked h
  all_goals exact linkBoundary_booked l _ _ _ s

theorem boundaryStatus_quiet (l : LaneId) (s t : State) : Quiet t (boundaryStatus l s t) :=
  ⟨.of_eq (boundaryStatus_licences l s t), fun m => by
    by_cases hm : m = l
    · subst hm
      exact books_of_bare (boundaryStatus_bare m s t)
    · rw [(boundaryStatus_work l [] s t).rest.1 m hm]⟩

theorem boundaryBody_booked (l : LaneId) (s : State) : Booked s (boundaryBody l s) := by
  have hbegin : Quiet s (s.modLane l beginBoundary) := .modLane (books_beginBoundary _)
  have hroll (u : State) : Quiet u (u.modLane l rollPeriod) := .modLane rfl
  exact ((hbegin.booked.trans (windowTick_booked l _)).trans (boundaryWork_booked l _)).trans (hroll _).booked

theorem tickLane_booked (l : LaneId) (s : State) : Booked s (tickLane l s) := by
  have hramp : Quiet s (s.modLane l fun x => rampGains (endTick x)) := .modLane (books_tick _)
  unfold tickLane
  dsimp only
  split
  · exact .refl s
  · split
    · next h => exact hramp.booked.trans (enterState_booked _ (by rw [h.1]; rfl))
    · exact hramp.booked

end Sys2Proof.Machine
end

section
/-! The invariant of the licences through the requests of the Licence Table, the booth clock and the resets
(R73, R75, R77 to R93). -/

namespace Sys2Proof.Machine

/-! ## Lists of records and key slots -/

theorem filterMap_set_free {α : Type} (f : α → Nat) {xs : List (Option α)} {i : Nat} (h : xs[i]? = some none) (v : α) :
    ((xs.set i (some v)).filterMap (Option.map f)).Perm (f v :: xs.filterMap (Option.map f)) := by
  obtain ⟨hi, hget⟩ := List.getElem?_eq_some_iff.1 h
  have hxs : xs = xs.take i ++ none :: xs.drop (i + 1) := by
    rw [← hget, List.getElem_cons_drop, List.take_append_drop]
  rw [List.set_eq_take_append_cons_drop, if_pos hi, List.filterMap_append, List.filterMap_cons_some (f := Option.map f) (b := f v) rfl]
  refine List.perm_middle.trans (.cons _ (.of_eq ?_))
  conv_rhs => rw [hxs, List.filterMap_append, List.filterMap_cons_none (f := Option.map f) rfl]

theorem filterMap_set_same {α : Type} (f : α → Nat) {xs : List (Option α)} {i : Nat} {x : α} (h : xs[i]? = some (some x))
    {v : α} (hv : f v = f x) : (xs.set i (some v)).filterMap (Option.map f) = xs.filterMap (Option.map f) := by
  obtain ⟨hi, hget⟩ := List.getElem?_eq_some_iff.1 h
  have hxs : xs = xs.take i ++ some x :: xs.drop (i + 1) := by
    rw [← hget, List.getElem_cons_drop, List.take_append_drop]
  rw [List.set_eq_take_append_cons_drop, if_pos hi, List.filterMap_append, List.filterMap_cons_some (f := Option.map f) (b := f v) rfl, hv]
  conv_rhs => rw [hxs, List.filterMap_append, List.filterMap_cons_some (f := Option.map f) (b := f x) rfl]

/-- Places freed leave the rest in their order. -/
theorem filterMap_freed_sublist {α : Type} (f : α → Nat) (p : α → Bool) (xs : List (Option α)) :
    ((xs.map (Option.filter p)).filterMap (Option.map f)).Sublist (xs.filterMap (Option.map f)) := by
  induction xs with
  | nil => exact List.Sublist.slnil
  | cons x xs ih =>
    cases x with
    | none => exact ih
    | some v =>
      rw [List.map_cons, List.filterMap_cons_some (f := Option.map f) (a := some v) (b := f v) rfl, Option.filter_some]
      split
      · rw [List.filterMap_cons_some (f := Option.map f) (b := f v) rfl]
        exact ih.cons_cons (f v)
      · exact ih.cons (f v)

theorem findKey_eq_none {keys : List (Option KeySlot)} {i : Nat} (h : ¬ (findKey 0 keys i).isSome = true) :
    i ∉ keys.filterMap (Option.map KeySlot.keyId) := by
  intro hm
  obtain ⟨k, hk, hid⟩ := List.mem_filterMap.1 hm
  obtain ⟨v, rfl, hv⟩ := Option.map_eq_some_iff.1 hid
  rw [findKey_isSome] at h
  exact h (List.any_eq_true.2 ⟨some v, hk, decide_eq_true hv⟩)

/-- Keys of no slot placed one after the other, none of them twice. -/
theorem placeKeys_distinct {id : Nat} {device : BitVec 128} (ks : List (Nat × BitVec 128))
    {keys : List (Option KeySlot)} (hd : keysDistinct keys) (hk : (ks.map Prod.fst).Nodup)
    (hn : ∀ i ∈ ks.map Prod.fst, i ∉ keys.filterMap (Option.map KeySlot.keyId)) :
    keysDistinct (placeKeys id device ks keys).1 := by
  induction ks generalizing keys with
  | nil => exact hd
  | cons k ks ih =>
    obtain ⟨hnot, hks⟩ := List.nodup_cons.1 hk
    unfold placeKeys
    split
    · exact hd
    · next j hj =>
      have hperm := filterMap_set_free KeySlot.keyId (freeIndex_some hj) ⟨k.1, id, Config.unwrapKey device k.2⟩
      refine ih ?_ hks fun i hi hm => ?_
      · exact hperm.nodup_iff.2 (List.nodup_cons.2 ⟨hn k.1 List.mem_cons_self, hd⟩)
      · rcases List.mem_cons.1 (hperm.mem_iff.1 hm) with he | hm
        · exact hnot ((show i = k.1 from he) ▸ hi)
        · exact hn i (List.mem_cons_of_mem _ hi) hm

/-! ## Install Licence (R78 to R80) -/

/-- A licence that no lane refers to, or that the table does not hold, stands in no tally (R81). -/
theorem licence_in_no_tally {s : State} (h : AccountOk s) (hp : ∀ l, phaseFits (s.lane l)) {id : Nat}
    (hn : referencedBy s id = none ∨ findLicence s.licences.records id = none) (l : LaneId) :
    ∀ e ∈ (s.lane l).tally.entries, e.licence ≠ id := by
  intro e he hid
  obtain ⟨hfound, huses⟩ := (h.entries l).found e he
  rw [hid] at hfound huses
  rcases hn with hn | hn
  · rw [referencedBy, List.find?_eq_none] at hn
    have hstate : (s.lane l).state ≠ .empty := fun hempty => by
      rw [(h.entries l).absent ((hp l).1 hempty)] at he
      exact nomatch he
    refine hn l (by cases l <;> decide) (Bool.and_eq_true_iff.2 ⟨decide_eq_true hstate, ?_⟩)
    rw [huses]
    rfl
  · rw [hn] at hfound
    exact nomatch hfound

theorem lanesReserving_unused {s : State} {id : Nat} (h : ∀ l, ∀ e ∈ (s.lane l).tally.entries, e.licence ≠ id) :
    lanesReserving s id = 0 := by
  have hlane (l : LaneId) : reserves (s.lane l) id = 0 := if_neg fun hm => by
    obtain ⟨e, he, hid⟩ := List.mem_map.1 hm
    exact h l e (List.mem_filter.1 he).1 hid
  rw [lanesReserving_eq, hlane, hlane, hlane, hlane]

/-- What a package may take the place of (R78, tests 3 to 5). -/
theorem replaced_of_none {s : State} {k : Package} (h : replaceRefusal s k = none) :
    (referencedBy s k.id = none ∨ findLicence s.licences.records k.id = none) ∧
      (k.allowance = 0 ∨ countedBefore k s.licences ≤ k.allowance) := by
  cases hx : findLicence s.licences.records k.id with
  | none => exact ⟨.inr rfl, .inr (by rw [countedBefore, hx]; exact Nat.zero_le _)⟩
  | some x =>
    have hr : referencedBy s k.id = none := Classical.byContradiction fun hr => by
      by_cases hi : k.issue ≤ x.issue
      · rw [replaceRefusal_issue hx hi] at h; exact nomatch h
      · rw [replaceRefusal_inUse hx (not_le.1 hi) hr] at h; exact nomatch h
    refine ⟨.inl hr, ?_⟩
    by_cases ha : k.allowance = 0
    · exact .inl ha
    · refine .inr (Classical.byContradiction fun hc => ?_)
      rw [countedBefore, hx] at hc
      by_cases hi : k.issue ≤ x.issue
      · rw [replaceRefusal_issue hx hi] at h; exact nomatch h
      · rw [replaceRefusal_count hx (not_le.1 hi) hr ha (not_le.1 hc)] at h; exact nomatch h

/-- The place of an installation is free and no place holds the id, or it holds the id. -/
theorem installIndex_held {t : LicenceTable} {k : Package} (h : hasRoom t k) :
    (t.records[installIndex t k.id]? = some none ∧ k.id ∉ licenceIds t.records) ∨
      ∃ x, t.records[installIndex t k.id]? = some (some x) ∧ x.id = k.id := by
  cases hrec : recordIndex 0 t.records k.id with
  | some i =>
    obtain ⟨x, _, hid, hget⟩ := findLicence_at hrec
    refine .inr ⟨x, ?_, hid⟩
    rw [installIndex, hrec]
    exact hget
  | none =>
    have hno := recordIndex_none_iff.1 hrec
    obtain ⟨i, hi⟩ := Option.isSome_iff_exists.1
      (freeIndex_isSome.2 (h.1.resolve_left (by rw [hno]; exact Bool.false_ne_true)))
    refine .inl ⟨?_, fun hm => ?_⟩
    · rw [installIndex, hrec, hi]
      exact freeIndex_some hi
    · rw [← findLicence_isSome_iff, hno] at hm
      exact nomatch hm

theorem installed_distinct {t : LicenceTable} {k : Package} (h : hasRoom t k) (hd : recordsDistinct t.records) :
    recordsDistinct (installInto k (stateOf k t) t).records := by
  rw [installInto_records]
  rcases installIndex_held h with ⟨hfree, hno⟩ | ⟨x, hx, hid⟩
  · exact (filterMap_set_free Licence.id hfree (installedRecord k t)).nodup_iff.2 (List.nodup_cons.2 ⟨hno, hd⟩)
  · show (((t.records.set (installIndex t k.id) (some (installedRecord k t))).filterMap (Option.map Licence.id))).Nodup
    rw [filterMap_set_same Licence.id hx (v := installedRecord k t) hid.symm]
    exact hd

theorem installed_account {s : State} {b : List Byte} {agrees : Bool} (hno : installRefusal s b agrees = none)
    (h : AccountOk s) (hp : ∀ l, phaseFits (s.lane l)) :
    AccountOk (modLicences (fun t => installInto (packageOf b) (stateOf (packageOf b) t) t) s) := by
  obtain ⟨_, hterms, hreplace, hdup, hroom⟩ := installRefusal_none hno
  obtain ⟨hunused, hcount⟩ := replaced_of_none hreplace
  have hentry := licence_in_no_tally h hp hunused
  refine ⟨installed_distinct hroom h.records, ?_, fun x hx => ?_, h.clock, fun l => ?_⟩
  · have hkeys : ((packageOf b).keys.map Prod.fst).Nodup := by
      rw [← termsOk_iff, termsOk] at hterms
      exact (noRepeats_iff _).1 (Bool.and_eq_true_iff.1 hterms).2
    refine placeKeys_distinct _ ((filterMap_freed_sublist KeySlot.keyId _ _).nodup h.keys) hkeys fun i hi => ?_
    rw [duplicateKey, List.find?_eq_none] at hdup
    exact findKey_eq_none (hdup i hi)
  · rcases List.mem_or_eq_of_mem_set hx with hm | heq
    · exact h.counts x hm
    · obtain rfl := Option.some.inj heq
      refine ⟨(lanesReserving_unused hentry).symm, fun ha => ?_, Nat.mod_lt _ (by decide), Nat.mod_lt _ (by decide)⟩
      exact hcount.resolve_left ha
  · refine ⟨(h.entries l).absent, (h.entries l).built, (h.entries l).unreserved, (h.entries l).nodup, fun e he => ?_⟩
    obtain ⟨hfound, huses⟩ := (h.entries l).found e he
    refine ⟨?_, huses⟩
    show (findLicence (installInto (packageOf b) (stateOf (packageOf b) s.licences) s.licences).records e.licence).isSome =
      true
    rw [installed_others hroom (hentry l e he)]
    exact hfound

theorem doInstall_booked (b : List Byte) (agrees : Bool) (s : State) : Booked s (doInstall b agrees s).1 := by
  cases hno : installRefusal s b agrees with
  | some a =>
    rw [doInstall_refused hno]
    exact .refl s
  | none =>
    obtain ⟨t, hdo, hrep⟩ := doInstall_installs hno
    rw [hdo]
    refine Booked.trans (fun hs => ?_) (Quiet.of_reported hrep).booked
    obtain ⟨h, hp⟩ := (licencesOk_iff s).1 hs
    exact (licencesOk_iff _).2 ⟨installed_account hno h hp, hp⟩

/-! ## Remove Licence, Factory Clear (R81, R91, R93) -/

theorem doRemove_booked (rq : Req) (s : State) : Booked s (doRemove rq s).1 := by
  unfold doRemove
  split
  · exact .refl s
  · next x hx =>
    split
    · exact .refl s
    · next hr =>
      have hremove : Booked s (modLicences (removeFrom x.id) s) := fun hs => by
        obtain ⟨h, hp⟩ := (licencesOk_iff s).1 hs
        refine (licencesOk_iff _).2 ⟨⟨?_, ?_, fun y hy => ?_, h.clock, fun l => ?_⟩, hp⟩
        · exact (filterMap_freed_sublist Licence.id _ _).nodup h.records
        · exact (filterMap_freed_sublist KeySlot.keyId _ _).nodup h.keys
        · obtain ⟨r, hm, hf⟩ := List.mem_map.1 hy
          obtain ⟨rfl, _⟩ := Option.filter_eq_some_iff.1 hf
          exact h.counts y hm
        · have hentry := licence_in_no_tally h hp (id := x.id) (.inl (by rw [(findLicence_some hx).2]; exact hr)) l
          refine ⟨(h.entries l).absent, (h.entries l).built, (h.entries l).unreserved, (h.entries l).nodup,
            fun e he => ?_⟩
          obtain ⟨hfound, huses⟩ := (h.entries l).found e he
          exact ⟨by rw [modLicences_licences, findLicence_removeFrom_ne (hentry e he)]; exact hfound, huses⟩
      exact hremove.trans ((offer_told _ _).trans (writeDeviceStatus_told _)).booked

/-- The lanes and the clock stand. -/
def lanesAndClockKept (s t : State) : Prop := (∀ l, t.lane l = s.lane l) ∧ t.licences.clock = s.licences.clock

theorem removeLicence_kept (s : State) (x : Licence) : lanesAndClockKept s (removeLicence s x) := by
  unfold removeLicence
  exact ⟨fun l => offer_lane _ _ l, by rw [offer_licences]; rfl⟩

theorem removeLicences_kept (xs : List Licence) (s : State) : lanesAndClockKept s (xs.foldl removeLicence s) :=
  foldl_induction (R := lanesAndClockKept) (fun _ => ⟨fun _ => rfl, rfl⟩)
    (fun _ _ _ ⟨hl, hc⟩ ⟨kl, kc⟩ => ⟨fun l => (kl l).trans (hl l), kc.trans hc⟩)
    removeLicence_kept xs s

/-- A table without records and keys, beside lanes whose tallies hold no entry. -/
theorem account_of_empty {s : State} (hr : ∀ r ∈ s.licences.records, r = none) (hk : ∀ k ∈ s.licences.keys, k = none)
    (hc : s.licences.clock < 2 ^ 40) (he : ∀ l, EntriesFit s.licences.records (s.lane l)) : AccountOk s where
  records := by
    rw [recordsDistinct, List.filterMap_eq_nil_iff.2 fun r hm => by rw [hr r hm]; rfl]
    exact List.nodup_nil
  keys := by
    rw [keysDistinct, List.filterMap_eq_nil_iff.2 fun k hm => by rw [hk k hm]; rfl]
    exact List.nodup_nil
  counts x hx := nomatch hr _ hx
  clock := hc
  entries := he

theorem doFactoryClear_booked (s : State) : Booked s (doFactoryClear s).1 := by
  unfold doFactoryClear
  split
  · exact .refl s
  · split
    · exact .refl s
    · next hnone =>
      have hempty (l : LaneId) : (s.lane l).state = .empty := by
        rw [lowestLoaded, List.find?_eq_none] at hnone
        exact Classical.byContradiction fun hn => hnone l (by cases l <;> decide) (decide_eq_true hn)
      obtain ⟨hlane, hclock⟩ := removeLicences_kept (licencesById s.licences.records) s
      have hclear : Booked s (modLicences clearTable ((licencesById s.licences.records).foldl removeLicence s)) :=
        fun hs => by
          obtain ⟨h, hp⟩ := (licencesOk_iff s).1 hs
          refine (licencesOk_iff _).2 ⟨account_of_empty (fun r hr => ?_) (fun k hk => ?_) (hclock ▸ h.clock)
            fun l => ?_, fun l => ?_⟩
          · obtain ⟨_, _, rfl⟩ := List.mem_map.1 hr; rfl
          · obtain ⟨_, _, rfl⟩ := List.mem_map.1 hk; rfl
          · have hnil := (h.entries l).absent ((hp l).1 (hempty l))
            rw [modLicences_lane, hlane]
            exact ⟨(h.entries l).absent, (h.entries l).built, (h.entries l).unreserved, (h.entries l).nodup,
              fun e he => by rw [hnil] at he; exact nomatch he⟩
          · rw [modLicences_lane, hlane]
            exact hp l
      exact hclear.trans ((clockEntry_told _ _).trans (writeDeviceStatus_told _)).booked

/-! ## The booth clock (R77, R88 to R90) -/

/-- A change of the clock within its range. -/
theorem clock_booked {f : LicenceTable → LicenceTable} {s : State} (hr : (f s.licences).records = s.licences.records)
    (hk : (f s.licences).keys = s.licences.keys) (hc : s.licences.clock < 2 ^ 40 → (f s.licences).clock < 2 ^ 40) :
    Booked s (modLicences f s) := fun hs => by
  obtain ⟨h, hp⟩ := (licencesOk_iff s).1 hs
  refine (licencesOk_iff _).2 ⟨h.of_records (fun _ => rfl) ?_ hk (hc h.clock) (fun _ _ hx => hx) h.entries, hp⟩
  rw [modLicences_licences, hr]
  exact .refl _

theorem clearLost_quiet (s : State) : Quiet s (clearLost s) := by
  have hflag : Quiet s (modLicences (fun t => { t with retainedLost := false }) s) := .modLicences ⟨.refl _, rfl, rfl⟩
  unfold clearLost
  split
  · exact hflag.trans (setAttention_told _ _).quiet
  · exact .refl s

theorem clockChanged_booked (ws : List Nat) (s : State) : Booked s (clockChanged ws s) :=
  ((evaluateAll_quiet s).booked.trans (compareAllArmed_booked _)).trans
    ((offer_told _ _).trans (writeDeviceStatus_told _)).booked

theorem doSetClock_booked (rq : Req) (s : State) : Booked s (doSetClock rq s).1 := by
  have hset {v : Nat} (hv : ¬ Config.clockMax < v) :
      Booked s (modLicences (fun t => { t with clock := v, clockValid := true }) s) :=
    clock_booked rfl rfl fun _ => by
      simp only [Config.clockMax] at hv ⊢
      omega
  unfold doSetClock
  dsimp only
  split
  · exact .refl s
  · next hv =>
    split
    · exact .refl s
    · dsimp only
      exact (hset hv).trans ((clearLost_quiet _).booked.trans (clockChanged_booked _ _))

theorem adjustTable_clock (delta : Int) (t : LicenceTable) : (adjustTable delta t).clock < 2 ^ 40 := by
  simp only [adjustTable, appliedDelta, clampInt, Config.clockMax]
  omega

theorem doAdjustClock_booked (rq : Req) (s : State) : Booked s (doAdjustClock rq s).1 := by
  have hadjust (delta : Int) : Booked s (modLicences (adjustTable delta) s) :=
    clock_booked rfl rfl fun _ => adjustTable_clock _ _
  unfold doAdjustClock
  dsimp only
  split
  · exact .refl s
  · split
    · exact .refl s
    · dsimp only
      exact (hadjust _).trans (clockChanged_booked _ _)

theorem tickSecond_booked (s : State) : Booked s (tickSecond s) := by
  have hclock : Booked s (modLicences (fun t => { t with clock := min Config.clockMax (t.clock + 1) }) s) :=
    clock_booked rfl rfl fun _ => by simp only [Config.clockMax]; omega
  exact (((hclock.trans (gapCheck_told _).booked).trans (evaluateAll_quiet _).booked).trans
    (compareAllArmed_booked _)).trans (writeDeviceStatus_told _).booked

/-! ## Resets (R73) -/

theorem bootState_booked {boot : Lane → Lane} {c : ClockUnit} {t : LicenceTable} {s : State}
    (hboot : ∀ x, (boot x).state = .empty ∧ (boot x).tally = absentTally)
    (ht : AccountOk s → (∀ l, ((booted boot c t s).lane l).tally = absentTally) → AccountOk (booted boot c t s)) :
    Booked s (bootState boot c t s) := by
  have htally (l : LaneId) : ((booted boot c t s).lane l).tally = absentTally := by
    rw [booted_lane]; exact (hboot _).2
  rw [bootState_eq]
  refine Booked.trans (fun hs => ?_) (evaluateAll_quiet _).booked
  obtain ⟨h, _⟩ := (licencesOk_iff s).1 hs
  refine (licencesOk_iff _).2 ⟨ht h htally, fun l => (phaseFits_iff _).2 (.inl ?_)⟩
  rw [htally, booted_lane, (hboot _).1]
  rfl

theorem dropInFlight_account {s u : State} (h : AccountOk s)
    (hr : u.licences.records = (dropInFlight s.licences).records) (hk : u.licences.keys = s.licences.keys)
    (hc : u.licences.clock < 2 ^ 40) (hu : ∀ l, (u.lane l).tally = absentTally) : AccountOk u := by
  refine h.of_records (g := fun x => { x with inFlight := 0 }) (fun _ => rfl) (hr ▸ .map _ _) hk hc (fun x _ hx => ?_)
    fun l => absentTally_entriesFit (hu l)
  rw [lanesReserving_none fun l e he => by rw [hu l] at he; exact nomatch he]
  exact ⟨rfl, fun ha => (Nat.le_add_right _ _).trans (hx.allowed ha), hx.notBefore, hx.notAfter⟩

theorem powerUp_booked (kept : Bool) (elapsed : Nat) (s : State) : Booked s (powerUp kept elapsed s) := by
  refine bootState_booked (fun _ => ⟨rfl, rfl⟩) fun h hu => ?_
  cases kept with
  | true =>
    refine dropInFlight_account h rfl rfl ?_ hu
    show min Config.clockMax (s.licences.clock + elapsed) < 2 ^ 40
    simp only [Config.clockMax]
    omega
  | false =>
    exact account_of_empty (fun r hr => List.eq_of_mem_replicate hr) (fun k hk => List.eq_of_mem_replicate hk)
      (Nat.two_pow_pos 40) fun l => absentTally_entriesFit (hu l)

theorem resetDevice_booked (external : Bool) (s : State) : Booked s (resetDevice external s) :=
  bootState_booked (fun _ => ⟨rfl, rfl⟩) fun h hu => dropInFlight_account h rfl rfl h.clock hu

end Sys2Proof.Machine
end

section
/-! The invariant of the licences through the fetch engine, the inputs, the device states and every command, and
the obligation about it. -/

namespace Sys2Proof.Machine

/-! ## The fetch engine -/

theorem books_of_besideStores {x y : Lane} (h : besideStores y = besideStores x) : books y = books x :=
  show books (besideStores y) = books (besideStores x) by rw [h]

theorem books_placeResult (e : Essence) (pos : Position) (body : EntryBody) (x : Lane) :
    books (placeResult e pos body x) = books x := by
  unfold placeResult
  split
  · rfl
  · split
    · rfl
    · exact books_setIndicatorIf _ _ _

theorem setFlight_quiet (f : Option Flight) (s : State) : Quiet s (setFlight f s) := .of_fields rfl rfl

theorem loseStore_quiet (l : LaneId) (pl : Place) (loss : StoreLoss) (s : State) :
    Quiet s (s.modLane l (loseStore pl loss)) := .modLane (books_of_besideStores (besideStores_loseStore pl loss _))

theorem modTrack_quiet (l : LaneId) (e : Essence) (f : EssenceTrack → EssenceTrack) (s : State) :
    Quiet s (modTrack l e f s) := .modLane rfl

theorem essenceWait_quiet (l : LaneId) (e : Essence) (pos : Position) (s : State) :
    Quiet s (essenceWait l e pos s) := by
  unfold essenceWait
  dsimp only
  split
  · exact modTrack_quiet l e _ s
  · exact ((modTrack_quiet l e _ s).trans (offerNoted_told _ _).quiet).trans (modTrack_quiet l e _ _)

theorem subtitleWait_quiet (l : LaneId) (pl : Place) (s : State) : Quiet s (subtitleWait l pl s) := by
  have hwait (st : Store) : Quiet s (s.modLane l (putStore pl st)) := .modLane rfl
  have hwanted (u : State) (w : Option Wanted) :
      Quiet u (u.modLane l fun y => { y with subWanted := y.subWanted.set (placeTrack pl) w }) := .modLane rfl
  unfold subtitleWait
  dsimp only
  split
  · exact hwait _
  · exact ((hwait _).trans (offerNoted_told _ _).quiet).trans (hwanted _ _)

theorem grantEssence_quiet (l : LaneId) (e : Essence) (s : State) : Quiet s (grantEssence l e s) := by
  have hplace (sh : Show) (pos : Position) (body : EntryBody) :
      Quiet s (s.modLane l fun y => placeResult e pos body (advanceFetch sh e pos y)) :=
    .modLane (books_placeResult e pos body _)
  have hadvance (sh : Show) (pos : Position) : Quiet s (s.modLane l (advanceFetch sh e pos)) := .modLane rfl
  unfold grantEssence
  dsimp only
  split
  · split
    · exact .refl s
    · split
      · exact hplace _ _ _
      · split
        · exact essenceWait_quiet l e _ s
        · split
          · exact hplace _ _ _
          · exact (hadvance _ _).trans (setFlight_quiet _ _)
  · exact .refl s

theorem grantSubtitle_quiet (l : LaneId) (pl : Place) (s : State) : Quiet s (grantSubtitle l pl s) := by
  have hwanted (q : Lane → PerSubtitle (Option Wanted)) :
      Quiet s (s.modLane l fun y => { y with subWanted := q y }) := .modLane rfl
  unfold grantSubtitle
  dsimp only
  split
  · exact .refl s
  · split
    · exact loseStore_quiet l pl _ s
    · split
      · exact subtitleWait_quiet l pl s
      · split
        · exact (hwanted _).trans (loseStore_quiet l pl _ _)
        · exact (hwanted _).trans (setFlight_quiet _ _)

theorem engineGrant_quiet (s : State) : Quiet s (engineGrant s) := by
  unfold engineGrant
  split
  · exact .refl s
  · split
    · exact .refl s
    · next l _ =>
      refine Quiet.trans (t := { s with engine := { s.engine with searchFrom := nextLane l } }) (.of_fields rfl rfl) ?_
      unfold grantWork
      split
      · split
        · exact grantSubtitle_quiet l _ _
        · exact grantEssence_quiet l _ _
      · exact grantSubtitle_quiet l _ _
      · exact grantEssence_quiet l _ _
      · exact .refl _

theorem completeEssence_quiet (agrees : Bool) (plain : List Byte) (s : State) :
    Quiet s (completeEssence agrees plain s) := by
  have hend := setFlight_quiet none s
  unfold completeEssence
  split
  · split
    · exact .refl s
    · dsimp only
      split
      · exact hend
      · split
        · exact hend
        · exact hend.trans (.modLane (books_placeResult _ _ _ _))
  · exact .refl s

theorem completeSubtitle_quiet (agrees : Bool) (plain : List Byte) (s : State) :
    Quiet s (completeSubtitle agrees plain s) := by
  have hend := setFlight_quiet none s
  unfold completeSubtitle
  split
  · split
    · exact .refl s
    · dsimp only
      split
      · exact hend
      · split
        · exact hend
        · split
          · exact hend
          · split
            · exact hend.trans (loseStore_quiet _ _ _ _)
            · split
              · exact hend.trans (loseStore_quiet _ _ _ _)
              · exact hend.trans (.modLane (books_of_besideStores (besideStores_receiveChunk _ _ _ _)))
  · exact .refl s

/-! ## The building inputs -/

theorem inputHold_quiet (s : State) (l : LaneId) : Quiet s (inputHold s l) := by
  unfold inputHold
  split
  · exact .modLane rfl
  · exact .refl s

theorem handInput_booked (i : Nat) (set : InputSettings) (s : State) (e : FilterEvent) :
    Booked s (handInput i set s e) := by
  have hreport := (reportInput_told i set e s).booked
  unfold handInput
  split
  · refine hreport.trans ?_
    unfold actOnLanes
    split
    · exact .refl _
    · exact .refl _
    · exact (Quiet.foldl inputHold_quiet _ _).booked
    · exact .foldl (fun u l => emergencyReaches_booked l u) _ _
  · exact hreport

theorem handInputs_booked (i : Nat) (set : InputSettings) (es : List FilterEvent) (s : State) :
    Booked s (handInputs i set es s) := by
  unfold handInputs
  split
  · exact .refl s
  · exact (writeDeviceStatus_told s).booked.trans (.foldl (handInput_booked i set) es _)

theorem tickInput_booked (contacts : BitVec 8) (s : State) (i : Nat) : Booked s (tickInput contacts s i) := by
  have hset (is : List Input) : Quiet s { s with inputs := is } := .of_fields rfl rfl
  unfold tickInput
  split
  · exact .refl s
  · exact (hset _).booked.trans (handInputs_booked i _ _ _)

theorem inputTickAll_booked (contacts : BitVec 8) (s : State) : Booked s (inputTickAll contacts s) := by
  unfold inputTickAll
  split
  · exact .refl s
  · exact Booked.trans (t := { s with inputTicks := s.inputTicks + 1 }) (Quiet.of_fields rfl rfl).booked
      (.foldl (tickInput_booked contacts) _ _)

/-! ## The taking of requests -/

theorem writeBuffer_quiet (a : Nat) (bs : List Byte) (r : Answer) (s : State) : Quiet s (writeBuffer a bs r s).1 := by
  unfold writeBuffer
  split
  · exact .refl s
  · exact .of_fields rfl rfl

theorem doSetInputs_quiet (b : List Byte) (s : State) : Quiet s (doSetInputs b s).1 := by
  have hset (is : List Input) : Quiet s { s with inputs := is } := .of_fields rfl rfl
  unfold doSetInputs
  split
  · exact .refl s
  · split
    · exact .refl s
    · split
      · exact .refl s
      · dsimp only
        split
        · exact hset _
        · exact (hset _).trans (writeDeviceStatus_told _).quiet

theorem deviceRequest_booked {kind : Nat} {rq : Req} {b : List Byte} {agrees : Bool} {s : State}
    {r : State × Answer} (h : deviceRequest kind rq b agrees s = some r) : Booked s r.1 := by
  unfold deviceRequest at h
  split at h
  case h_10 => cases h
  all_goals obtain rfl := (Option.some.inj h).symm
  · exact doInstall_booked b agrees s
  · exact doRemove_booked rq s
  · unfold doRead
    split
    · exact .refl s
    · split
      · exact .refl s
      · exact (writeBuffer_quiet _ _ _ s).booked
  · unfold doList
    dsimp only
    split
    · exact .refl s
    · exact (writeBuffer_quiet _ _ _ s).booked
  · exact doSetClock_booked rq s
  · exact doAdjustClock_booked rq s
  · exact .refl s
  · exact doFactoryClear_booked s
  · exact (doSetInputs_quiet b s).booked

theorem judgeRequest_booked (n : SlotId) (kind : Nat) (rq : Req) (agrees : Bool) (s : State) :
    Booked s (judgeRequest n kind rq agrees s).1 := by
  unfold judgeRequest
  split
  · exact .refl s
  · split
    · exact .refl s
    · next b _ =>
      cases n with
      | lane l =>
        change Booked s ((laneRequest l kind rq b s).getD (s, codeAnswer .unknownRequest)).1
        cases h : laneRequest l kind rq b s with
        | none => exact .refl s
        | some r => exact laneRequest_booked h
      | device =>
        change Booked s ((deviceRequest kind rq b agrees s).getD (s, codeAnswer .unknownRequest)).1
        cases h : deviceRequest kind rq b agrees s with
        | none => exact .refl s
        | some r => exact deviceRequest_booked h

theorem putBytes_quiet (a : Nat) (bs : List Byte) (s : State) : Quiet s (putBytes a bs s) := .of_fields rfl rfl

theorem writeAnswer_quiet (n : SlotId) (kind : Nat) (rq : Req) (r : State × Answer) :
    Quiet r.1 (writeAnswer n kind rq r) := by
  have hput := putBytes_quiet (slotAddr r.1 n) (answerBytes kind rq r.2) r.1
  refine (hput.trans (setAttention_told (slotIndex n) _).quiet).trans ?_
  cases n with
  | lane l => exact writeLaneStatus_quiet l _
  | device => exact .refl _

theorem serve_booked (n : SlotId) (kind : Nat) (rq : Req) (agrees : Bool) (s : State) :
    Booked s (serve n kind rq agrees s) := by
  unfold serve
  split
  · exact ((putBytes_quiet _ _ s).booked.trans (judgeRequest_booked n kind rq agrees _)).trans
      (writeAnswer_quiet n kind rq _).booked
  · exact .refl s

theorem lookSlot_booked (agrees : Bool) (s : State) (n : SlotId) : Booked s (lookSlot agrees s n) := by
  unfold lookSlot
  split
  · exact .refl s
  · exact serve_booked n _ _ agrees s

theorem lookSummoned_booked (agrees : Bool) (s : State) (n : SlotId) : Booked s (lookSummoned agrees s n) := by
  unfold lookSummoned
  split
  · exact .refl s
  · exact Booked.trans (t := { s with summonFlags := s.summonFlags &&& ~~~summonBit n })
      (Quiet.of_fields rfl rfl).booked (lookSlot_booked agrees _ n)

theorem summonWrite_booked (mask : Word32) (agrees : Bool) (s : State) : Booked s (summonWrite mask agrees s) := by
  have hlatch : Booked s { s with summonFlags := s.summonFlags ||| mask.setWidth 5 } :=
    (Quiet.of_fields rfl rfl).booked
  unfold summonWrite
  dsimp only
  split
  · exact (hlatch.trans (gapCheck_told _).booked).trans (.foldl (lookSummoned_booked agrees) _ _)
  · exact hlatch
  · exact hlatch
  · exact .refl s
  · exact .refl s

theorem boundary_booked (l : LaneId) (s : State) : Booked s (boundary l s) := by
  by_cases h : s.clockUnit.source = .acquiring
  · rw [boundary, if_pos h]
    exact .refl s
  · rw [boundary_eq h]
    refine ((boundaryBody_booked l s).trans (boundaryStatus_quiet l s _).booked).trans ?_
    unfold boundaryLook
    refine Booked.trans ?_ (noteChanges_quiet _ _).booked
    split
    · exact lookSlot_booked false _ (.lane l)
    · exact .refl _

/-! ## The device states and the Clock Unit -/

theorem setReason_quiet (r : DeviceReason) (s : State) : Quiet s (setReason r s) := by
  unfold setReason
  split
  · exact .refl s
  · exact .of_fields rfl rfl

theorem firstWriteSteps_licences {f : State → State} (h : f ∈ firstWriteSteps) (s : State) :
    (f s).licences = s.licences := by
  simp only [firstWriteSteps, List.mem_cons, List.not_mem_nil, or_false] at h
  rcases h with rfl | rfl | rfl | rfl | rfl | rfl <;> rfl

theorem makeFirstWrites_quiet (s : State) : Quiet s (makeFirstWrites s) := by
  refine ⟨.of_eq ?_, fun l => books_of_bare (makeFirstWrites_bare s l)⟩
  have hall : ∀ (fs : List (State → State)), (∀ f ∈ fs, f ∈ firstWriteSteps) → ∀ u : State,
      (fs.foldl (fun s f => f s) u).licences = u.licences := by
    intro fs
    induction fs with
    | nil => exact fun _ u => rfl
    | cons f fs ih =>
      exact fun h u => (ih (fun g hg => h g (List.mem_cons_of_mem _ hg)) (f u)).trans
        (firstWriteSteps_licences (h f List.mem_cons_self) u)
  exact hall _ (fun f hf => List.mem_of_mem_take hf) s

theorem acceptTable_quiet (s : State) : Quiet s (acceptTable s) := by
  have hstored : Quiet s { s with hiStored := false } := .of_fields rfl rfl
  have hfresh (u : State) : Quiet u (freshTable u) := ⟨.refl _, fun l => by cases l <;> rfl⟩
  have hrun (u : State) : Quiet u (enterRunning u) :=
    Quiet.trans (t := { u with device := .running, reason := .none }) (.of_fields rfl rfl)
      ((setAttention_told 6 _).trans (writeDeviceStatus_told _)).quiet
  unfold acceptTable failAcceptance
  refine hstored.trans ?_
  dsimp only
  split
  · exact setReason_quiet _ _
  · split
    · exact setReason_quiet _ _
    · split
      · exact setReason_quiet _ _
      · have hwrites := (hfresh { s with hiStored := false }).trans (makeFirstWrites_quiet _)
        split
        · exact hwrites.trans (hrun _)
        · exact hwrites.trans (setReason_quiet _ _)

theorem enterWaitTable_quiet (s : State) : Quiet s (enterWaitTable s) := by
  have hwait : Quiet s (noteDeviceChange { s with device := .waitTable }) := .of_fields rfl rfl
  unfold enterWaitTable
  dsimp only
  split
  · exact hwait.trans (acceptTable_quiet _)
  · exact hwait

theorem writeBaseHi_quiet (v : Word32) (s : State) : Quiet s (writeBaseHi v s) := by
  unfold writeBaseHi
  split
  · exact .of_fields rfl rfl
  · exact Quiet.trans (t := { s with tableHi := v }) (.of_fields rfl rfl) (acceptTable_quiet _)
  all_goals exact .refl s

theorem writeBaseLo_quiet (v : Word32) (s : State) : Quiet s (writeBaseLo v s) := by
  unfold writeBaseLo
  split
  case h_1 | h_2 => exact .of_fields rfl rfl
  all_goals exact .refl s

theorem endReset_quiet (s : State) : Quiet s (endReset s) := by
  have hsource (src : ClockSource) :
      Quiet s (enterWaitTable { s with clockUnit := { s.clockUnit with source := src } }) :=
    Quiet.trans (t := { s with clockUnit := { s.clockUnit with source := src } }) (.of_fields rfl rfl)
      (enterWaitTable_quiet _)
  unfold endReset
  split
  · exact .refl s
  · split
    · exact hsource .internal
    · split
      · exact hsource .external
      · exact .of_fields rfl rfl

theorem setSource_quiet (src : ClockSource) (s : State) : Quiet s (setSource src s) :=
  Quiet.trans (t := { s with clockUnit := { s.clockUnit with source := src } }) (.of_fields rfl rfl)
    (writeDeviceStatus_told _).quiet

theorem setLocked_quiet (b : Bool) (s : State) : Quiet s (setLocked b s) :=
  Quiet.trans (t := { s with clockUnit := { s.clockUnit with refLocked := b } }) (.of_fields rfl rfl)
    (writeDeviceStatus_told _).quiet

theorem switchBack_quiet (s : State) : Quiet s (switchBack s) :=
  ⟨.of_eq (switchBack_licences s), fun l => by rw [switchBack_lane]⟩

theorem selectSource_quiet (external : Bool) (s : State) : Quiet s (selectSource external s) := by
  have hselected (b : Bool) : Quiet s { s with clockUnit := { s.clockUnit with external := b } } := .of_fields rfl rfl
  unfold selectSource
  split
  · refine (hselected true).trans ?_
    unfold selectExternal
    dsimp only
    split
    · exact .refl _
    · split
      · exact setSource_quiet _ _
      · exact setSource_quiet _ _
  · refine (hselected false).trans ?_
    unfold selectInternal
    dsimp only
    split
    · split
      · exact enterWaitTable_quiet _
      · exact .refl _
    · split
      · exact (setSource_quiet _ _).trans (enterWaitTable_quiet _)
      · exact setSource_quiet _ _

theorem referenceLocks_quiet (s : State) : Quiet s (referenceLocks s) := by
  have hlocked := setLocked_quiet true s
  unfold referenceLocks
  split
  · exact .refl s
  · dsimp only
    split
    · exact hlocked
    · exact hlocked
    · exact (hlocked.trans (clockEntry_told _ _).quiet).trans (switchBack_quiet _)
    · split
      · exact (hlocked.trans (setSource_quiet _ _)).trans (enterWaitTable_quiet _)
      · exact hlocked

theorem referenceGoes_quiet (s : State) : Quiet s (referenceGoes s) := by
  have hlocked := setLocked_quiet false s
  unfold referenceGoes
  split
  · exact .refl s
  · dsimp only
    split
    · exact hlocked
    · exact hlocked
    · exact (hlocked.trans (setSource_quiet _ _)).trans (clockEntry_told _ _).quiet
    · exact hlocked.trans (clockEntry_told _ _).quiet

theorem maintenanceTo_quiet (b : Bool) (s : State) : Quiet s (maintenanceTo b s) := by
  unfold maintenanceTo
  split
  · exact .refl s
  · exact Quiet.trans (t := { s with maintenance := b }) (.of_fields rfl rfl)
      ((setAttention_told 6 _).trans (writeDeviceStatus_told _)).quiet

theorem accessFailed_booked (dir : AccessDir) (area : HaltArea) (s : State) : Booked s (accessFailed dir area s) := by
  have hsilence (u : State) (l : LaneId) : Quiet u (u.modLane l fun x => { silenceLines x with contacts := 0 }) :=
    .modLane rfl
  have hhalt (r : DeviceReason) :
      Quiet s (noteDeviceChange { s with device := .halted, reason := r, haltArea := some area }) :=
    .of_fields rfl rfl
  unfold accessFailed
  split
  · exact ((hhalt _).booked.trans (.foldl (fun u l => emergencyStop_booked l u) _ _)).trans
      (Quiet.foldl hsilence _ _).booked
  · exact .refl s

theorem writeRegister_booked (offset : BitVec 5) (v : Word32) (agrees : Bool) (s : State) :
    Booked s (writeRegister offset v agrees s) := by
  unfold writeRegister
  split
  · exact (writeBaseLo_quiet v s).booked
  · split
    · exact (writeBaseHi_quiet v s).booked
    · split
      · unfold writeControl
        split
        · exact resetDevice_booked _ s
        · exact (selectSource_quiet _ s).booked
      · split
        · exact summonWrite_booked v agrees s
        · split
          · exact (Quiet.of_fields rfl rfl).booked
          · exact .refl s

/-! ## Every command -/

theorem exec_booked {c : Instr} {s t : State} (ht : exec c s = .next t) : Booked s t := by
  have hnote {u : State} (h : Booked s u) : Booked s (noteChanges s u) := h.trans (noteChanges_quiet s u).booked
  have hif {u : State} {b : Prop} [Decidable b] (h : Booked s u) :
      Booked s (noteChanges s (if b then u else s)) := by
    split
    · exact hnote h
    · exact hnote (.refl s)
  have hboundary (due : Bool) (l : LaneId) : Booked s (boundaryIf due l s) := by
    unfold boundaryIf
    split
    · exact boundary_booked l s
    · exact .refl s
  have hacts (acts : HostActs) : Quiet s (applyActs acts s) := .of_fields rfl rfl
  cases c
  all_goals obtain rfl := Host.Outcome.next.inj ht
  case powerOn kept n => exact hnote (powerUp_booked kept n s)
  case deviceReset external => exact hnote (resetDevice_booked external s)
  case resetWorkComplete => exact hnote (endReset_quiet s).booked
  case clockSourceSelect external => exact hnote (selectSource_quiet external s).booked
  case tableBaseHiWrite v acts => exact hnote ((hacts acts).trans (writeBaseHi_quiet v _)).booked
  case registerWrite offset v acts agrees =>
    exact hnote ((hacts acts).booked.trans (writeRegister_booked offset v agrees _))
  case summon mask acts agrees => exact hnote ((hacts acts).booked.trans (summonWrite_booked mask agrees _))
  case attentionRead => exact hnote (Quiet.of_fields (t := readAttention s) rfl rfl).booked
  case attentionMaskWrite v => exact hnote (Quiet.of_fields (t := writeMask v s) rfl rfl).booked
  case maintenanceInputChange b => exact hnote (maintenanceTo_quiet b s).booked
  case unknownRequestKind n kind rq =>
    refine hnote ?_
    split
    · exact .refl s
    · exact serve_booked n kind.toNat rq false s
  case loadShow l rq | unload l rq | rewind l rq | laneReset l rq | setLaneOptions l rq | writeSoundMap l rq |
      start l rq | startAt l rq | cancelStart l rq | hold l rq | cancelHold l rq | resume l rq | stop l rq |
      seek l rq | setLevel l rq | testIndicators l rq | linkTest l rq =>
    exact hnote (serve_booked (.lane l) _ rq false s)
  case startAtFiring => exact hif (tickSecond_booked s)
  case installLicence rq agrees => exact hnote (serve_booked .device _ rq agrees s)
  case removeLicence rq | readLicence rq | listLicences rq | setClock rq | adjustClock rq | readIdentity rq |
      factoryClear rq | setInputs rq => exact hnote (serve_booked .device _ rq false s)
  case frameBoundary l => exact boundary_booked l s
  case primed l | seekPrimed l | holdTaken l | starveLimitExpiry l | linkGraceExpiry l | holdLimitExpiry l |
      closingWindowExpired l | linkTestComplete l => exact hboundary _ l
  case millisecondTick l => exact hnote (tickLane_booked l s)
  case fadeComplete l => exact hif (tickLane_booked l s)
  case secondEvent => exact hnote (tickSecond_booked s)
  case inputTick contacts => exact hnote (inputTickAll_booked contacts s)
  case inputDebounceAccept i contacts => exact hif (inputTickAll_booked contacts s)
  case chatterLeft i contacts => exact hif (inputTickAll_booked contacts s)
  case fetchGrant => exact hnote (engineGrant_quiet s).booked
  case fetchCompletion agrees plain => exact hnote (completeEssence_quiet agrees plain s).booked
  case subtitleChunkCompletion agrees plain => exact hnote (completeSubtitle_quiet agrees plain s).booked
  case lineFaultDetected l k => exact hnote (lineFault_booked l k s)
  case lineGood l => exact hnote (lineIsGood_booked l s)
  case lockAchieved l => exact hnote (lockGained_booked l s)
  case lockLost l => exact hnote (lockGone_booked l s)
  case badReport l => exact hif (Quiet.modLane (l := l) rfl).booked
  case headIdentityReport l identity => exact hnote (takeIdentity_booked l identity s)
  case headStatusReport l ready => exact hif (modLink_quiet l _ s).booked
  case shownReport l seq => exact hif (takeShown_booked l seq.toNat s)
  case testTallyReport l seq intact => exact hif (modLink_quiet l _ s).booked
  case referenceLock => exact hnote (referenceLocks_quiet s).booked
  case referenceLoss => exact hnote (referenceGoes_quiet s).booked
  case clockSwitchBack => exact hnote (switchBack_quiet s).booked
  case journalGap => exact hnote (gapCheck_told s).booked
  case tableAccessFailure dir area => exact hnote (accessFailed_booked dir area s)

/-- Settles O9: the device's fields by `exec_command`, the account of the licences by `exec_booked`. -/
theorem stepsKeepTheReasonFitting : Obligations.StepsKeepTheReasonFitting :=
  ⟨fun _ _ => step_induction (P := fun s => deviceFieldsOk s) (fun _ _ => id)
      fun _ _ _ ht => (exec_command ht).keeps.device,
    fun _ _ => step_induction (P := fun s => licencesOk s) (fun _ _ => id) fun _ _ _ => exec_booked⟩

end Sys2Proof.Machine
end
